-- ==== Sys2Proof/Word.lean ====
section
/-!
DEFINITION. The word of the control space and its plainest arithmetic. Every access moves one whole 32-bit word (R36).
-/

namespace Sys2Proof

/-- One word of the control space (R36). -/
abbrev Word := BitVec 32

/-- A word given by a natural number, modulo 2^32. -/
abbrev Word.of (n : Nat) : Word := BitVec.ofNat 32 n

/-- A byte of a port's transfer. -/
abbrev Byte := BitVec 8

end Sys2Proof
end

