-- ==== Sys2Proof/Syntax.lean ====
section
/-!
DEFINITION. The commands of the block, one constructor per row of the opcode table, and the data their operands carry.
-/

namespace Sys2Proof

/-- Who makes a control-space access (R566): the ports, the partner, an anvil, the boot ROM, the internal pair master, the image loader,
the JTAG access register and the scheduler's TEST action (which writes as a TEST write, R607). DMA makes no control-space access.
(Log entry 31: DESIGN CHOICE.) -/
inductive Master where
  | twt | spit | vhk | jtag | boot | pair | loader | testAction
  | anvil (n : Nat)
  deriving DecidableEq, Repr

/-- The domain of an access (R566). -/
inductive Domain where
  | owner | host | twin | test | himg
  deriving DecidableEq, Repr

/-- A subframe as the IEC 60958 receiver reads it (R224): its audio word in bits [23:0], whether parity holds, its validity bit and its
channel-status bit. -/
structure Subframe where
  word   : Word
  parity : Bool
  vbit   : Bool
  cs     : Bool
  deriving DecidableEq, Repr

/-- A section of an image (R579): its kind, target, flags and address, and its payload as words, decrypted where the image was
encrypted. -/
structure Section where
  kind   : Nat
  target : Nat
  flags  : Nat
  addr   : Nat
  words  : List Word
  deriving DecidableEq, Repr

/-- A Ndoax image as the loader reads it (R578), with the verdicts of the checks whose arithmetic is cryptography: the signature and the
GCM tag. `formatOk` covers MAGIC, VERSION, FLAGS and the section table's place inside the image. -/
structure Image where
  formatOk : Bool
  /-- 1 OWNER, 2 HOST. -/
  ty       : Nat
  length   : Nat
  rollback : Nat
  keyHash  : List Word
  sigOk    : Bool
  tagOk    : Bool
  sections : List Section
  deriving DecidableEq, Repr

/-- An edge at a wake source (R84): the source, and for GP0 to GP3 whether the pin rises. -/
structure WakeEdge where
  source : Nat
  rising : Bool
  deriving DecidableEq, Repr

/-- A queue or a billet by its number, and whether its location record reads with an uncorrectable error (R154). -/
structure LedgerRef where
  id  : Nat
  bad : Bool
  deriving DecidableEq, Repr

/-- The uncorrectable errors that a scrub pass reports: billets, each with whether its tag can be read (R148); whether a location record
and one of the ledger's counters show one (R154); whether the fault record disagrees with its parity copy or its log memory has one
(R596); and one of the Tongs, as its FB_CAUSE: 3 in a delay register, 4 in their memory, 0 none (R424). -/
structure ScrubErrors where
  billets : List (Nat × Bool)
  record  : Bool
  counter : Bool
  faults  : Bool := false
  tongs   : Nat := 0
  deriving DecidableEq, Repr

/-- A control message over the link (R544): class, type, SEQ and payload words. `good` is the verdict on the HMAC it carries (R556). -/
structure Message where
  cls     : Nat
  ty      : Nat
  seq     : Nat
  payload : List Word
  good    : Bool := true
  deriving DecidableEq, Repr

/-- An outcome entry of a heartbeat (R547): SEQ of the PREPARE, target stroke, outcome (1 applied, 2 cold shut, 3 deferred), reason, and the
sender's identifier. -/
structure PairOutcome where
  seq     : Nat
  target  : Nat
  outcome : Nat
  reason  : Nat
  id      : Nat
  deriving DecidableEq, Repr

/-- One channel of the Tongs field (R548): Tc and Tm in 1/64 °C, the level A in 1/256 dB, and the flag word. -/
structure CoilReport where
  tc    : Int := 0
  tm    : Int := 0
  level : Int := 0
  flags : Nat := 0
  deriving DecidableEq, Repr

/-- A mirror record (R549): KIND (1 DELTA, 2 SWEEP, 3 ADOPT), the first word index and the value words. -/
structure MirrorRecord where
  kind  : Nat
  first : Nat
  words : List Word
  deriving DecidableEq, Repr

/-- A superframe (R537, R538, R547): the verdicts on its CRC-32 and its tag, and its fields. -/
structure Superframe where
  crcOk    : Bool := true
  tagOk    : Bool := true
  lead     : Bool
  solo     : Bool
  secure   : Bool
  rate96   : Bool
  adopting : Bool
  epoch    : Nat
  sfseq    : Nat
  sfack    : Nat
  stamp    : Nat
  ackWeld  : Nat
  ackReg   : Nat
  ackPair  : Nat
  audValid : Nat := 0
  status   : Nat := 0
  state    : Nat := 0
  cls      : Nat := 0
  dOwn     : Nat := 0
  dMir     : Nat := 0
  outcomes : List PairOutcome := []
  err      : Nat := 0
  coils    : List CoilReport := []
  msgs     : List Message := []
  audFlags : List Nat := []
  audio    : List (List Word) := []
  records  : List MirrorRecord := []
  deriving DecidableEq, Repr

/-- A conversion of an on-chip capture channel (R443, R468, R651): a sample of both channels of line pair `n` with the number of them that
stood at an end of full scale; a hearth sample of microphone channel `k`'s HQ path, with its LP path's sample interpolated to that instant;
a sample of its LP path. (Log entry 8: DESIGN CHOICE.) -/
inductive OnChip where
  | line (n tick : Nat) (l r : Word) (ovl : Nat)
  | hq (k tick : Nat) (v lp : Word)
  | lp (k tick : Nat) (v : Word)
  deriving DecidableEq, Repr

/-- A command of the block: what the outside world, or one of the block's own engines, does next.
(Log entries 8: DESIGN CHOICE, 71: DEDUCED.) -/
inductive Instr where
  /-- The 64-bit timebase advances by one tick at 98.304 MHz (R105). -/
  | tbTick
  /-- Every 256 ticks the broadcast bus refreshes every timebase replica; a replica more than 1 tick off adopts the value (R106). -/
  | tbBroadcast (replicas : List Nat)
  /-- In sleep or after fast clock loss, each rising slow-clock edge adds exactly 3,000 to the timebase (R108). -/
  | slowClockEdge
  /-- At a stroke boundary in FORGING the device publishes the stroke weld, applies welds, fires boundary actions, audits and releases the
  anvils in order (R28). -/
  | strokeBoundary
  /-- The stroke deadline STROKE.DEADLINE ticks after the boundary expires and each stroke-mode anvil and output input is judged
  (R174). -/
  | strokeDeadline
  /-- A write to a register without behaviour of its own acts on each field by its access type, with rights, locks, reserved bits and
  range checked (R42). -/
  | registerWrite (m : Master) (p off : Nat) (v : Word)
  /-- A read of a LO word latches the HI word into the reading master's snapshot (R68). -/
  | wideLoRead (m : Master) (p off : Nat)
  /-- Writing PG_CTRL.SRST starts a soft reset of the block with BUSY held and registers returned to reset (R51). -/
  | srst (m : Master) (p : Nat)
  /-- The soft reset completes within 2 us, BUSY falls and any writes refused meanwhile are recorded with BUSY (R51). -/
  | softResetDone (p : Nat)
  /-- A write of PG_CTRL.EN enables or disables a block that has a true enable (R50). -/
  | pageEnable (m : Master) (p : Nat) (on : Bool)
  /-- Setting or clearing PG_CTRL.FREEZE holds or releases the page's status, counter and meter words (R53). -/
  | pgFreeze (m : Master) (p : Nat) (on : Bool)
  /-- A W1C write of IRQ_PEND clears pending bits, which set again while the cause stays (R54). -/
  | irqPendClear (m : Master) (p : Nat) (v : Word)
  /-- Writing IRQ_FORCE sets IRQ_PEND bits, for OWNER and TEST only (R55). -/
  | irqForce (m : Master) (p : Nat) (v : Word)
  /-- An OWNER write of PG_ACCESS sets the domain rights of the page, or sets LOCK fixing the word until reset (R56). -/
  | pgAccessWrite (m : Master) (p : Nat) (v : Word)
  /-- An OWNER write of PG_LOCK locks groups of words or PG_CTRL and IRQ_EN until reset (R60). -/
  | pgLockWrite (m : Master) (p : Nat) (v : Word)
  /-- A clock domain starts within 4 source cycles of its clock request (R97). -/
  | clockDomainStart (d : Nat)
  /-- A clock domain stops after 32 consecutive cycles without a request (R97). -/
  | clockDomainStop (d : Nat)
  /-- VAON rising through 2.60 V takes the device from COLD towards WARM and the timebase starts from 0 (R74). -/
  | porRelease (defStrap role addr : Nat)
  /-- VAON reaching 2.45 V resets the device, safes the outputs within 5 us and returns it to COLD (R103). -/
  | vaonReset (kept : Bool)
  /-- A write of SYS.RESET with the right KEY and GO resets the whole device (R43). -/
  | sysReset (m : Master) (v : Word)
  /-- After POR release, device reset or wake the boot ROM runs its numbered steps up to DONE (R643). -/
  | bootSequence (fast : Nat) (magic : Bool)
  /-- A write of PWR.MODE.REQ requests a power state, held during a transition and routed through WARM where needed (R74). -/
  | pwrModeRequest (m : Master) (req : Nat)
  /-- PLLA achieves lock after its reference is stable (R86). -/
  | pllaLock
  /-- The device enters FORGING at the first stroke boundary after PLLA lock (R75). -/
  | forgingEntry
  /-- Leaving FORGING stops the started stages, publishes the final stroke weld, audits and stops the audio clocks (R76). -/
  | forgingExit
  /-- Entry to BANKED or EMBER frees unretained billets, drops scheduler entries and welds, drives PSW_EN low and removes core power
  (R77). -/
  | sleepEntry
  /-- An enabled wake source event in BANKED or EMBER wakes the device and records its cause, or aborts a sleep entry (R84). -/
  | wakeEvent (e : WakeEdge)
  /-- The timebase reaching PWR.ALARM raises the ALARM wake source (R84). -/
  | pwrAlarm
  /-- No fast-source edge for 2 us switches the fabric to the RC oscillator, raises CLK_LOSS and quenches to WARM (R88). -/
  | fastClockLoss
  /-- A failing slow source makes the island switch to the low-power RC and clear SLOW_OK (R88). -/
  | slowClockFail
  /-- A write of CLK.HEARTH in WARM changes the hearth rate or reference, renumbers strokes and returns ASRC engines to ACQUIRE (R111). -/
  | hearthRateWrite (m : Master) (v : Word)
  /-- A write of CLK.SRC in WARM changes the clock source and PLLA relocks within 0.2 ms (R95). -/
  | clkSrcWrite (m : Master) (v : Word)
  /-- PLLB_LOCK sets after the tracking error stays within 2 ppm for 64 strokes (R92). -/
  | pllbLockSet (pull : Int)
  /-- PLLB_LOCK clears when the tracking error leaves 20 ppm (R92). -/
  | pllbLockClear
  /-- A followed source in STALL or LOSS or removed puts PLLB into holdover with CLK_HOLDOVER raised (R92). -/
  | pllbHoldover
  /-- VAON falling below 2.90 V in WARM or FORGING enters BRACE, or sets VAON_LOW in sleep (R101). -/
  | vaonWarningFall
  /-- VAON held above 2.96 V for 2 ms ends BRACE, increments BRACE_COUNT and releases deferred welds (R102). -/
  | braceEnd
  /-- VSYS falling below 2.80 V raises VSYS_UV, quenches and goes to WARM (R100). -/
  | vsysUndervoltage
  /-- VSYS below 2.80 V for 1 ms takes the device to BANKED (R100). -/
  | vsysUvTimeout
  /-- An edge on a capture channel's pin stores its timebase value and sets VALID, or OVR on overwrite (R112). -/
  | captureEdge (pin : Nat) (rising : Bool) (tick : Nat)
  /-- A read of TB.CAPn_HI returns the capture and clears VALID unless it returned an overwritten snapshot (R113). -/
  | capHiRead (m : Master) (n : Nat)
  /-- A read of SCHED.ARM checks the new-entry words and arms the lowest free entry or returns a refusal reason (R117). -/
  | schedArm (m : Master)
  /-- A write of SCHED.CANCEL returns an armed entry of the writer's domain to free (R124). -/
  | schedCancel (m : Master) (index : Nat)
  /-- A tick-timed action fires when the target's replica reaches its time, dispatching in arm order (R119). -/
  | schedFire
  /-- The target accepts a fired action within 8 cycles and the entry returns to free (R115). -/
  | schedAccept
  /-- A PORT_START action starts every named port side on the same hearth sample (R116). -/
  | portStart (m : Master) (index : Nat) (payload : Word)
  /-- A PORT_STOP action stops every named side at the end of its current frame (R116). -/
  | portStop (m : Master) (index : Nat) (payload : Word)
  /-- A STAGE_START action begins the start sequence of each named channel that passes its own check (R649). -/
  | stageStart (m : Master) (index : Nat) (payload : Word)
  /-- A STAGE_MUTE action writes MUTE 1 on each named channel (R385). -/
  | stageMute (m : Master) (index : Nat) (payload : Word)
  /-- A STAGE_UNMUTE action writes MUTE 0 on each named channel (R385). -/
  | stageUnmute (m : Master) (index : Nat) (payload : Word)
  /-- A WELD_COMMIT action commits the named weld with target 0 as the arming master (R116). -/
  | actionWeldCommit (m : Master) (index : Nat) (payload : Word)
  /-- An AUX_INJ action triggers the injected sequence of each named converter (R489). -/
  | auxInj (m : Master) (index : Nat) (payload : Word)
  /-- A GPIO_SET action drives the named outputs high on one tick (R532). -/
  | gpioSet (m : Master) (index : Nat) (payload : Word)
  /-- A GPIO_CLR action drives the named outputs low on one tick (R532). -/
  | gpioClr (m : Master) (index : Nat) (payload : Word)
  /-- An IRQ action sets SCHED cause ACTION and writes its tag to SCHED.EVT (R116). -/
  | actionIrq (m : Master) (index : Nat) (payload : Word)
  /-- A TEST action writes its payload to TEST.LOOP as a TEST write (R607). -/
  | actionTest (m : Master) (index : Nat) (payload : Word)
  /-- A follower in WARM loads its timebase in one step from the lead's superframe stamp plus link delay (R127). -/
  | tbAcquire (stamp : Nat)
  /-- After 64 consecutive measured strokes with error within 2 ticks the follower sets LOCK and ends PAIR_DRIFT (R128). -/
  | followerLockSet
  /-- A producer's credit request is granted a FREE billet while OUTSTANDING is below DEPTH, or refused (R137). -/
  | creditGrant (q : LedgerRef)
  /-- A producer puts a filled billet on its queue, stamping DOMAIN, or it is refused as stale (R142). -/
  | billetPut (q b gen stamp count offset flags : Nat) (data : List Word)
  /-- A consumer takes the oldest billet from its queue (R137). -/
  | billetTake (q : Nat)
  /-- A consumer releases a billet, which returns to FREE with its credit (R137). -/
  | billetRelease (b : LedgerRef)
  /-- A write of a queue descriptor enables, resizes or disables the queue, drawing or returning billets (R141). -/
  | queueDescriptorWrite (m : Master) (v : Word)
  /-- A single-bit error in a billet or tag is corrected and written back (R147). -/
  | stockCe
  /-- An uncorrectable error quarantines the billet, returns its credit and delivers a MISSING replacement (R148). -/
  | stockUe (b : Nat) (readable : Bool)
  /-- The scrubber reads every billet, tag and location record of an enabled slab once every 4,096 strokes (R149). -/
  | scrubPass (ce : Nat) (ue : ScrubErrors)
  /-- A STOCK soft reset in WARM disables every queue and rewrites and checks every billet (R150). -/
  | stockSrst (m : Master)
  /-- The Stock reset or rebuild finishes within 1 ms with failing billets in QUARANTINE and the rest FREE (R150). -/
  | stockRebuildDone (bad : List Nat)
  /-- A write of LEDGER.CTRL.AUDIT_NOW requests an audit at once in WARM or at the next boundary (R153). -/
  | auditNow (m : Master)
  /-- A read of WELD.OPEN takes the lowest FREE identifier, marks it OPEN for the reader and returns it (R157). -/
  | weldOpen (m : Master)
  /-- A master's write of its own weld selector selects an OPEN weld it opened or deselects (R159). -/
  | weldSelect (m : Master) (id : Nat)
  /-- A write to an STG register under a selected weld takes a staging entry, checked against the opener's rights (R162). -/
  | weldStageWrite (m : Master) (p off : Nat) (v : Word)
  /-- A write of WELD.COMMIT runs the first validation and makes the weld PENDING for its target or cold-shuts it (R165). -/
  | weldCommit (m : Master) (v : Word)
  /-- A write of WELD.ABORT cold-shuts the master's OPEN or PENDING weld with ABORTED (R170). -/
  | weldAbort (m : Master) (id : Nat)
  /-- A write of WELD.UNDO within the re-heat window commits an undo for the first boundary 256 ticks later (R171). -/
  | weldUndo (m : Master) (id : Nat)
  /-- After step 2 of boundary b + 4 an undo record without an accepted undo is discarded and the weld CLOSED (R171). -/
  | reheatWindowEnd
  /-- An STG write with no weld selected and queuing in force enters CMDQ, or is refused when full (R187). -/
  | cmdqEnqueue (m : Master) (p off : Nat) (v : Word)
  /-- SAPn.CMD START_TX checks and starts the TX side at the next hearth sample (R200). -/
  | startTx (m : Master) (n : Nat)
  /-- SAPn.CMD START_RX checks and starts the RX side at the next hearth sample (R200). -/
  | startRx (m : Master) (n : Nat)
  /-- SAPn.CMD STOP_TX stops the TX side, releasing unplayed billets (R203). -/
  | stopTx (m : Master) (n : Nat)
  /-- SAPn.CMD STOP_RX stops the RX side and closes its billets (R203). -/
  | stopRx (m : Master) (n : Nat)
  /-- An RX side receives one frame whole, judging it normal, short or long and delivering or discarding it (R205). -/
  | sapRxFrame (n tick nbits : Nat) (words : List Word)
  /-- No frame edge or target bit clock for two frame periods declares STALL (R210). -/
  | sapStall (n : Nat) (rx : Bool)
  /-- At a frame edge a TX side sends the frame if every channel has a sample, otherwise zeros counted in UNDER (R213). -/
  | sapTxFrame (n tick nbits : Nat) (disagree : List (Nat × Nat))
  /-- After 16 consecutive clean frames a released slot resumes full drive (R217). -/
  | slotResume (n slot : Nat)
  /-- SPDIF.CTRL.START starts the IEC 60958 receiver in WAIT (R225). -/
  | spdifStart (m : Master)
  /-- SPDIF.CTRL.STOP stops the receiver (R225). -/
  | spdifStop (m : Master)
  /-- The receiver decodes one frame, checking parity, validity and non-PCM, and releases the frame two frames later (R226). -/
  | spdifFrame (tick : Nat) (good first : Bool) (a b : Subframe)
  /-- After 16 consecutive valid frames the receiver enters RUN and shows the rate (R225). -/
  | spdifLock (rate : Nat)
  /-- Two frame periods without a valid preamble declare STALL (R229). -/
  | spdifStall
  /-- Placement takes a locked stream's billet in its placement stroke, sets OFFSET and hands it on, or fills for a stale or missing
  billet (R234). -/
  | bypassPlace (q : Nat)
  /-- An on-chip line or microphone channel converts a sample, discarding it while its queue refuses a credit (R651). -/
  | onchipCaptureSample (x : OnChip)
  /-- Setting ASRCn.PG_CTRL.EN checks the channel queues and starts the engine in ACQUIRE (R238). -/
  | asrcEnable (m : Master) (n : Nat)
  /-- An engine takes an input billet, updates its rate estimate and moves through ACQUIRE, VALID, LOCKED or relock (R243). -/
  | asrcInputBillet (n c fi : Nat) (err : Int)
  /-- An engine computes a grid sample by interpolation, using zeros for input not yet arrived (R239). -/
  | asrcGridSample (n : Nat)
  /-- A direct write of a patch entry is checked if active and applies at once, incrementing GEN (R251). -/
  | patchEntryWrite (m : Master) (lo hi : Word)
  /-- A write of PATCH.INVAL makes every unit drop and look up the named entries at the next boundary (R252). -/
  | patchInval (m : Master) (v : Word)
  /-- PATCH.CTRL.COPY starts copying the active bank into the other bank (R254). -/
  | patchCopy (m : Master)
  /-- The bank copy completes within 20 us and COPYING clears (R254). -/
  | patchCopyDone
  /-- An enabled conditioning chain computes a stroke once its input holds all 32 samples (R656). -/
  | incComputeStroke (n : Nat)
  /-- An enabled finishing chain computes a stroke through filter, delay, gain, limiter and clamp once its input is complete (R656). -/
  | finComputeStroke (n : Nat)
  /-- An active mixer node computes its stroke once every port it reads holds the stroke (R265). -/
  | mixNodeCompute (n : Nat)
  /-- Writing MTR_CTL.CLR sets the held peak to -0x8000 (R281). -/
  | meterClear (m : Master) (p : Nat)
  /-- ANVnn.CTRL GO resumes a halted anvil or puts it in WAIT (R306). -/
  | go (m : Master) (n : Nat)
  /-- ANVnn.CTRL HALT requests the anvil to halt at the next clean instruction boundary (R306). -/
  | halt (m : Master) (n : Nat)
  /-- ANVnn.CTRL STEP executes one instruction from HALTED and halts again (R372). -/
  | step (m : Master) (n : Nat)
  /-- After issued instructions and coprocessor operations complete the anvil enters HALTED (R371). -/
  | anvilHalted (n : Nat)
  /-- SRST or EN 0 on an anvil page stops it, empties its handles and resets its registers (R308). -/
  | anvilStopReset (m : Master) (n : Nat) (srst : Bool)
  /-- An access to ANVnn.MDATA reads or writes the selected memory word and advances MSEL.WORD (R309). -/
  | mdataAccess (m : Master) (n : Nat) (wr : Bool) (v : Word)
  /-- A write of BENCHn.CLK.RATE raises VARR at once or lowers the clock at the next boundary (R303). -/
  | benchRateWrite (m : Master) (n rate : Nat)
  /-- At the first boundary after VARR settles a raised bench rate takes effect (R303). -/
  | varrSettled (n : Nat)
  /-- DONE waits for started copies and operations, frees handles and puts the anvil in WAIT (R298). -/
  | done (n : Nat)
  /-- BTAKE waits for a billet on an input stream and copies it and its tag into a handle (R289). -/
  | btake (n h t p : Nat)
  /-- BGRANT waits for a credit on an output stream and holds the granted billet in a handle (R289). -/
  | bgrant (n h t : Nat)
  /-- BPUT copies data into the held billet, writes its tag and puts it on its queue (R289). -/
  | bput (n h p : Nat)
  /-- BREL returns the handle's billet to FREE with its credit (R289). -/
  | brel (n h : Nat)
  /-- BRD copies a ring billet into data memory (R289). -/
  | brd (n ring idx p : Nat)
  /-- BWR copies data memory into a ring billet (R289). -/
  | bwr (n ring idx p : Nat)
  /-- A pending take or grant completes when a billet or credit arrives (R292). -/
  | billetOpComplete (n h : Nat)
  /-- A billet copy on the bench port completes and releases stalled instructions (R286). -/
  | billetCopyDone (n : Nat)
  /-- HWAIT stalls while a handle is PENDING then writes its code (R344). -/
  | hwait (n h d : Nat)
  /-- HSTAT writes a handle's code at once (R344). -/
  | hstat (n h d : Nat)
  /-- RWAIT stalls while any ring copy runs then writes bst (R344). -/
  | rwait (n d : Nat)
  /-- HGET reads half of a held billet's tag into a pair (R345). -/
  | hget (n h d : Nat) (hi : Bool)
  /-- HSET writes the writable fields of a held billet's tag (R345). -/
  | hset (n h d : Nat) (hi : Bool)
  /-- MOV copies a register (R323). -/
  | mov (n d a : Nat) (w : Bool)
  /-- ADD adds with overflow handling and flags (R324). -/
  | add (n d a b : Nat) (w : Bool)
  /-- SUB subtracts with overflow handling and flags (R324). -/
  | sub (n d a b : Nat) (w : Bool)
  /-- AND performs a bitwise and (R323). -/
  | and (n d a b : Nat) (w : Bool)
  /-- OR performs a bitwise or (R323). -/
  | or (n d a b : Nat) (w : Bool)
  /-- XOR performs a bitwise exclusive or (R323). -/
  | xor (n d a b : Nat) (w : Bool)
  /-- NOT inverts a register (R323). -/
  | not (n d a : Nat) (w : Bool)
  /-- NEG negates with overflow handling (R324). -/
  | neg (n d a : Nat) (w : Bool)
  /-- ABS takes the magnitude with overflow handling (R324). -/
  | abs (n d a : Nat) (w : Bool)
  /-- MIN writes the signed minimum (R323). -/
  | min (n d a b : Nat) (w : Bool)
  /-- MAX writes the signed maximum (R323). -/
  | max (n d a b : Nat) (w : Bool)
  /-- CMP compares two registers and sets flags (R324). -/
  | cmp (n a b : Nat) (w : Bool)
  /-- SHL shifts logically left (R323). -/
  | shl (n d a b : Nat) (w : Bool)
  /-- SHR shifts logically right (R323). -/
  | shr (n d a b : Nat) (w : Bool)
  /-- ASR shifts arithmetically right (R323). -/
  | asr (n d a b : Nat) (w : Bool)
  /-- CLS writes the headroom of a value (R337). -/
  | cls (n d a : Nat) (w : Bool)
  /-- MOVI loads an immediate (R325). -/
  | movi (n d v : Nat)
  /-- ADDI adds an immediate (R325). -/
  | addi (n d v : Nat)
  /-- CMPI compares with an immediate (R325). -/
  | cmpi (n d v : Nat)
  /-- ANDI ands with an immediate (R325). -/
  | andi (n d v : Nat)
  /-- ORI ors with an immediate (R325). -/
  | ori (n d v : Nat)
  /-- SHLI shifts left by an immediate (R325). -/
  | shli (n d v : Nat)
  /-- ASRI shifts arithmetically right by an immediate (R325). -/
  | asri (n d v : Nat)
  /-- SHRI shifts logically right by an immediate (R325). -/
  | shri (n d v : Nat)
  /-- EXT extracts 16 bits from an accumulator with rounding and saturation (R333). -/
  | ext (n d src : Nat)
  /-- EXTW extracts 32 bits from an accumulator with saturation (R333). -/
  | extw (n d src : Nat)
  /-- ACLR clears an accumulator (R334). -/
  | aclr (n ad : Nat)
  /-- ALDW loads an accumulator from a pair (R334). -/
  | aldw (n ad d : Nat)
  /-- ASHI shifts an accumulator by an immediate (R334). -/
  | ashi (n ad src v : Nat)
  /-- ASHX shifts an accumulator right by sx under BFP (R334). -/
  | ashx (n ad src : Nat)
  /-- AADD adds accumulators (R334). -/
  | aadd (n ad src : Nat)
  /-- ASUB subtracts accumulators (R334). -/
  | asub (n ad src : Nat)
  /-- AMOV copies an accumulator (R334). -/
  | amov (n ad src : Nat)
  /-- ANEG negates an accumulator (R334). -/
  | aneg (n ad src : Nat)
  /-- AABS takes an accumulator's magnitude (R334). -/
  | aabs (n ad src : Nat)
  /-- LD loads a 16-bit word (R328). -/
  | ld (n reg p am md off : Nat)
  /-- LDW loads a 32-bit word into a pair (R328). -/
  | ldw (n reg p am md off : Nat)
  /-- LDN performs a normalising load (R337). -/
  | ldn (n reg p am md off : Nat)
  /-- LDA loads a 32-bit word into an accumulator (R328). -/
  | lda (n reg p am md off : Nat)
  /-- ST stores a 16-bit word (R328). -/
  | st (n reg p am md off : Nat)
  /-- STW stores a pair (R328). -/
  | stw (n reg p am md off : Nat)
  /-- STD performs a denormalising 32-bit store (R337). -/
  | std (n reg p am md off : Nat)
  /-- STE stores a 16-bit extraction of an accumulator (R328). -/
  | ste (n reg p am md off : Nat)
  /-- NORM lowers sx to the headroom of a memory word (R337). -/
  | norm (n p am md off : Nat)
  /-- NORMR lowers sx to the headroom of a pair (R337). -/
  | normr (n reg : Nat)
  /-- PSET sets an address register (R329). -/
  | pset (n p v : Nat)
  /-- PADD adds to an address register (R329). -/
  | padd (n p v : Nat)
  /-- MVC writes a control register (R349). -/
  | mvc (n reg : Nat) (w : Bool) (cr : Nat)
  /-- MVF reads a control register (R349). -/
  | mvf (n reg : Nat) (w : Bool) (cr : Nat)
  /-- MPY writes a lane product to an accumulator, with optional operand loads (R331). -/
  | mpy (n acc x y sgn : Nat) (sh lx : Bool) (px mx : Nat) (ly : Bool) (py my width : Nat)
  /-- MAC adds a lane product to an accumulator (R331). -/
  | mac (n acc x y sgn : Nat) (sh lx : Bool) (px mx : Nat) (ly : Bool) (py my width : Nat)
  /-- MSU subtracts a lane product from an accumulator (R331). -/
  | msu (n acc x y sgn : Nat) (sh lx : Bool) (px mx : Nat) (ly : Bool) (py my width : Nat)
  /-- BR branches by offset after its delay slot (R338). -/
  | br (n cond target : Nat)
  /-- JMP jumps to an absolute index after its delay slot (R338). -/
  | jmp (n cond target : Nat)
  /-- CALL writes lnk and jumps after its delay slot (R338). -/
  | call (n cond target : Nat)
  /-- RET returns to lnk after its delay slot (R338). -/
  | ret (n cond : Nat)
  /-- LOOP starts a hardware loop (R340). -/
  | loop (n lc : Nat) (src : Bool) (stop count : Nat)
  /-- A loop count reaching zero at its end instruction continues past the loop (R340). -/
  | loopExit (n : Nat)
  /-- DIV issues a division to the bench coprocessor (R346). -/
  | div (n d a b : Nat)
  /-- SQRT issues a square root to the coprocessor (R346). -/
  | sqrt (n d a : Nat)
  /-- RSQRT issues a reciprocal square root to the coprocessor (R346). -/
  | rsqrt (n d a : Nat)
  /-- LOG2 issues a base-2 logarithm to the coprocessor (R346). -/
  | log2 (n d a : Nat)
  /-- EXP2 issues a base-2 exponential to the coprocessor (R346). -/
  | exp2 (n d a : Nat)
  /-- MUL32 issues an exact 32 x 32 product to the coprocessor (R346). -/
  | mul32 (n d a b : Nat)
  /-- A coprocessor result is written to its pair, raising COPROC in its error case (R346). -/
  | coprocResult (n : Nat)
  /-- CRD reads a control-space word after earlier writes complete (R347). -/
  | crd (n d a : Nat)
  /-- CWR enters a control-space write in the two-entry buffer (R347). -/
  | cwr (n d a : Nat)
  /-- NOP does nothing (R348). -/
  | nop (n : Nat)
  /-- RTE returns from an exception to epc under the saved flags (R365). -/
  | rte (n : Nat)
  /-- BRK raises the breakpoint trap (R348). -/
  | brk (n : Nat)
  /-- The anvil squashes younger work, waits for older coprocessor results, saves epc and estat and vectors (R358). -/
  | exceptionEntry (n : Nat)
  /-- An armed breakpoint matching at fetch halts the anvil or raises BREAK (R373). -/
  | breakpointMatch (n : Nat)
  /-- An access to DBG.RDATA reads or writes the selected register of a halted anvil (R374). -/
  | dbgRdataAccess (m : Master) (wr : Bool) (v : Word)
  /-- A START command begins the channel's start sequence from the hearth sample at which it acts (R383). -/
  | stageCmdStart (m : Master) (c : Nat)
  /-- A STOP command begins the stop sequence, or stops a tripped channel at once (R384). -/
  | stageCmdStop (m : Master) (c : Nat)
  /-- A CLEAR command returns a latched channel to STOPPED with retries at 0 (R382). -/
  | stageCmdClear (m : Master) (c : Nat)
  /-- Writing EN 0 on a stage page stops a running channel (R652). -/
  | stageDisable (m : Master) (c : Nat)
  /-- At the end of inrush the stage checks its outputs and begins switching in SETTLE (R389). -/
  | inrushEnd (c outP outN pvdd : Nat)
  /-- 1 ms after inrush the loop has settled and the channel enters RUN at zero (R383). -/
  | settleEnd (c : Nat)
  /-- After the soft path lowers the outputs the channel is high-impedance and STOPPED (R384). -/
  | stopDischargeEnd (c : Nat)
  /-- Short detection or 64 limited periods trip the stage to high impedance and TRIPPED (R387). -/
  | stageTrip (c : Nat)
  /-- 500 ms after a trip the stage retries its start or latches when retries are spent (R388). -/
  | retryTimer (c : Nat)
  /-- After 10 s in RUN without a trip RETRIES returns to 0 (R388). -/
  | retryCountReset (c : Nat)
  /-- A seen XSTn_FLT fault drives both outputs low and latches or holds the channel (R390). -/
  | xstFaultInput (x : Nat)
  /-- Release of the fault input in follow mode restarts the channel from step 1 (R390). -/
  | xstFaultRelease (x : Nat)
  /-- PVDD undervoltage holds every channel of the die with fault PVDD_UV (R391). -/
  | pvddUndervoltage (dieA : Bool)
  /-- PVDD overvoltage holds every channel of the die with fault PVDD_OV (R391). -/
  | pvddOvervoltage (dieA : Bool)
  /-- Die shutdown temperature holds every channel of the die with fault DIE_OTS (R391). -/
  | dieShutdown (dieA : Bool)
  /-- When a die condition ends the held channels restart from step 1 (R391). -/
  | dieConditionEnd (dieA : Bool) (code : Nat)
  /-- Die warning temperature raises WARN DIE_OTW (R391). -/
  | dieOtw (dieA : Bool)
  /-- A stage die losing its die-to-die link mutes and safes its eight channels within 10 us (R22). -/
  | dieLinkLoss (dieA : Bool)
  /-- PVDD below the warning level raises PVDD_LOW and pauses stages in inrush (R393). -/
  | pvddLow (mv : Nat)
  /-- PVDD above the warning level plus 0.2 V for 100 us resumes paused stages (R392). -/
  | pvddRecovered (mv : Nat)
  /-- A stage paused 50 ms aborts its start once, or ends it with STG_START_FAIL (R393). -/
  | pauseTimeout (c : Nat)
  /-- At each hearth sample the tracker updates the commanded PVDD from the look-ahead need (R398). -/
  | trackerUpdate
  /-- A tracker message ends; an unacknowledged one counts and after 8 failures holds C at CAP (R400). -/
  | trackerMessageDone (ack : Bool)
  /-- A sense converter begins a billet or discards its samples when its queue has no credit (R657). -/
  | senseBilletBegin (conv t : Nat) (codes : List Int)
  /-- Setting TONGS.PG_CTRL.EN checks the sense queues and starts the Tongs (R406). -/
  | tongsStart (m : Master)
  /-- A pass not ended 256 ticks before the boundary is handled as a mismatch (R408). -/
  | tongsDeadline
  /-- A write of DIAG.RUN starts a ring test of each named stopped channel (R438). -/
  | diagRun (m : Master) (channels : Nat)
  /-- Writing DIAG EN 0 ends running tests with END STOPPED (R653). -/
  | diagDisable (m : Master)
  /-- A current above 1 A during the DC test stops it and classes the channel SHORT (R431). -/
  | ringTestOvercurrent (c : Nat)
  /-- A ring test interrupted by PVDD, trip, stop, hold or fallback ends with its END code (R440). -/
  | ringAbort (c code : Nat)
  /-- Setting HQ_EN or LP_EN checks the queue and starts the path at the next boundary (R444). -/
  | micPathEnable (m : Master) (k : Nat) (hq lp : Bool)
  /-- A bias above 5 mA limits its current and raises MBIAS_OC (R447). -/
  | biasOc (n : Nat)
  /-- Each 16 ms window the built-in detector updates hits and floor and may fire (R452). -/
  | wakeDetectorWindow (level : Int)
  /-- ANV63 writing WAKE.FIRE in EMBER signals a wake with its score (R453). -/
  | wakeFire (m : Master) (score : Nat)
  /-- A detection latches EVT, fixes the history start and begins the EMBER to FORGING wake (R455). -/
  | acousticWake
  /-- A history billet is copied into OUTQ as credits allow, setting DRAINED at the last (R457). -/
  | historyDrainBillet
  /-- A debounced high on MUTE_SW cuts bias, clocks and front ends and sends MUTED zeros (R461). -/
  | privacyMuteAssert
  /-- 50 ms of low on MUTE_SW releases the mute and paths fade in after settling (R465). -/
  | privacyMuteRelease
  /-- Every 10 ms the mute indicator is checked for open or short (R466). -/
  | muteLedCheck (ua mv : Nat)
  /-- LIN.CMD.START starts every enabled line pair at the next hearth sample (R469). -/
  | linStart (m : Master)
  /-- LIN.CMD.STOP stops both pairs at the next hearth sample (R469). -/
  | linStop (m : Master)
  /-- EN 0 or a soft reset of LIN stops the running pairs (R654). -/
  | linDisable (m : Master) (srst : Bool)
  /-- HPO.CMD.START starts the charge pump with the outputs clamped (R472). -/
  | hpoStart (m : Master)
  /-- HPO.CMD.STOP ramps HPO out at the next boundary or closes the clamp at once (R473). -/
  | hpoStop (m : Master)
  /-- 1.0 ms after start the rails regulate and the amplifiers are enabled (R472). -/
  | hpoRailsReady
  /-- 1.5 ms after start the clamp is released and HPO is in RUN (R472). -/
  | hpoClampRelease
  /-- 0.5 ms after the clamp closes HPO is STOPPED (R473). -/
  | hpoStopped
  /-- Output current above 180 mA for 1 ms stops HPO and raises HPO_SC (R475). -/
  | hpoSc
  /-- Writing HPO EN 0 stops a running HPO (R655). -/
  | hpoDisable (m : Master)
  /-- A jack detect pin held at a new level for 64 ms updates JACK.STAT and raises its cause (R476). -/
  | jackChange (lin level : Bool)
  /-- AUXn.CTRL.START checks the buffer and starts the sequences (R487). -/
  | auxStart (m : Master) (n : Nat)
  /-- AUXn.CTRL.STOP stops the sequences after the conversion in progress (R487). -/
  | auxStop (m : Master) (n : Nat)
  /-- Writing REF_EN starts or stops the reference buffer (R486). -/
  | refEnWrite (m : Master) (n : Nat) (on : Bool)
  /-- REF_RDY sets exactly 2 ms after REF_EN goes to 1 (R486). -/
  | refRdy (n : Nat)
  /-- A regular scan begins by its mode, or is skipped while the previous runs (R488). -/
  | auxScanStart (n : Nat)
  /-- An injected trigger starts the injected sequence or is dropped if a conversion runs (R489). -/
  | auxInjTrigger (n : Nat)
  /-- A conversion completes and writes its entry to the buffer and DATA register (R491). -/
  | auxConversion (n code : Nat) (ovr : Bool)
  /-- Every PERIOD ms both converters convert channel 15 together for plausibility (R494). -/
  | plausAction (code0 : Nat) (ovr0 : Bool) (code1 : Nat) (ovr1 : Bool)
  /-- A key value held over the debounce time becomes KEY.STATE (R497). -/
  | key
  /-- TWT SET_PTR loads the port's page and word pointer (R503). -/
  | setPtr (bytes : List Byte)
  /-- TWT WRITE_WORD writes one word at the pointer (R502). -/
  | writeWord (bytes : List Byte)
  /-- TWT WRITE_BLOCK writes n bytes of words from the pointer (R502). -/
  | writeBlock (count : Nat) (bytes : List Byte)
  /-- TWT READ_WORD reads one word at the pointer (R504). -/
  | readWord
  /-- TWT READ_BLOCK returns RDBLK_LEN bytes from the pointer (R504). -/
  | readBlock (sent : Nat)
  /-- TWT WELD_OP opens a weld and selects it for TWT in one access (R505). -/
  | weldOp
  /-- TWT STATUS returns the status word and clears PEC_SEEN (R506). -/
  | status
  /-- TWT NOTIFY_CFG re-arms notification (R513). -/
  | notifyCfg
  /-- A write command with a wrong or missing check byte is discarded whole (R507). -/
  | pecErr
  /-- A start condition on TWT in BANKED is not acknowledged and may wake the device (R510). -/
  | twtStartCondition
  /-- SCL or SDA low for its timeout abandons the transaction (R512). -/
  | twtTimeout (sda : Bool)
  /-- With notify armed and a page signalling the device sends a Host Notify message as controller (R513). -/
  | notifySend (res : Nat)
  /-- A TWC START operation sends a start and address byte, after bus recovery where needed (R516). -/
  | twcStart (m : Master) (n data : Nat)
  /-- A TWC WRITE operation sends a data or CRC byte (R516). -/
  | twcWrite (m : Master) (n : Nat) (pec : Bool) (data : Nat)
  /-- A TWC READ operation reads a byte into the receive queue (R516). -/
  | twcRead (m : Master) (n : Nat) (pec last : Bool)
  /-- A TWC STOP operation ends the transaction with OK (R516). -/
  | twcStop (m : Master) (n : Nat)
  /-- A queued TWC operation completes on the bus or fails, discarding operations to the next STOP (R517). -/
  | twcOperationDone (n res byte : Nat) (recov : Bool)
  /-- A read of TWCn.RXD pops the oldest received byte (R516). -/
  | twcRxdRead (m : Master) (n : Nat)
  /-- A transaction paused 1 ms is ended with a stop and ABANDONED (R517). -/
  | twcAbandoned (n : Nat)
  /-- A TWC2 low-time timeout ends the transaction and runs bus recovery (R519). -/
  | twcTimeout
  /-- SPIT WRITE writes words to the control space through the write buffer (R525). -/
  | write (addr : Nat) (bytes : List Byte) (crcOk : Bool)
  /-- SPIT READ returns a status byte and control-space words (R523). -/
  | read (addr words : Nat)
  /-- SPIT QWRITE writes control-space words on four lines (R522). -/
  | qwrite (addr : Nat) (bytes : List Byte) (crcOk : Bool)
  /-- SPIT QREAD reads control-space words on four lines (R522). -/
  | qread (addr words : Nat)
  /-- SPIT SWRITE writes Stock bytes without moving billets (R527). -/
  | swrite (addr : Nat) (bytes : List Byte) (crcOk : Bool)
  /-- SPIT SREAD reads Stock bytes (R527). -/
  | sread (addr words : Nat)
  /-- SPIT QSWRITE writes Stock bytes on four lines (R527). -/
  | qswrite (addr : Nat) (bytes : List Byte) (crcOk : Bool)
  /-- SPIT QSREAD reads Stock bytes on four lines (R527). -/
  | qsread (addr words : Nat)
  /-- SPIT STATUS returns the status byte and clears its sticky bits at CSN rising (R524). -/
  | spitStatus
  /-- A write of QSPI.XFER clocks one byte to or from the flash (R529). -/
  | qspiXfer (m : Master) (byte : Byte) (qin : Bool)
  /-- An enabled link exchanges idle sets until 256 valid ones are received (R536). -/
  | linkTrain
  /-- The lead sends PING sets and the follower echoes each after 1,024 ticks (R536). -/
  | ping (rtt : Nat)
  /-- The lead computes D from the round trips and the link is UP or training fails (R536). -/
  | linkUp
  /-- 16 consecutive invalid characters return the link to TRAIN (R536). -/
  | linkLossOfLock
  /-- A device assembles and sends its superframe at its launch tick, with retransmitted messages (R537). -/
  | superframeSend
  /-- A received superframe is checked and its header, heartbeat, Tongs field, messages, audio and mirror records taken (R539). -/
  | superframeReceive (f : Superframe) (e : Int)
  /-- A superframe not valid by its due tick is missed and MISSED counts (R539). -/
  | superframeMiss
  /-- The follower receiving PREPARE validates its half and votes (R181). -/
  | prepare (seq target id : Nat)
  /-- The lead receives the follower's vote on a pair weld (R180). -/
  | vote (seq : Nat) (yes : Bool)
  /-- An ABORT message cold-shuts the follower half with PAIR (R182). -/
  | abort (seq : Nat)
  /-- A READ message makes the partner read a word as TWIN and return RESULT (R546). -/
  | regRead (seq addr : Nat)
  /-- A WRITE message makes the partner write a word as TWIN and return RESULT (R546). -/
  | regWrite (seq addr : Nat) (v : Word)
  /-- A RESULT message completes the remote access and sets RRES.DONE (R546). -/
  | result (seq code : Nat) (data : Word)
  /-- A TRAIN message gives the follower the link delay D (R536). -/
  | train (d : Nat)
  /-- A joiner receiving HELLO checks mark, rate and state and answers PROOF or REFUSE (R555). -/
  | hello (mark : List Word) (identity : Nat) (rate96 adopt : Bool)
  /-- The lead checks the PROOF HMAC and answers ACCEPT or REFUSE (R556). -/
  | proof (identity : Nat) (good : Bool)
  /-- On ACCEPT both devices derive Ks, set SECURE and the joiner acquires the timebase (R556). -/
  | accept (epoch : Nat) (good : Bool)
  /-- A REFUSE ends the attach with its reason (R556). -/
  | refuse (reason : Nat)
  /-- The joiner checks the adopted image digest and begins applying it under an adoption mute (R557). -/
  | adoptEnd (digest : Nat)
  /-- The joiner opens and commits the next adoption weld of received STG words (R557). -/
  | adoptionWeld
  /-- A partner receiving DETACH answers DETACH_ACK and enters DETACHING (R565). -/
  | detachMessage (seq target : Nat)
  /-- The detaching device receives the partner's acknowledgement (R565). -/
  | detachAck
  /-- PAIR.CMD ATTACH starts an attach from a lead in SEEK, SOLO or DETACHED (R555). -/
  | attach (m : Master) (adopt : Bool)
  /-- PAIR.CMD DETACH in LIVE starts an orderly detach with target s + 4 (R565). -/
  | detach (m : Master)
  /-- An attach not LIVE 1 s after ATTACH ends with TIMEOUT (R555). -/
  | attachTimeout
  /-- DIG_OK 0 for 64 strokes in LIVE raises MIRROR_STALE (R552). -/
  | mirrorStale
  /-- An OWNER write of PAIR.RCMD sends one READ or WRITE to the partner (R546). -/
  | rcmd (m : Master) (wr : Bool) (addr : Nat)
  /-- SEC.AUTH.NEW draws a fresh challenge for the writing master (R569). -/
  | authNew (m : Master)
  /-- SEC.AUTH.END ends the port's owner session and takes back its pending welds and actions (R570). -/
  | authEnd (m : Master)
  /-- SEC.AUTH.REQ 0b01 starts the check of an owner-session signature (R569). -/
  | authOwnerSession (m : Master)
  /-- SEC.AUTH.REQ 0b10 starts the check of a vendor TEST signature (R577). -/
  | authTestVendor (m : Master)
  /-- SEC.AUTH.REQ 0b11 starts the check of owner consent to TEST (R577). -/
  | authTestConsent (m : Master)
  /-- Within 4 ms the signature check ends and opens the session or TEST, or fails (R569). -/
  | authCheckDone (m : Master) (good : Bool)
  /-- An LCREQ to OWNED from BLANK programs the OWNED bit (R575). -/
  | lcToOwned (m : Master)
  /-- An LCREQ to FIELD from OWNED programs the FIELD bit and puts owner locks in force (R575). -/
  | lcToField (m : Master)
  /-- An LCREQ to RETURNED erases owner secrets and Ko and resets the device (R576). -/
  | lcToReturned (m : Master)
  /-- A write of OTP.PROG starts setting bits in the selected OTP word (R574). -/
  | otpProg (m : Master) (v : Word)
  /-- OTP programming ends within 100 us and is checked, setting ERR on failure (R574). -/
  | otpProgDone (good : Bool)
  /-- An OWNER write of SEC.RB advances the anti-rollback thermometer up to ALLOWED (R584). -/
  | rbAdvance (m : Master) (v : Nat)
  /-- IMG.CTRL.LOAD starts loading an image from flash or a RING queue (R580). -/
  | imgLoad (m : Master)
  /-- The loader ends its checks and fails with a RESULT or begins applying (R581). -/
  | imgVerifyDone (image : Image)
  /-- The loader commits the next register-list weld after the previous one applies (R583). -/
  | imgReglistWeld
  /-- At the boundary of the last register-list weld GO is written and RESULT reads OK (R582). -/
  | imgLoadDone
  /-- A write of FAULT.CLEAR clears an active W-kind fault unless its condition holds (R590). -/
  | faultClear (m : Master) (code src : Nat)
  /-- A quench tempers every running output to zero over 1 ms and lowers starting channels (R586). -/
  | quench
  /-- Outputs go high-impedance at 1 ms and the quench completes when the last channel stops (R586). -/
  | quenchComplete
  /-- An independent fault of equal or higher class abandons the running recovery and quenches (R593). -/
  | coincident (code src : Nat)
  /-- A queued fault begins its recovery when the previous ends, or is skipped (R594). -/
  | queuedRecoveryStart
  /-- Core die at 125 C raises WARN CORE_OTW (R589). -/
  | coreOtw
  /-- Core die at 150 C raises HALT fault CORE_OTS (R589). -/
  | coreOts
  /-- TEST.LOOP GO requests the named loop, which starts at the next boundary (R604). -/
  | loopGo (m : Master) (iface inst depth : Nat)
  /-- TEST.LOOP STOP ends the loop at the next boundary with its result (R604). -/
  | loopStop (m : Master)
  /-- 32 matching words lock a BIT check and the loop enters RUN (R603). -/
  | loopLock
  /-- A BIT loop unlocked 64 strokes after start sets FAILED with NO_LOCK (R603). -/
  | noLock
  /-- Sleep entry, quench, privacy mute or link loss aborts a running loop (R605). -/
  | loopAbort
  /-- A TEST write of INJ.EN turns fault injection on until reset (R608). -/
  | injEnable (m : Master)
  /-- Injects a double-counted billet in the next audit (R608). -/
  | injLedger (m : Master)
  /-- Injects a single-bit flip in the next billet read (R608). -/
  | injStockCe (m : Master)
  /-- Injects a two-bit flip in the next billet read (R608). -/
  | injStockUe (m : Master)
  /-- Injects one real mismatch in the next Tongs pass (R608). -/
  | injTongsMis (m : Master)
  /-- Makes the next strike test report no alarm (R608). -/
  | injStrike (m : Master)
  /-- JTAG EXTEST drives the boundary register and safes the stages (R611). -/
  | extest
  /-- JTAG SAMPLE/PRELOAD samples or preloads the boundary register (R609). -/
  | samplePreload (bound : Nat)
  /-- JTAG IDCODE selects the 32-bit identification register (R609). -/
  | idcode
  /-- JTAG HIGHZ sets outputs to high impedance and safes the stages (R611). -/
  | highz
  /-- JTAG BYPASS selects the 1-bit bypass register (R609). -/
  | bypass
  /-- JTAG AUTH selects the access register limited to the authentication words (R610). -/
  | auth
  /-- JTAG CTRL selects the access register over the whole control space while TEST is open (R610). -/
  | ctrl
  /-- Update-DR of the access register performs a control-space access as TEST (R610). -/
  | jtagAccess (wr : Bool) (addr : Nat) (v : Word)
  /-- A held volume key repeats its action every 250 ms (R640). -/
  | keyRepeat
  /-- At b + 4 the patch switches to the new source and the gain ramps back, completing at b + 8 (R642). -/
  | sourceChangeStep
  /-- Writing 1 to SYS.DROUTE.EN releases the default route without a break in audio (R646). -/
  | drouteRelease (m : Master)
  /-- VSYS rising through 2.95 V clears PWR.STAT.VSYS_UV, so the VSYS_UV fault may be cleared and the 1 ms BANKED timeout no longer runs
  (R100). -/
  | vsysUvRecovery
  /-- Edges of the selected fast source return and CLK.STAT.FAST_OK sets again, allowing fault CLK_LOSS to be cleared (R589). -/
  | fastSourceRestored
  /-- A stage die regains lock on its die-to-die link and fault DIE_LINK clears by itself, leaving its channels stopped until START
  (R589). -/
  | dieLinkRelock (dieA : Bool)
  /-- The core die temperature falls below 120 °C and WARN CORE_OTW clears by itself (R589). -/
  | coreOtwEnd
  /-- A stage die's temperature falls below the die warning level and WARN DIE_OTW clears by itself (R589). -/
  | dieOtwEnd (dieA : Bool)
  /-- A bias supply's load falls below its current limit, the bias stops limiting and WARN MBIAS_OC clears by itself (R447). -/
  | mbiasOcEnd (n : Nat)
  /-- VIO falling below 1.2 V makes every VIO ball high-impedance, stops the control ports, GP wake and TWT start detection, while audio
  runs on (R615). -/
  | vioLoss
  /-- VIO rising back into range restores the VIO balls, the control ports, GP wake and TWT start detection (R615). -/
  | vioReturn
  /-- A QSPI byte transfer ends, QSPI.STAT.BUSY clears and a read of XFER waiting on it completes with the received byte (R529). -/
  | qspiXferDone (byte : Byte)
  deriving DecidableEq, Repr

end Sys2Proof
end

