-- ==== Sys2Proof/Decode.lean ====
section
/-!
DEFINITION. The commands that a word spells: the specification's opcode table gives no row any bits, so no word spells a command.
-/

namespace Sys2Proof

/-- The command that a word of `nbits` bits spells by the opcode table: none, for the table gives its rows no bits.
(Log entry 1: DESIGN CHOICE.) -/
def decodeTableWord (_nbits _w : Nat) : Option Instr := none

end Sys2Proof
end

