-- ==== Sys2Proof/Config.lean ====
section
/-!
DEFINITION. The free values of the model: results that the specification leaves open or states only within bounds. Each is a constant
with no body, so nothing can be proved from a value of it. Log entry 5 names them all.
-/

namespace Sys2Proof.Config

/-- A word whose value the specification leaves open; the argument is the model's counter of free values. -/
opaque freeWord : Nat → Word

/-- The correlation of R432: from the frequency's number and the calibrated samples (v, i) of its measurement span, the magnitude in mΩ
and the phase in 1/128 degree, before the limits of R434. The specification gives its accuracy, not its arithmetic. -/
opaque correlate : Nat → List (Int × Int) → Nat × Int

/-- The correlated current's RMS of R432 in µA. -/
opaque correlatedCurrent : Nat → List (Int × Int) → Nat

/-- The interpolation of R239: filter SHORT or not, the input rate estimate in 1/64 Hz, the tick interpolated at and the stamped input
samples. The specification gives its performance, not its arithmetic. -/
opaque interpolate : Bool → Nat → Nat → List (Nat × Word) → Word

/-- The factor 10^(G / 5,120) of a gain G = num / den in 1/256 dB, in units of 2^-60, before the bound of R258. -/
opaque factor : Int → Nat → Nat

/-- The amplitude in Q1.31 of a level below full scale, in 1/256 dB (R276, R278), before the bound of R258. -/
opaque amplitude : Int → Nat

/-- The reduction of a limiter's gain num / den · 10^(rise / 40,960) in 1/256 dB (LIM_GR), before its rounding is held to one unit. -/
opaque reduction : Nat → Nat → Nat → Nat

/-- The first half cycle of a sine in Q1.31, by its phase in 1/98,304,000 of a cycle: the pilot and the tones of the ring tests (R414, R432),
whose arithmetic the specification does not state. -/
opaque sine : Nat → Int

/-- The peak level of an amplitude in Q1.31 (R280), before the bound of 0.02 dB. -/
opaque peakLevel : Nat → Int

/-- One stroke of the RMS average of R280: time-constant code, previous average and the stroke's samples. -/
opaque rmsStep : Nat → Nat → List Int → Nat

/-- The level of an RMS average (R280), within 0.02 dB. -/
opaque rmsLevel : Nat → Int

/-- The identity SEC.ID, derived from the device-unique key (R573): its 64 bits. -/
opaque identity : Nat

/-- RSQRT of a positive Q1.31 value in Q16.16 (R346), before the bound of 2 units of the last place. -/
opaque rsqrt : Nat → Nat

/-- LOG2 of a positive Q1.31 value in Q6.26 (R346), before the bound of 2 units of the last place. -/
opaque log2 : Word → Word

/-- EXP2 of a Q6.26 value in Q16.16 (R346), before the bound of 2 units of the last place. -/
opaque exp2 : Word → Word

/-- How the Tongs' program rounds a node that is not a multiple of 1/1,024 K (R409, R415): whether it takes the multiple above. The
specification gives the resolution, not the rounding. -/
opaque nodeUp : Int → Nat → Bool

/-- One stroke of the resistance measurement of R413: PILOT_F, the filters and sums so far, and the stroke's samples (µV, µA). The
specification gives the filters' order, centre and Q, not their arithmetic. -/
opaque bandStep : Nat → Nat → List (Int × Int) → Nat

/-- The RMS of i_bp over the window, in mA (R413). -/
opaque bandRms : Nat → Nat

/-- R_meas over the window, in mΩ (R413). -/
opaque bandOhm : Nat → Nat

/-- Where the common sweep of spread spectrum stands at tick 0 (R377), in ticks. -/
opaque sweepPhase : Nat

/-- The level an OWNER image on the Tongs gives a channel (R425), in 1/256 dB; the arguments are the channel and the free counter. -/
opaque imageLevel : Nat → Nat → Int

end Sys2Proof.Config
end

