-- ==== Sys2Proof/Machine/Bits.lean ====
section
/-!
DEFINITION. Bit fields, sign extension, saturation and rounding: the arithmetic helpers every family uses. A bit range is
[msb:lsb] (R9); here a field is named by its lowest bit and its length.
-/

namespace Sys2Proof.Machine

/-- The field of `len` bits of `w` whose lowest bit is `lo`. -/
def bits (w : Word) (lo len : Nat) : Nat := w.toNat >>> lo % 2 ^ len

/-- Bit `i` of `w`. -/
def bit (w : Word) (i : Nat) : Bool := w.toNat.testBit i

/-- `w` with its field of `len` bits at `lo` replaced by `v` modulo 2^`len`. -/
def putBits (w : Word) (lo len v : Nat) : Word :=
  Word.of (w.toNat - (bits w lo len) * 2 ^ lo + (v % 2 ^ len) * 2 ^ lo)

/-- A truth value as a bit. -/
def b2n (b : Bool) : Nat := if b then 1 else 0

/-- A bit as a word. -/
def b2w (b : Bool) : Word := if b then 1 else 0

/-- The two's-complement value of the low `n` bits of `v`. -/
def sext (n v : Nat) : Int :=
  if v % 2 ^ n < 2 ^ (n - 1) then (v % 2 ^ n : Nat) else (v % 2 ^ n : Nat) - (2 ^ n : Nat)

/-- The low `n` bits of a two's-complement number. -/
def unsign (n : Nat) (i : Int) : Nat := (i % (2 ^ n : Nat)).toNat

/-- `i` held between the least and the greatest signed number of `n` bits. -/
def satS (n : Nat) (i : Int) : Int :=
  if i > 2 ^ (n - 1) - 1 then 2 ^ (n - 1) - 1 else if i < -(2 ^ (n - 1)) then -(2 ^ (n - 1)) else i

/-- `i` lies in the signed range of `n` bits. -/
def fitsS (n : Nat) (i : Int) : Bool := decide (-(2 ^ (n - 1)) ≤ i) && decide (i ≤ 2 ^ (n - 1) - 1)

/-- `v` held at `cap`: a saturating count. -/
def satU (cap v : Nat) : Nat := if v < cap then v else cap

/-- `a / 2^k` rounded to the nearest integer, a tie to the even one (convergent rounding). -/
def roundConv (a : Int) (k : Nat) : Int :=
  let q := a / (2 ^ k : Nat)
  let r := a % (2 ^ k : Nat)
  if 2 * r < (2 ^ k : Nat) then q
  else if 2 * r > (2 ^ k : Nat) then q + 1
  else if q % 2 = 0 then q else q + 1

/-- `a / b`, `b` positive, rounded to the nearest integer, a tie to the even one. -/
def divConv (a : Int) (b : Nat) : Int :=
  let q := a / b
  let r := a % b
  if 2 * r < b then q else if 2 * r > b then q + 1 else if q % 2 = 0 then q else q + 1

/-- Indices below `n` whose bit is set in `v`, rising. -/
def setBitsOf (n v : Nat) : List Nat := (List.range n).filter fun i => v.testBit i

/-- The number with exactly the bits of `l` set. -/
def maskOf (l : List Nat) : Nat := l.foldl (fun a i => a ||| 2 ^ i) 0

/-- `n` in its place in a rising list, once. -/
def insertUp (n : Nat) : List Nat → List Nat
  | [] => [n]
  | x :: t => if n < x then n :: x :: t else if n = x then x :: t else x :: insertUp n t

/-- The numbers of a list below `cap`, rising and without repeats. -/
def rising (cap : Nat) (l : List Nat) : List Nat := (l.filter (· < cap)).foldl (fun a n => insertUp n a) []

/-- `v` with bit `i` set or cleared. -/
def putBit (v i : Nat) (b : Bool) : Nat :=
  if v.testBit i = b then v else if b then v + 2 ^ i else v - 2 ^ i

/-- The four bytes of a word, least significant first (R36). -/
def bytesOf (w : Word) : List (BitVec 8) :=
  [BitVec.ofNat 8 (bits w 0 8), BitVec.ofNat 8 (bits w 8 8), BitVec.ofNat 8 (bits w 16 8), BitVec.ofNat 8 (bits w 24 8)]

/-- The word of four bytes, least significant first; missing bytes are 0. -/
def wordOfBytes : List (BitVec 8) → Word
  | b0 :: b1 :: b2 :: b3 :: _ => Word.of (b0.toNat + 256 * b1.toNat + 65536 * b2.toNat + 16777216 * b3.toNat)
  | [b0, b1, b2] => Word.of (b0.toNat + 256 * b1.toNat + 65536 * b2.toNat)
  | [b0, b1] => Word.of (b0.toNat + 256 * b1.toNat)
  | [b0] => Word.of b0.toNat
  | [] => 0

/-- The whole words of a byte string; a trailing part of a word is left out. -/
def wordsOfBytes : List (BitVec 8) → List Word
  | b0 :: b1 :: b2 :: b3 :: t => wordOfBytes [b0, b1, b2, b3] :: wordsOfBytes t
  | _ => []

end Sys2Proof.Machine
end

