-- ==== Sys2Proof/Machine/Isa.lean ====
section
/-!
DEFINITION. The anvil instruction set (chapter 11): instructions, their encodings, what makes an encoding illegal, and the arithmetic of
ALU, lane, extraction, addresses and coprocessor. What an instruction does to an anvil is in `Machine.AnvilRun`.
-/

namespace Sys2Proof.Machine

/-- An anvil instruction as its format lays it out (R321, R330); a field the format lacks does not appear. -/
inductive AnvOp where
  /-- Format R, opcode 0x00: NOP, DONE, RTE, BRK by function (R348). -/
  | sys (f : Nat)
  /-- Format R, opcode 0x01 (R323). -/
  | alu (f d a b : Nat) (w : Bool)
  /-- Format I (R325). -/
  | imm (sub d v : Nat)
  /-- Format ACC (R334). -/
  | acc (f d ad src n : Nat)
  /-- Format M: opcode 0x04 (R328). -/
  | load (sub reg p am m off : Nat)
  /-- Format M: opcode 0x05. -/
  | store (sub reg p am m off : Nat)
  /-- Format M: opcode 0x06. -/
  | norm (sub reg p am m off : Nat)
  /-- Format A (R329). -/
  | addr (p sub v : Nat)
  /-- Format C (R349): `out` is MVC. -/
  | ctl (out : Bool) (reg : Nat) (w : Bool) (cr : Nat)
  /-- Format B (R338). -/
  | br (cond kind target : Nat)
  /-- Format L (R340). -/
  | loop (lc : Nat) (src : Bool) (stop count : Nat)
  /-- Format K (R342). -/
  | billet (f h s ring i p : Nat)
  /-- Format H (R344). -/
  | handle (f h reg : Nat) (sel : Bool)
  /-- Format P (R346). -/
  | cop (op d a b : Nat)
  /-- Format X (R347): `wr` is CWR. -/
  | bus (wr : Bool) (d a : Nat)
  /-- A lane instruction (R330). -/
  | lane (op acc x y sgn : Nat) (sh lx : Bool) (px mx : Nat) (ly : Bool) (py my width : Nat)
  deriving DecidableEq, Repr

/-! ### Legal instructions (R312, R317, R319, R321) -/

/-- The number of a data register. -/
def regOk (r : Nat) : Bool := decide (r < 16)

/-- A field that names a pair: even (R312). -/
def pairOk (r : Nat) : Bool := decide (r < 16) && r % 2 == 0

/-- A register field of an operation that is 16 or 32 bits wide. -/
def wideOk (w : Bool) (r : Nat) : Bool := if w then pairOk r else regOk r

/-- A field the instruction does not use (R321). -/
def noField (v : Nat) : Bool := v == 0

/-- A control register that exists: its width is 32 bits, or 16 (R317). -/
def crWide (cr : Nat) : Option Bool :=
  if cr < 0x08 then some false
  else if cr < 0x10 then some true
  else if cr < 0x17 then some false
  else if cr = 0x18 ∨ cr = 0x19 ∨ cr = 0x1A then some false
  else if cr = 0x1C ∨ cr = 0x1D ∨ cr = 0x1E then some false
  else if cr = 0x20 ∨ cr = 0x21 ∨ cr = 0x22 ∨ cr = 0x23 then some false
  else if cr = 0x24 then some true
  else none

/-- The control register is marked RO: bst and cyc (R317). -/
def crReadOnly (cr : Nat) : Bool := cr == 0x23 || cr == 0x24

/-- Format M's address fields (R327). -/
def memFieldsOk (p am m off : Nat) : Bool :=
  decide (p < 8) && decide (am < 3) && decide (m < 8) && decide (off < 512) && (am == 2 || noField off) && (am == 1 || noField m)

/-- The fields of a lane instruction (R330, R332, R335); the wide forms' need of PREC is checked when it runs. -/
def laneOk (op acc x y sgn : Nat) (sh lx : Bool) (px mx : Nat) (ly : Bool) (py my width : Nat) : Bool :=
  decide (op < 3) && decide (acc < 2) && decide (sgn < 4) && decide (width < 3) && decide (px < 8) && decide (mx < 8) &&
    decide (py < 8) && decide (my < 8) && (lx || (noField px && noField mx)) && (ly || (noField py && noField my)) &&
    !(lx && ly && (px == py || x == y)) &&
    (if width = 0 then regOk x && regOk y
     else noField sgn && !sh && pairOk x && (if width = 2 || ly then pairOk y else regOk y))

/-- The instruction is legal as an encoding: no reserved code, no reserved field other than 0, no register field out of its range
(R319). -/
def AnvOp.legal : AnvOp → Bool
  | .sys f => decide (f < 4)
  | .alu f d a b w =>
    decide (f < 16) && wideOk w a && (if f = 0x0B then noField d else wideOk w d) &&
      (if f = 0 ∨ f = 6 ∨ f = 7 ∨ f = 8 ∨ f = 15 then noField b else wideOk w b)
  | .imm sub d v => decide (sub < 8) && regOk d && decide (v < (if sub < 5 then 65536 else 32))
  | .acc f d ad src n =>
    decide (f < 11) && decide (ad < 2) && decide (src < 2) && decide (n < 64) &&
      (match f with
       | 0 => regOk d && noField ad && noField n
       | 1 => pairOk d && noField ad && noField n
       | 2 => noField d && noField src && noField n
       | 3 => pairOk d && noField src && noField n
       | 4 => noField d
       | _ => noField d && noField n)
  | .load sub reg p am m off =>
    memFieldsOk p am m off &&
      (match sub with | 0 => regOk reg | 1 => pairOk reg | 2 => regOk reg | 3 => decide (reg < 2) | _ => false)
  | .store sub reg p am m off =>
    memFieldsOk p am m off &&
      (match sub with | 0 => regOk reg | 1 => pairOk reg | 2 => decide (reg < 2) | 3 => decide (reg < 2) | _ => false)
  | .norm sub reg p am m off =>
    match sub with
    | 0 => memFieldsOk p am m off && noField reg
    | 1 => pairOk reg && noField p && noField am && noField m && noField off
    | _ => false
  | .addr p sub v => decide (p < 8) && decide (sub < 2) && decide (v < 16384)
  | .ctl out reg w cr => wideOk w reg && crWide cr == some w && !(out && crReadOnly cr)
  | .br cond kind target => decide (cond < 11) && decide (kind < 4) && decide (target < 2048) && (kind != 3 || noField target)
  | .loop lc src stop count =>
    decide (lc < 3) && between1 stop && decide (count < (if src then 16 else 2048))
  | .billet f h s ring i p =>
    decide (h < 8) && decide (s < 64) && decide (ring < 4) && decide (i < 16) && decide (p < 8) &&
      (match f with
       | 0 => decide (s < 32) && noField ring && noField i
       | 1 => decide (32 ≤ s) && noField ring && noField i && noField p
       | 2 => noField s && noField ring && noField i
       | 3 => noField s && noField ring && noField i && noField p
       | 4 => noField h && noField s
       | 5 => noField h && noField s
       | _ => false)
  | .handle f h reg sel =>
    decide (h < 8) &&
      (match f with
       | 0 => regOk reg && !sel
       | 1 => regOk reg && !sel
       | 2 => regOk reg && noField h && !sel
       | 3 => pairOk reg
       | 4 => pairOk reg
       | _ => false)
  | .cop op d a b =>
    pairOk d && pairOk a &&
      (match op with | 0 => regOk b | 1 => noField b | 2 => noField b | 3 => noField b | 4 => noField b | 5 => pairOk b | _ => false)
  | .bus _ d a => pairOk d && pairOk a
  | .lane op a x y sgn sh lx px mx ly py my width => laneOk op a x y sgn sh lx px mx ly py my width
where
  /-- END of a LOOP: at least 1, eleven bits (R340). -/
  between1 (v : Nat) : Bool := decide (1 ≤ v) && decide (v < 2048)

/-! ### Decoding (R319 to R321, R330) -/

/-- The field of `len` bits at `lo`. -/
def fld (w lo len : Nat) : Nat := w >>> lo % 2 ^ len

/-- The instruction a word spells, `none` where an encoding is reserved or a reserved bit is set (R319). -/
def decodeAnvil (w : Nat) : Option AnvOp :=
  let op : Option AnvOp :=
    if w.testBit 31 then
      if w.testBit 0 then none
      else some (.lane (fld w 29 2) (fld w 28 1) (fld w 24 4) (fld w 20 4) (fld w 18 2) (w.testBit 17) (w.testBit 16) (fld w 13 3)
        (fld w 10 3) (w.testBit 9) (fld w 6 3) (fld w 3 3) (fld w 1 2))
    else
      match fld w 25 6 with
      | 0x00 => if fld w 6 19 = 0 then some (.sys (fld w 0 6)) else none
      | 0x01 => if fld w 6 6 = 0 then some (.alu (fld w 0 6) (fld w 21 4) (fld w 17 4) (fld w 13 4) (w.testBit 12)) else none
      | 0x02 => if fld w 16 2 = 0 then some (.imm (fld w 18 3) (fld w 21 4) (fld w 0 16)) else none
      | 0x03 => if fld w 6 7 = 0 then some (.acc (fld w 0 6) (fld w 21 4) (fld w 20 1) (fld w 19 1) (fld w 13 6)) else none
      | 0x04 => if w.testBit 12 then none else some (.load (fld w 18 3) (fld w 21 4) (fld w 15 3) (fld w 13 2) (fld w 9 3) (fld w 0 9))
      | 0x05 => if w.testBit 12 then none else some (.store (fld w 18 3) (fld w 21 4) (fld w 15 3) (fld w 13 2) (fld w 9 3) (fld w 0 9))
      | 0x06 => if w.testBit 12 then none else some (.norm (fld w 18 3) (fld w 21 4) (fld w 15 3) (fld w 13 2) (fld w 9 3) (fld w 0 9))
      | 0x07 => if fld w 14 7 = 0 then some (.addr (fld w 22 3) (fld w 21 1) (fld w 0 14)) else none
      | 0x08 => if fld w 0 14 = 0 then some (.ctl true (fld w 21 4) (w.testBit 20) (fld w 14 6)) else none
      | 0x09 => if fld w 0 14 = 0 then some (.ctl false (fld w 21 4) (w.testBit 20) (fld w 14 6)) else none
      | 0x0A => if fld w 11 8 = 0 then some (.br (fld w 21 4) (fld w 19 2) (fld w 0 11)) else none
      | 0x0B => some (.loop (fld w 23 2) (w.testBit 22) (fld w 11 11) (fld w 0 11))
      | 0x0C =>
        if fld w 0 4 = 0 then
          some (.billet (fld w 22 3) (fld w 19 3) (fld w 13 6) (fld w 11 2) (fld w 7 4) (fld w 4 3))
        else none
      | 0x0D => if fld w 0 14 = 0 then some (.handle (fld w 22 3) (fld w 19 3) (fld w 15 4) (w.testBit 14)) else none
      | 0x0E => if fld w 0 10 = 0 then some (.cop (fld w 22 3) (fld w 18 4) (fld w 14 4) (fld w 10 4)) else none
      | 0x0F => if fld w 0 16 = 0 then some (.bus (w.testBit 24) (fld w 20 4) (fld w 16 4)) else none
      | _ => none
  match op with
  | none => none
  | some o => if o.legal then some o else none

/-- A field of value `v` at bit `lo` of a word. -/
def fieldAt (lo v : Nat) : Nat := v * 2 ^ lo

/-- The word that spells an instruction: the layouts of R321 and R330 read the other way. -/
def encodeAnvil : AnvOp → Nat
  | .sys f => f
  | .alu f d a b w => fieldAt 25 0x01 + fieldAt 21 d + fieldAt 17 a + fieldAt 13 b + fieldAt 12 (b2n w) + f
  | .imm sub d v => fieldAt 25 0x02 + fieldAt 21 d + fieldAt 18 sub + v
  | .acc f d ad src n => fieldAt 25 0x03 + fieldAt 21 d + fieldAt 20 ad + fieldAt 19 src + fieldAt 13 n + f
  | .load sub reg p am m off =>
    fieldAt 25 0x04 + fieldAt 21 reg + fieldAt 18 sub + fieldAt 15 p + fieldAt 13 am + fieldAt 9 m + off
  | .store sub reg p am m off =>
    fieldAt 25 0x05 + fieldAt 21 reg + fieldAt 18 sub + fieldAt 15 p + fieldAt 13 am + fieldAt 9 m + off
  | .norm sub reg p am m off =>
    fieldAt 25 0x06 + fieldAt 21 reg + fieldAt 18 sub + fieldAt 15 p + fieldAt 13 am + fieldAt 9 m + off
  | .addr p sub v => fieldAt 25 0x07 + fieldAt 22 p + fieldAt 21 sub + v
  | .ctl out reg w cr => fieldAt 25 (if out then 0x08 else 0x09) + fieldAt 21 reg + fieldAt 20 (b2n w) + fieldAt 14 cr
  | .br cond kind target => fieldAt 25 0x0A + fieldAt 21 cond + fieldAt 19 kind + target
  | .loop lc src stop count => fieldAt 25 0x0B + fieldAt 23 lc + fieldAt 22 (b2n src) + fieldAt 11 stop + count
  | .billet f h s ring i p =>
    fieldAt 25 0x0C + fieldAt 22 f + fieldAt 19 h + fieldAt 13 s + fieldAt 11 ring + fieldAt 7 i + fieldAt 4 p
  | .handle f h reg sel => fieldAt 25 0x0D + fieldAt 22 f + fieldAt 19 h + fieldAt 15 reg + fieldAt 14 (b2n sel)
  | .cop op d a b => fieldAt 25 0x0E + fieldAt 22 op + fieldAt 18 d + fieldAt 14 a + fieldAt 10 b
  | .bus wr d a => fieldAt 25 0x0F + fieldAt 24 (b2n wr) + fieldAt 20 d + fieldAt 16 a
  | .lane op acc x y sgn sh lx px mx ly py my width =>
    fieldAt 31 1 + fieldAt 29 op + fieldAt 28 acc + fieldAt 24 x + fieldAt 20 y + fieldAt 18 sgn + fieldAt 17 (b2n sh) +
      fieldAt 16 (b2n lx) + fieldAt 13 px + fieldAt 10 mx + fieldAt 9 (b2n ly) + fieldAt 6 py + fieldAt 3 my + fieldAt 1 width

/-! ### Flags (R314) -/

/-- Mode bits of md (R315). -/
def mdRnd (md : Nat) : Bool := md.testBit 0
/-- SAT. -/
def mdSat (md : Nat) : Bool := md.testBit 1
/-- PREC. -/
def mdPrec (md : Nat) : Bool := md.testBit 2
/-- BFP. -/
def mdBfp (md : Nat) : Bool := md.testBit 3
/-- OVT. -/
def mdOvt (md : Nat) : Bool := md.testBit 4

/-- A computed value with the flags it leaves and whether the instruction set V. -/
structure Calc where
  val : Int
  st  : Nat
  v   : Bool := false
  deriving DecidableEq, Repr

/-- Z and N from the value. -/
def Calc.zn (c : Calc) : Calc :=
  { c with st := putBit (putBit c.st 0 (decide (c.val = 0))) 1 (decide (c.val < 0)) }

/-- C. -/
def Calc.carry (c : Calc) (b : Bool) : Calc := { c with st := putBit c.st 2 b }

/-- The overflow rule of R324, R331 and R333: a value outside the signed range of `n` bits sets V, and saturates with S set, or wraps. -/
def fit (n md : Nat) (t : Int) (st : Nat) : Calc :=
  if fitsS n t then { val := t, st := st }
  else if mdSat md then { val := satS n t, st := putBit (putBit st 3 true) 4 true, v := true }
  else { val := sext n (unsign n t), st := putBit st 3 true, v := true }

/-- `a / 2^k` rounded as md.RND gives: convergent, or towards minus infinity. -/
def roundMd (md : Nat) (a : Int) (k : Nat) : Int := if mdRnd md then a / (2 ^ k : Nat) else roundConv a k

/-- Headroom of R337: the leading bits of the `n`-bit value that equal its sign bit, minus 1. -/
def headroom (n : Nat) (v : Int) : Nat :=
  let m := if v < 0 then (-v - 1).toNat else v.toNat
  n - 1 - (if m = 0 then 0 else Nat.log2 m + 1)

/-! ### ALU (R323 to R325) -/

/-- Operation `f` of opcode 0x01 on `n`-bit operands given by their unsigned values. CMP (0x0B) leaves its value unused. -/
def alu (f n md a b st : Nat) : Calc :=
  let sa := sext n a
  let sb := sext n b
  let logic := fun (v : Nat) => ({ val := sext n v, st := st } : Calc).zn
  let amt := b % 64
  match f with
  | 0x00 => { val := sa, st := st }
  | 0x01 => ((fit n md (sa + sb) st).carry (decide (2 ^ n ≤ a % 2 ^ n + b % 2 ^ n))).zn
  | 0x02 => ((fit n md (sa - sb) st).carry (decide (b % 2 ^ n ≤ a % 2 ^ n))).zn
  | 0x03 => logic (a &&& b)
  | 0x04 => logic (a ||| b)
  | 0x05 => logic (a ^^^ b)
  | 0x06 => logic (2 ^ n - 1 - a % 2 ^ n)
  | 0x07 => (fit n md (-sa) st).zn
  | 0x08 => (fit n md (if sa < 0 then -sa else sa) st).zn
  | 0x09 => ({ val := if sa ≤ sb then sa else sb, st := st } : Calc).zn
  | 0x0A => ({ val := if sa ≤ sb then sb else sa, st := st } : Calc).zn
  | 0x0B => { val := 0, st := putBit (putBit (putBit st 0 (decide (sa = sb))) 1 (decide (sa < sb))) 2 (decide (b % 2 ^ n ≤ a % 2 ^ n)) }
  | 0x0C => logic (if amt < n then a * 2 ^ amt else 0)
  | 0x0D => logic (if amt < n then a % 2 ^ n / 2 ^ amt else 0)
  | 0x0E => ({ val := if amt < n then sa / (2 ^ amt : Nat) else if sa < 0 then -1 else 0, st := st } : Calc).zn
  | _ => { val := headroom n sa, st := putBit st 0 (decide (headroom n sa = 0)) }

/-- Operation `sub` of opcode 0x02 on a 16-bit register (R325), as the function of opcode 0x01 it repeats. -/
def immFn (sub : Nat) : Nat := [0x00, 0x01, 0x0B, 0x03, 0x04, 0x0C, 0x0E, 0x0D].getD sub 0

/-- The value of an immediate operation: MOVI moves the immediate itself. -/
def immAlu (sub md a v st : Nat) : Calc :=
  if sub = 0 then { val := sext 16 v, st := st } else alu (immFn sub) 16 md a v st

/-! ### Accumulators and lane (R331, R333 to R335) -/

/-- 16-bit extraction from an accumulator (R333). -/
def extract16 (md : Nat) (acc : Int) (st : Nat) : Calc := fit 16 md (roundMd md acc 16) st

/-- 32-bit extraction (R333). -/
def extract32 (md : Nat) (acc : Int) (st : Nat) : Calc := fit 32 md acc st

/-- The normalising load of R337 on the 32-bit word `v`: both of its saturations may set V. -/
def normLoad (md sx : Nat) (v : Int) (st : Nat) : Calc :=
  let s := if mdBfp md then sx else 0
  let t := fit 32 md (v * (2 ^ s : Nat)) st
  let r := extract16 md t.val t.st
  { r with v := t.v || r.v }

/-- The word a denormalising store writes (R337). -/
def denorm (md sx : Nat) (acc : Int) (st : Nat) : Calc :=
  let s := if mdBfp md then sx else 0
  extract32 md (if s = 0 then acc else roundMd md acc s) st

/-- An operand of the lane, signed or unsigned. -/
def laneOperand (unsigned : Bool) (v : Nat) : Int := if unsigned then v % 65536 else sext 16 v

/-- One pass: the aligned product, its low 16 bits discarded where `sh` (R331). -/
def lanePass (x y : Int) (sh : Bool) : Int := if sh then x * y * 2 / 65536 else x * y * 2

/-- The product p of a lane instruction (R331, R335): X and Y are 32-bit values in the wide forms, 16-bit ones otherwise. -/
def laneProduct (width sgn : Nat) (sh : Bool) (x y : Nat) : Int :=
  let xh := sext 16 (x / 65536)
  let xl : Int := x % 65536
  match width with
  | 0 => lanePass (laneOperand (sgn.testBit 0) x) (laneOperand (sgn.testBit 1) y) sh
  | 1 => lanePass xl (sext 16 y) true + lanePass xh (sext 16 y) false
  | _ =>
    let yh := sext 16 (y / 65536)
    let yl : Int := y % 65536
    lanePass xh yh false + lanePass xh yl true + lanePass xl yh true

/-- MPY, MAC and MSU on the accumulator (R331). -/
def laneAcc (op md : Nat) (acc p : Int) (st : Nat) : Calc :=
  fit 40 md (match op with | 0 => p | 1 => acc + p | _ => acc - p) st

/-- The operations of opcode 0x03 that write an accumulator (R334): `ad` and `src` are the accumulators, `d` the pair's value, `n` the
signed count of ASHI and `sx` the exponent. -/
def accOp (f md : Nat) (ad src : Int) (d n sx st : Nat) : Calc :=
  match f with
  | 2 => { val := 0, st := st }
  | 3 => { val := sext 32 d, st := st }
  | 4 =>
    let k := sext 6 n
    (fit 40 md (if 0 ≤ k then src * (2 ^ k.toNat : Nat) else roundMd md src (-k).toNat) st).zn
  | 5 => ({ val := if mdBfp md then roundMd md src sx else src, st := st } : Calc).zn
  | 6 => (fit 40 md (ad + src) st).zn
  | 7 => (fit 40 md (ad - src) st).zn
  | 8 => { val := src, st := st }
  | 9 => (fit 40 md (-src) st).zn
  | _ => (fit 40 md (if src < 0 then -src else src) st).zn

/-! ### Addresses (R326) -/

/-- The modifier may be used: KIND is not 0b11, and a circular or bit-reversed one has LOG2LEN from 2 to 14. -/
def modifierOk (m : Nat) : Bool :=
  match fld m 30 2 with
  | 0 => true
  | 3 => false
  | _ => decide (2 ≤ fld m 16 5) && decide (fld m 16 5 ≤ 14)

/-- The low `n` bits of `v` reversed. -/
def revBits (n v : Nat) : Nat := (List.range n).foldl (fun a i => a * 2 + v / 2 ^ i % 2) 0

/-- The post-modified address (R326). -/
def postModify (p m : Nat) : Nat :=
  let step := fld m 0 16
  let l := fld m 16 5
  let len := 2 ^ l
  let p := p % 65536
  match fld m 30 2 with
  | 0 => (p + step) % 65536
  | 1 => p / len * len + (p + step) % len
  | _ => p / len * len + revBits l ((revBits l (p % len) + revBits l (step % len)) % len)

/-- COND of R339 on st. -/
def condHolds (cond st : Nat) : Bool :=
  let z := st.testBit 0
  let n := st.testBit 1
  let c := st.testBit 2
  match cond with
  | 0 => true
  | 1 => z
  | 2 => !z
  | 3 => n
  | 4 => !n
  | 5 => !n && !z
  | 6 => n || z
  | 7 => c
  | 8 => !c
  | 9 => st.testBit 3
  | _ => st.testBit 4

/-! ### Coprocessor (R346) -/

/-- The result of a coprocessor operation: the 32-bit value, whether it was saturated outside an error case, and the error case. -/
structure CopRes where
  val : Word
  sat : Bool := false
  err : Bool := false
  deriving DecidableEq, Repr

/-- `a / b` rounded as `md` gives; `b` positive. -/
def divMd (md : Nat) (a : Int) (b : Nat) : Int := if mdRnd md then a / (b : Int) else divConv a b

/-- The integer square root of a number below 2^68. -/
def sqrtFloor (x : Nat) : Nat :=
  (List.range 34).foldl (fun r i => let t := r + 2 ^ (33 - i); if t * t ≤ x then t else r) 0

/-- The square root of `x` rounded as `md` gives: to nearest (no tie exists), or down. -/
def sqrtMd (md x : Nat) : Nat :=
  let r := sqrtFloor x
  if mdRnd md then r else if r * r + r < x then r + 1 else r

/-- A Q1.31 result, saturated to 32 bits. -/
def q31Res (t : Int) : CopRes := { val := Word.of (unsign 32 (satS 32 t)), sat := !fitsS 32 t }

/-- 1 / √a in Q16.16 within 2 units of the last place: the free value, taken where the bound (r ± 2)² · a against 2^63 admits it. -/
def rsqrtRes (a free : Nat) : Nat :=
  let v := free % 2 ^ 32
  if (v - 2) ^ 2 * a ≤ 2 ^ 63 ∧ 2 ^ 63 ≤ (v + 2) ^ 2 * a then v
  else sqrtFloor (2 ^ 63 / a)

/-- A free value `v` held near the number `t` that the exact result exceeds by less than one unit: 2 units of the last place either way
(R346), and the one unit by which `t` may fall short; else `t`. (Log entry 5: DESIGN CHOICE.) -/
def near2 (t v : Int) : Word := Word.of (unsign 32 (if t - 2 ≤ v ∧ v ≤ t + 3 then v else t))

/-- log2 of the Q1.31 number `a`, positive, in units of 2^-26, rounded down: bit by bit, squaring a mantissa of 62 fractional bits.
(Log entry 5: DESIGN CHOICE.) -/
def log2Floor (a : Nat) : Int :=
  let e := Nat.log2 a
  let x := (List.range 26).foldl (fun (x : Nat × Nat) _ =>
    let m := x.1 * x.1 / 2 ^ 62
    if 2 ^ 63 ≤ m then (m / 2, 2 * x.2 + 1) else (m, 2 * x.2)) (a * 2 ^ 62 / 2 ^ e, 0)
  ((e : Int) - 31) * 2 ^ 26 + x.2

/-- 2^(2^-j) for j from 1 to 26, in units of 2^-62. -/
def exp2Roots : List Nat :=
  [6521908912666391106, 5484249825272419511, 5029079263719320435, 4815862801830788490, 4712668792719003883, 4661903986662671289,
   4636727017470743989, 4624189567668517719, 4617933561212708775, 4614808732577250067, 4613247111281068007, 4612466498810092973,
   4612076242109103706, 4611881126141011235, 4611783571252412753, 4611734794581956352, 4611710406440186475, 4611698212417665818,
   4611692115418496523, 4611689066921934629, 4611687542674409370, 4611686780550835663, 4611686399489096040, 4611686208958238036,
   4611686113692811986, 4611686066060099699]

/-- 2^p for the Q6.26 exponent `p` from -16 to below 16, in units of 2^-16, rounded down. (Log entry 5: DESIGN CHOICE.) -/
def exp2Floor (p : Int) : Int :=
  let f := unsign 26 p
  let r := ((List.range 26).filter fun j => f.testBit (25 - j)).foldl (fun a j => a * exp2Roots.getD j 0 / 2 ^ 62) (2 ^ 62)
  (r / 2 ^ (46 - p / 2 ^ 26).toNat : Nat)

/-- Operation `op` on the values of wA and of B; `md` is the mode at issue (R346). RSQRT, LOG2 and EXP2 outside their stated cases are
free values within their bound (log entry 5): the specification bounds their error and gives no arithmetic. (Log entry 5: DESIGN CHOICE.) -/
def copResult (op md a b : Nat) : CopRes :=
  let sa := sext 32 a
  match op with
  | 0 =>
    let sb := sext 16 b
    if sb = 0 then { val := if 0 ≤ sa then 0x7FFFFFFF else 0x80000000, err := true }
    else if 0 < sb then q31Res (divMd md (sa * 32768) sb.toNat)
    else q31Res (divMd md (-sa * 32768) (-sb).toNat)
  | 1 => if sa < 0 then { val := 0, err := true } else q31Res (sqrtMd md (sa.toNat * 2 ^ 31))
  | 2 =>
    if sa ≤ 0 then { val := 0xFFFFFFFF, err := true }
    else { val := Word.of (rsqrtRes sa.toNat (Config.rsqrt sa.toNat)) }
  | 3 => if sa ≤ 0 then { val := 0x80000000, err := true } else { val := near2 (log2Floor sa.toNat) (Config.log2 (Word.of a)).toInt }
  | 4 =>
    if 16 * 2 ^ 26 ≤ sa then { val := 0xFFFFFFFF, err := true }
    else if sa < -(16 * 2 ^ 26) then { val := 0 }
    else { val := near2 (exp2Floor sa) (Config.exp2 (Word.of a)).toNat }
  | _ => q31Res (if mdRnd md then sa * sext 32 b / (2 ^ 31 : Nat) else roundConv (sa * sext 32 b) 31)

end Sys2Proof.Machine
end

