-- ==== Sys2Proof/Machine/Regs.lean ====
section
/-!
DEFINITION. Register names: the key of every register the specification's register tables name. A key is the
page number times 256 plus the word index of the register in its page (R35); a page that stands in several instances takes the
instance number. The tables stand in chapters 02 to 25 of the specification, under the headings that give each offset.
-/

namespace Sys2Proof.Machine.Regs

/-- The key of the word at byte offset `off` of page `page` (R35). -/
abbrev at_ (page off : Nat) : Nat := page * 256 + off / 4

/-- COMMON.PG_ID: page identity (R48). -/
abbrev PG_ID (p : Nat) : Nat := at_ p 0x000
/-- COMMON.PG_CAPS: block capabilities (R48). -/
abbrev PG_CAPS (p : Nat) : Nat := at_ p 0x004
/-- COMMON.PG_CTRL: page control (R48). -/
abbrev PG_CTRL (p : Nat) : Nat := at_ p 0x008
/-- COMMON.PG_STAT: page status (R53). -/
abbrev PG_STAT (p : Nat) : Nat := at_ p 0x00C
/-- COMMON.IRQ_RAW: raw interrupt causes (R53). -/
abbrev IRQ_RAW (p : Nat) : Nat := at_ p 0x010
/-- COMMON.IRQ_EN: interrupt enables (R53). -/
abbrev IRQ_EN (p : Nat) : Nat := at_ p 0x014
/-- COMMON.IRQ_PEND: pending interrupts (R53). -/
abbrev IRQ_PEND (p : Nat) : Nat := at_ p 0x018
/-- COMMON.IRQ_FORCE: forced interrupts (R53). -/
abbrev IRQ_FORCE (p : Nat) : Nat := at_ p 0x01C
/-- COMMON.PG_ACCESS: domain rights (R55). -/
abbrev PG_ACCESS (p : Nat) : Nat := at_ p 0x020
/-- COMMON.PG_LOCK: owner locks (R59). -/
abbrev PG_LOCK (p : Nat) : Nat := at_ p 0x024
/-- COMMON.PG_WELD: weld behaviour (R61). -/
abbrev PG_WELD (p : Nat) : Nat := at_ p 0x028
/-- COMMON.PG_EVT: violation record (R62). -/
abbrev PG_EVT (p : Nat) : Nat := at_ p 0x02C
/-- COMMON.PG_ERR: last error (R63). -/
abbrev PG_ERR (p : Nat) : Nat := at_ p 0x030
/-- COMMON.PG_SEQ: write sequence (R64). -/
abbrev PG_SEQ (p : Nat) : Nat := at_ p 0x034
/-- PWR.MODE: state request (R84). -/
abbrev PWR_MODE : Nat := at_ 0x02 0x040
/-- PWR.STAT: state (R84). -/
abbrev PWR_STAT : Nat := at_ 0x02 0x044
/-- PWR.WAKE_EN: wake enables (R84). -/
abbrev PWR_WAKE_EN : Nat := at_ 0x02 0x048
/-- PWR.WAKE_CAUSE: wake causes (R84). -/
abbrev PWR_WAKE_CAUSE : Nat := at_ 0x02 0x04C
/-- PWR.BRACE_COUNT: BRACE episodes (R84). -/
abbrev PWR_BRACE_COUNT : Nat := at_ 0x02 0x050
/-- PWR.RST_CAUSE: last reset (R84). -/
abbrev PWR_RST_CAUSE : Nat := at_ 0x02 0x054
/-- PWR.ALARM_LO: wake alarm (R85). -/
abbrev PWR_ALARM_LO : Nat := at_ 0x02 0x058
/-- PWR.ALARM_HI: wake alarm (R85). -/
abbrev PWR_ALARM_HI : Nat := at_ 0x02 0x05C
/-- CLK.SRC: source selection (R95). -/
abbrev CLK_SRC : Nat := at_ 0x01 0x040
/-- CLK.HEARTH: hearth clock (R95). -/
abbrev CLK_HEARTH : Nat := at_ 0x01 0x044
/-- CLK.STAT: clock status (R95). -/
abbrev CLK_STAT : Nat := at_ 0x01 0x048
/-- CLK.ON: domain status (R99). -/
abbrev CLK_ON (i : Nat) : Nat := at_ 0x01 (0x060 + 4 * i)
/-- TB.LO: timebase (R114). -/
abbrev TB_LO : Nat := at_ 0x03 0x040
/-- TB.HI: timebase (R114). -/
abbrev TB_HI : Nat := at_ 0x03 0x044
/-- TB.STROKE: stroke number (R114). -/
abbrev TB_STROKE : Nat := at_ 0x03 0x048
/-- TB.SYNC: follower synchronisation (R114). -/
abbrev TB_SYNC : Nat := at_ 0x03 0x04C
/-- TB.CAPCTL: capture control (R114). -/
abbrev TB_CAPCTL : Nat := at_ 0x03 0x050
/-- TB.CAPSTAT: capture status (R114). -/
abbrev TB_CAPSTAT : Nat := at_ 0x03 0x054
/-- TB.CAP_LO: captures (R114). -/
abbrev TB_CAP_LO (i : Nat) : Nat := at_ 0x03 (0x060 + 8 * i)
/-- TB.CAP_HI: captures (R114). -/
abbrev TB_CAP_HI (i : Nat) : Nat := at_ 0x03 (0x064 + 8 * i)
/-- SCHED.NEW_LO: new entry time (R649). -/
abbrev SCHED_NEW_LO : Nat := at_ 0x04 0x040
/-- SCHED.NEW_HI: new entry time (R649). -/
abbrev SCHED_NEW_HI : Nat := at_ 0x04 0x044
/-- SCHED.NEW_CTRL: new entry control (R649). -/
abbrev SCHED_NEW_CTRL : Nat := at_ 0x04 0x048
/-- SCHED.NEW_PAYLOAD: new entry payload (R649). -/
abbrev SCHED_NEW_PAYLOAD : Nat := at_ 0x04 0x04C
/-- SCHED.ARM: arm (R649). -/
abbrev SCHED_ARM : Nat := at_ 0x04 0x050
/-- SCHED.CANCEL: cancel (R649). -/
abbrev SCHED_CANCEL : Nat := at_ 0x04 0x054
/-- SCHED.CANCEL_STAT: cancel result (R649). -/
abbrev SCHED_CANCEL_STAT : Nat := at_ 0x04 0x058
/-- SCHED.COUNT_LO: entry counts (R649). -/
abbrev SCHED_COUNT_LO : Nat := at_ 0x04 0x060
/-- SCHED.COUNT_HI: entry counts (R649). -/
abbrev SCHED_COUNT_HI : Nat := at_ 0x04 0x064
/-- SCHED.MISS: misses (R649). -/
abbrev SCHED_MISS : Nat := at_ 0x04 0x068
/-- SCHED.EVT: events (R649). -/
abbrev SCHED_EVT : Nat := at_ 0x04 0x06C
/-- STOCK.RETAIN: retained slabs (R155). -/
abbrev STOCK_RETAIN : Nat := at_ 0x06 0x040
/-- STOCK.BUDGET: committed depth (R155). -/
abbrev STOCK_BUDGET : Nat := at_ 0x06 0x044
/-- STOCK.ECC: ECC events (R155). -/
abbrev STOCK_ECC : Nat := at_ 0x06 0x048
/-- STOCK.QUAR_LAST: last quarantined billet (R155). -/
abbrev STOCK_QUAR_LAST : Nat := at_ 0x06 0x04C
/-- STOCK.EVT: refusals (R155). -/
abbrev STOCK_EVT : Nat := at_ 0x06 0x050
/-- STOCK.QSEL: descriptor window (R155). -/
abbrev STOCK_QSEL : Nat := at_ 0x06 0x054
/-- STOCK.QD_CFG: queue configuration (R155). -/
abbrev STOCK_QD_CFG : Nat := at_ 0x06 0x058
/-- STOCK.QD_ENDS: queue ends (R155). -/
abbrev STOCK_QD_ENDS : Nat := at_ 0x06 0x05C
/-- STOCK.QD_CREDIT: queue occupancy (R155). -/
abbrev STOCK_QD_CREDIT : Nat := at_ 0x06 0x060
/-- STOCK.QD_ISSUED: credit counters (R155). -/
abbrev STOCK_QD_ISSUED : Nat := at_ 0x06 0x064
/-- STOCK.QD_RETURNED: credit counters (R155). -/
abbrev STOCK_QD_RETURNED : Nat := at_ 0x06 0x068
/-- STOCK.QD_STAT: queue status (R155). -/
abbrev STOCK_QD_STAT : Nat := at_ 0x06 0x06C
/-- LEDGER.CTRL: audit request (R155). -/
abbrev LEDGER_CTRL : Nat := at_ 0x07 0x040
/-- LEDGER.AUDIT: last audit (R155). -/
abbrev LEDGER_AUDIT : Nat := at_ 0x07 0x044
/-- LEDGER.B_FREE: audited terms (R155). -/
abbrev LEDGER_B_FREE : Nat := at_ 0x07 0x048
/-- LEDGER.B_QUEUE: audited terms (R155). -/
abbrev LEDGER_B_QUEUE : Nat := at_ 0x07 0x04C
/-- LEDGER.B_ANVIL: audited terms (R155). -/
abbrev LEDGER_B_ANVIL : Nat := at_ 0x07 0x050
/-- LEDGER.B_WELD: audited terms (R155). -/
abbrev LEDGER_B_WELD : Nat := at_ 0x07 0x054
/-- LEDGER.B_LINK: audited terms (R155). -/
abbrev LEDGER_B_LINK : Nat := at_ 0x07 0x058
/-- LEDGER.B_QUAR: audited terms (R155). -/
abbrev LEDGER_B_QUAR : Nat := at_ 0x07 0x05C
/-- LEDGER.BREACH: breaches (R155). -/
abbrev LEDGER_BREACH : Nat := at_ 0x07 0x060
/-- WELD.OPEN: open a weld (R189). -/
abbrev WELD_OPEN : Nat := at_ 0x05 0x040
/-- WELD.SEL_TWT: selectors (R189). -/
abbrev WELD_SEL_TWT : Nat := at_ 0x05 0x044
/-- WELD.SEL_SPI: selectors (R189). -/
abbrev WELD_SEL_SPI : Nat := at_ 0x05 0x048
/-- WELD.SEL_VHK: selectors (R189). -/
abbrev WELD_SEL_VHK : Nat := at_ 0x05 0x04C
/-- WELD.TARGET: target stroke (R189). -/
abbrev WELD_TARGET : Nat := at_ 0x05 0x050
/-- WELD.COMMIT: commit (R189). -/
abbrev WELD_COMMIT : Nat := at_ 0x05 0x054
/-- WELD.ABORT: abort and undo (R189). -/
abbrev WELD_ABORT : Nat := at_ 0x05 0x058
/-- WELD.UNDO: abort and undo (R189). -/
abbrev WELD_UNDO : Nat := at_ 0x05 0x05C
/-- WELD.STATUS: weld status (R189). -/
abbrev WELD_STATUS : Nat := at_ 0x05 0x060
/-- WELD.IDS: identifier and entry counts (R189). -/
abbrev WELD_IDS : Nat := at_ 0x05 0x064
/-- WELD.MODE: fall-back mode (R189). -/
abbrev WELD_MODE : Nat := at_ 0x05 0x068
/-- WELD.STROKE: stroke weld (R189). -/
abbrev WELD_STROKE : Nat := at_ 0x05 0x06C
/-- WELD.SHUTS: cold-shut counts (R189). -/
abbrev WELD_SHUTS : Nat := at_ 0x05 0x070
/-- WELD.SHUT_LAST: last stroke cold shut (R189). -/
abbrev WELD_SHUT_LAST : Nat := at_ 0x05 0x074
/-- WELD.LATE_LO: late anvils (R189). -/
abbrev WELD_LATE_LO : Nat := at_ 0x05 0x078
/-- WELD.LATE_HI: late anvils (R189). -/
abbrev WELD_LATE_HI : Nat := at_ 0x05 0x07C
/-- WELD.CMDQ: queue credits (R189). -/
abbrev WELD_CMDQ : Nat := at_ 0x05 0x080
/-- WELD.CMDQ_EVT: queue events (R189). -/
abbrev WELD_CMDQ_EVT : Nat := at_ 0x05 0x084
/-- SAPn.TX_FMT: side format (R219). -/
abbrev SAP_TX_FMT (n : Nat) : Nat := at_ (0x10 + n) 0x040
/-- SAPn.RX_FMT: side format (R219). -/
abbrev SAP_RX_FMT (n : Nat) : Nat := at_ (0x10 + n) 0x04C
/-- SAPn.TX_CLK: side clocking (R219). -/
abbrev SAP_TX_CLK (n : Nat) : Nat := at_ (0x10 + n) 0x044
/-- SAPn.RX_CLK: side clocking (R219). -/
abbrev SAP_RX_CLK (n : Nat) : Nat := at_ (0x10 + n) 0x050
/-- SAPn.TX_MAP: channels and queues (R219). -/
abbrev SAP_TX_MAP (n : Nat) : Nat := at_ (0x10 + n) 0x048
/-- SAPn.RX_MAP: channels and queues (R219). -/
abbrev SAP_RX_MAP (n : Nat) : Nat := at_ (0x10 + n) 0x054
/-- SAPn.MUTE: side mutes (R219). -/
abbrev SAP_MUTE (n : Nat) : Nat := at_ (0x10 + n) 0x058
/-- SAPn.CMD: start and stop (R219). -/
abbrev SAP_CMD (n : Nat) : Nat := at_ (0x10 + n) 0x05C
/-- SAPn.STAT: side status (R219). -/
abbrev SAP_STAT (n : Nat) : Nat := at_ (0x10 + n) 0x060
/-- SAPn.RX_EVT: RX counts (R219). -/
abbrev SAP_RX_EVT (n : Nat) : Nat := at_ (0x10 + n) 0x064
/-- SAPn.RX_CNT: RX counts (R219). -/
abbrev SAP_RX_CNT (n : Nat) : Nat := at_ (0x10 + n) 0x068
/-- SAPn.TX_EVT: TX counts (R219). -/
abbrev SAP_TX_EVT (n : Nat) : Nat := at_ (0x10 + n) 0x06C
/-- SAPn.TX_CNT: TX counts (R219). -/
abbrev SAP_TX_CNT (n : Nat) : Nat := at_ (0x10 + n) 0x070
/-- SAPn.LINE: shared line (R219). -/
abbrev SAP_LINE (n : Nat) : Nat := at_ (0x10 + n) 0x074
/-- PDM.IF: interface (R222). -/
abbrev PDM_IF : Nat := at_ 0x16 0x040
/-- SPDIF.CTRL: receiver control (R230). -/
abbrev SPDIF_CTRL : Nat := at_ 0x17 0x040
/-- SPDIF.STAT: receiver status (R230). -/
abbrev SPDIF_STAT : Nat := at_ 0x17 0x044
/-- SPDIF.EVT: receiver counts (R230). -/
abbrev SPDIF_EVT : Nat := at_ 0x17 0x048
/-- SPDIF.EVT2: receiver counts (R230). -/
abbrev SPDIF_EVT2 : Nat := at_ 0x17 0x04C
/-- SPDIF.CS: channel status (R230). -/
abbrev SPDIF_CS (i : Nat) : Nat := at_ 0x17 (0x050 + 4 * i)
/-- ASRCn.CFG: engine configuration (R255). -/
abbrev ASRC_CFG (n : Nat) : Nat := at_ (0x18 + n) 0x040
/-- ASRCn.CH0_Q: channel queues (R255). -/
abbrev ASRC_CH0_Q (n : Nat) : Nat := at_ (0x18 + n) 0x044
/-- ASRCn.CH1_Q: channel queues (R255). -/
abbrev ASRC_CH1_Q (n : Nat) : Nat := at_ (0x18 + n) 0x048
/-- ASRCn.LAT: latency (R255). -/
abbrev ASRC_LAT (n : Nat) : Nat := at_ (0x18 + n) 0x04C
/-- ASRCn.STAT: engine status (R255). -/
abbrev ASRC_STAT (n : Nat) : Nat := at_ (0x18 + n) 0x050
/-- ASRCn.RATE: measured rate (R255). -/
abbrev ASRC_RATE (n : Nat) : Nat := at_ (0x18 + n) 0x054
/-- ASRCn.EVT: engine counts (R255). -/
abbrev ASRC_EVT (n : Nat) : Nat := at_ (0x18 + n) 0x058
/-- PATCH.CTRL: rebuild control (R255). -/
abbrev PATCH_CTRL : Nat := at_ 0x08 0x040
/-- PATCH.STAT: patch status (R255). -/
abbrev PATCH_STAT : Nat := at_ 0x08 0x044
/-- PATCH.ESEL: entry window (R255). -/
abbrev PATCH_ESEL : Nat := at_ 0x08 0x048
/-- PATCH.ENTRY_LO: selected entry (R255). -/
abbrev PATCH_ENTRY_LO : Nat := at_ 0x08 0x04C
/-- PATCH.ENTRY_HI: selected entry (R255). -/
abbrev PATCH_ENTRY_HI : Nat := at_ 0x08 0x050
/-- PATCH.INVAL: invalidation (R255). -/
abbrev PATCH_INVAL : Nat := at_ 0x08 0x054
/-- PATCH.SWAP: bank swap (R255). -/
abbrev PATCH_SWAP : Nat := at_ 0x08 0x058
/-- PATCH.SWAP_ERR: refused swap (R255). -/
abbrev PATCH_SWAP_ERR : Nat := at_ 0x08 0x05C
/-- PATCH.SSEL: stream window (R255). -/
abbrev PATCH_SSEL : Nat := at_ 0x08 0x060
/-- PATCH.S_RECV_LO: stream counters (R255). -/
abbrev PATCH_S_RECV_LO : Nat := at_ 0x08 0x064
/-- PATCH.S_RECV_HI: stream counters (R255). -/
abbrev PATCH_S_RECV_HI : Nat := at_ 0x08 0x068
/-- PATCH.S_DELIV_LO: stream counters (R255). -/
abbrev PATCH_S_DELIV_LO : Nat := at_ 0x08 0x06C
/-- PATCH.S_DELIV_HI: stream counters (R255). -/
abbrev PATCH_S_DELIV_HI : Nat := at_ 0x08 0x070
/-- PATCH.S_SLAG_LO: stream counters (R255). -/
abbrev PATCH_S_SLAG_LO : Nat := at_ 0x08 0x074
/-- PATCH.S_SLAG_HI: stream counters (R255). -/
abbrev PATCH_S_SLAG_HI : Nat := at_ 0x08 0x078
/-- PATCH.S_FILL_LO: stream counters (R255). -/
abbrev PATCH_S_FILL_LO : Nat := at_ 0x08 0x07C
/-- PATCH.S_FILL_HI: stream counters (R255). -/
abbrev PATCH_S_FILL_HI : Nat := at_ 0x08 0x080
/-- MIX.NSEL: node window (R281). -/
abbrev MIX_NSEL : Nat := at_ 0x09 0x040
/-- MIX.N_CFG: node configuration (R281). -/
abbrev MIX_N_CFG : Nat := at_ 0x09 0x044
/-- MIX.N_STAT: node status (R281). -/
abbrev MIX_N_STAT : Nat := at_ 0x09 0x048
/-- MIX.N_LIM: node limiter (R281). -/
abbrev MIX_N_LIM : Nat := at_ 0x09 0x04C
/-- MIX.IN: node inputs (R281). -/
abbrev MIX_IN (i : Nat) : Nat := at_ 0x09 (0x100 + 4 * i)
/-- INCn.HPF: high-pass (R281). -/
abbrev INC_HPF (n : Nat) : Nat := at_ (0x30 + n) 0x040
/-- INCn.GAIN: gain (R281). -/
abbrev INC_GAIN (n : Nat) : Nat := at_ (0x30 + n) 0x044
/-- INCn.METER: readings (R281). -/
abbrev INC_METER (n : Nat) : Nat := at_ (0x30 + n) 0x048
/-- INCn.MTR_CFG: peak behaviour (R281). -/
abbrev INC_MTR_CFG (n : Nat) : Nat := at_ (0x30 + n) 0x04C
/-- INCn.MTR_CTL: meter control (R281). -/
abbrev INC_MTR_CTL (n : Nat) : Nat := at_ (0x30 + n) 0x050
/-- FINn.HPF: high-pass (R281). -/
abbrev FIN_HPF (n : Nat) : Nat := at_ (0x48 + n) 0x040
/-- FINn.GAIN: gain (R281). -/
abbrev FIN_GAIN (n : Nat) : Nat := at_ (0x48 + n) 0x044
/-- FINn.METER: readings (R281). -/
abbrev FIN_METER (n : Nat) : Nat := at_ (0x48 + n) 0x048
/-- FINn.MTR_CFG: peak behaviour (R281). -/
abbrev FIN_MTR_CFG (n : Nat) : Nat := at_ (0x48 + n) 0x04C
/-- FINn.MTR_CTL: meter control (R281). -/
abbrev FIN_MTR_CTL (n : Nat) : Nat := at_ (0x48 + n) 0x050
/-- FINn.CTRL: chain control (R281). -/
abbrev FIN_CTRL (n : Nat) : Nat := at_ (0x48 + n) 0x054
/-- FINn.EQ_SEL: biquad enables (R281). -/
abbrev FIN_EQ_SEL (n : Nat) : Nat := at_ (0x48 + n) 0x058
/-- FINn.DELAY: delay (R281). -/
abbrev FIN_DELAY (n : Nat) : Nat := at_ (0x48 + n) 0x05C
/-- FINn.DLYQ: delay ring (R281). -/
abbrev FIN_DLYQ (n : Nat) : Nat := at_ (0x48 + n) 0x060
/-- FINn.LIM: limiter (R281). -/
abbrev FIN_LIM (n : Nat) : Nat := at_ (0x48 + n) 0x064
/-- FINn.ALLOW: clamp level (R281). -/
abbrev FIN_ALLOW (n : Nat) : Nat := at_ (0x48 + n) 0x068
/-- FINn.CNT: saturation counts (R281). -/
abbrev FIN_CNT (n : Nat) : Nat := at_ (0x48 + n) 0x06C
/-- FINn.LIM_GR: limiter reduction (R281). -/
abbrev FIN_LIM_GR (n : Nat) : Nat := at_ (0x48 + n) 0x070
/-- FINn.BQ: coefficients (R281). -/
abbrev FIN_BQ (n j c : Nat) : Nat := at_ (0x48 + n) (0x080 + 20 * j + 4 * c)
/-- ANVnn.CTRL: commands (R310). -/
abbrev ANV_CTRL (n : Nat) : Nat := at_ (0x80 + n) 0x040
/-- ANVnn.MODE: execution mode (R310). -/
abbrev ANV_MODE (n : Nat) : Nat := at_ (0x80 + n) 0x044
/-- ANVnn.ENTRY: stroke entry (R310). -/
abbrev ANV_ENTRY (n : Nat) : Nat := at_ (0x80 + n) 0x048
/-- ANVnn.WELDSEL: weld selector (R310). -/
abbrev ANV_WELDSEL (n : Nat) : Nat := at_ (0x80 + n) 0x04C
/-- ANVnn.STAT: anvil status (R310). -/
abbrev ANV_STAT (n : Nat) : Nat := at_ (0x80 + n) 0x050
/-- ANVnn.PC: program counter (R310). -/
abbrev ANV_PC (n : Nat) : Nat := at_ (0x80 + n) 0x054
/-- ANVnn.CYC_LAST: stroke cycles (R310). -/
abbrev ANV_CYC_LAST (n : Nat) : Nat := at_ (0x80 + n) 0x058
/-- ANVnn.CYC_MAX: stroke cycles (R310). -/
abbrev ANV_CYC_MAX (n : Nat) : Nat := at_ (0x80 + n) 0x05C
/-- ANVnn.EVT: anvil counts (R310). -/
abbrev ANV_EVT (n : Nat) : Nat := at_ (0x80 + n) 0x060
/-- ANVnn.RING01: ring queues (R310). -/
abbrev ANV_RING01 (n : Nat) : Nat := at_ (0x80 + n) 0x064
/-- ANVnn.RING23: ring queues (R310). -/
abbrev ANV_RING23 (n : Nat) : Nat := at_ (0x80 + n) 0x068
/-- ANVnn.MSEL: memory window (R310). -/
abbrev ANV_MSEL (n : Nat) : Nat := at_ (0x80 + n) 0x070
/-- ANVnn.MDATA: memory data (R310). -/
abbrev ANV_MDATA (n : Nat) : Nat := at_ (0x80 + n) 0x074
/-- ANVnn.EXC_LAST: last exception (R374). -/
abbrev ANV_EXC_LAST (n : Nat) : Nat := at_ (0x80 + n) 0x078
/-- ANVnn.EXC_CNT: exception counts (R374). -/
abbrev ANV_EXC_CNT (n : Nat) : Nat := at_ (0x80 + n) 0x07C
/-- BENCHn.CLK: bench clock (R310). -/
abbrev BENCH_CLK (n : Nat) : Nat := at_ (0xC0 + n) 0x040
/-- BENCHn.CP_BUSY: loads (R310). -/
abbrev BENCH_CP_BUSY (n : Nat) : Nat := at_ (0xC0 + n) 0x044
/-- BENCHn.PORT: loads (R310). -/
abbrev BENCH_PORT (n : Nat) : Nat := at_ (0xC0 + n) 0x048
/-- BENCHn.CANCEL: cancelled operations (R310). -/
abbrev BENCH_CANCEL (n : Nat) : Nat := at_ (0xC0 + n) 0x04C
/-- BENCHn.CP_ERR: coprocessor errors (R310). -/
abbrev BENCH_CP_ERR (n : Nat) : Nat := at_ (0xC0 + n) 0x050
/-- BENCH0.VARR: array supply trim (R310). -/
abbrev BENCH_VARR (n : Nat) : Nat := at_ (0xC0 + n) 0x054
/-- DBG.ASEL: anvil select (R374). -/
abbrev DBG_ASEL : Nat := at_ 0x0F 0x040
/-- DBG.BP: breakpoints (R374). -/
abbrev DBG_BP (i : Nat) : Nat := at_ 0x0F (0x044 + 4 * i)
/-- DBG.HIT: last match (R374). -/
abbrev DBG_HIT : Nat := at_ 0x0F 0x054
/-- DBG.RSEL: register window (R374). -/
abbrev DBG_RSEL : Nat := at_ 0x0F 0x058
/-- DBG.RDATA: register data (R374). -/
abbrev DBG_RDATA : Nat := at_ 0x0F 0x05C
/-- STGn/XSTn.CFG: stage configuration (R401); channel c is STGc below 8 and XST(c-8) from 8 (R402). -/
abbrev CH_CFG (c : Nat) : Nat := at_ (0x60 + c) 0x040
/-- STGn/XSTn.CMD: commands (R401); channel c is STGc below 8 and XST(c-8) from 8 (R402). -/
abbrev CH_CMD (c : Nat) : Nat := at_ (0x60 + c) 0x044
/-- STGn/XSTn.MUTE: channel mute (R401); channel c is STGc below 8 and XST(c-8) from 8 (R402). -/
abbrev CH_MUTE (c : Nat) : Nat := at_ (0x60 + c) 0x048
/-- STGn/XSTn.STAT: channel status (R401); channel c is STGc below 8 and XST(c-8) from 8 (R402). -/
abbrev CH_STAT (c : Nat) : Nat := at_ (0x60 + c) 0x04C
/-- STGn/XSTn.EVT: channel counts (R401); channel c is STGc below 8 and XST(c-8) from 8 (R402). -/
abbrev CH_EVT (c : Nat) : Nat := at_ (0x60 + c) 0x050
/-- TRK.CTRL: tracking control (R401). -/
abbrev TRK_CTRL : Nat := at_ 0x71 0x040
/-- TRK.LIMITS: command range (R401). -/
abbrev TRK_LIMITS : Nat := at_ 0x71 0x044
/-- TRK.DYN: tracking dynamics (R401). -/
abbrev TRK_DYN : Nat := at_ 0x71 0x048
/-- TRK.MAP: pin mapping (R401). -/
abbrev TRK_MAP : Nat := at_ 0x71 0x04C
/-- TRK.TW: converter message (R401). -/
abbrev TRK_TW : Nat := at_ 0x71 0x050
/-- TRK.TWLSB: code step (R401). -/
abbrev TRK_TWLSB : Nat := at_ 0x71 0x054
/-- TRK.CMDV: command and supply (R401). -/
abbrev TRK_CMDV : Nat := at_ 0x71 0x058
/-- TRK.PVMON: PVDD warning (R401). -/
abbrev TRK_PVMON : Nat := at_ 0x71 0x05C
/-- TRK.EVT: tracking counts (R401). -/
abbrev TRK_EVT : Nat := at_ 0x71 0x060
/-- SNS.CTRL: sense queues (R428). -/
abbrev SNS_CTRL : Nat := at_ 0x70 0x040
/-- SNS.XSCALE: external sense scale (R428). -/
abbrev SNS_XSCALE (i : Nat) : Nat := at_ 0x70 (0x044 + 4 * i)
/-- SNS.EVT: sense counts (R428). -/
abbrev SNS_EVT : Nat := at_ 0x70 0x064
/-- TONGS.MEAS: resistance measurement (R428). -/
abbrev TONGS_MEAS : Nat := at_ 0x72 0x040
/-- TONGS.TAMB: ambient (R428). -/
abbrev TONGS_TAMB : Nat := at_ 0x72 0x044
/-- TONGS.CEIL: owner ceilings (R428). -/
abbrev TONGS_CEIL : Nat := at_ 0x72 0x048
/-- TONGS.SAFE: fallback ceilings (R428). -/
abbrev TONGS_SAFE (i : Nat) : Nat := at_ 0x72 (0x04C + 4 * i)
/-- TONGS.P_RE: coil resistance and pilot (R428). -/
abbrev TONGS_P_RE : Nat := at_ 0x72 0x060
/-- TONGS.P_TEMP: temperature limits (R428). -/
abbrev TONGS_P_TEMP : Nat := at_ 0x72 0x064
/-- TONGS.P_COIL: thermal network (R428). -/
abbrev TONGS_P_COIL : Nat := at_ 0x72 0x068
/-- TONGS.P_MAG: thermal network (R428). -/
abbrev TONGS_P_MAG : Nat := at_ 0x72 0x06C
/-- TONGS.P_LEVEL: level range (R428). -/
abbrev TONGS_P_LEVEL : Nat := at_ 0x72 0x070
/-- TONGS.P_SLOPE: level dynamics (R428). -/
abbrev TONGS_P_SLOPE : Nat := at_ 0x72 0x074
/-- TONGS.CSEL: channel window (R428). -/
abbrev TONGS_CSEL : Nat := at_ 0x72 0x080
/-- TONGS.S_TEMP: model state (R428). -/
abbrev TONGS_S_TEMP : Nat := at_ 0x72 0x084
/-- TONGS.S_LEVEL: level and resistance (R428). -/
abbrev TONGS_S_LEVEL : Nat := at_ 0x72 0x088
/-- TONGS.S_POWER: power and flags (R428). -/
abbrev TONGS_S_POWER : Nat := at_ 0x72 0x08C
/-- TONGS.STAT: Tongs status (R428). -/
abbrev TONGS_STAT : Nat := at_ 0x72 0x090
/-- TONGS.EVT: Tongs counts (R428). -/
abbrev TONGS_EVT : Nat := at_ 0x72 0x094
/-- DIAG.CFG: test selection (R441). -/
abbrev DIAG_CFG : Nat := at_ 0x73 0x040
/-- DIAG.EXPECT: expected loads (R441). -/
abbrev DIAG_EXPECT : Nat := at_ 0x73 0x044
/-- DIAG.LEVEL: test levels (R441). -/
abbrev DIAG_LEVEL : Nat := at_ 0x73 0x048
/-- DIAG.THR: class thresholds (R441). -/
abbrev DIAG_THR (i : Nat) : Nat := at_ 0x73 (0x04C + 4 * i)
/-- DIAG.RUN: test request (R441). -/
abbrev DIAG_RUN : Nat := at_ 0x73 0x05C
/-- DIAG.STAT: test status (R441). -/
abbrev DIAG_STAT : Nat := at_ 0x73 0x060
/-- DIAG.CSEL: result window (R441). -/
abbrev DIAG_CSEL : Nat := at_ 0x73 0x064
/-- DIAG.RES: class and DC result (R441). -/
abbrev DIAG_RES : Nat := at_ 0x73 0x068
/-- DIAG.Z1K: impedance (R441). -/
abbrev DIAG_Z1K : Nat := at_ 0x73 0x06C
/-- DIAG.Z4K: impedance (R441). -/
abbrev DIAG_Z4K : Nat := at_ 0x73 0x070
/-- DIAG.Z16K: impedance (R441). -/
abbrev DIAG_Z16K : Nat := at_ 0x73 0x074
/-- DIAG.Z20K: impedance (R441). -/
abbrev DIAG_Z20K : Nat := at_ 0x73 0x078
/-- MIC.CFG: channel configuration (R466). -/
abbrev MIC_CFG (i : Nat) : Nat := at_ 0x24 (0x040 + 4 * i)
/-- MIC.Q: channel queues (R466). -/
abbrev MIC_Q (i : Nat) : Nat := at_ 0x24 (0x080 + 4 * i)
/-- MIC.BIAS: bias supplies (R466). -/
abbrev MIC_BIAS : Nat := at_ 0x24 0x0C0
/-- MIC.PRIV: privacy mute (R466). -/
abbrev MIC_PRIV : Nat := at_ 0x24 0x0C4
/-- MIC.STAT: paths running (R466). -/
abbrev MIC_STAT : Nat := at_ 0x24 0x0C8
/-- WAKE.CTRL: listener (R466). -/
abbrev WAKE_CTRL : Nat := at_ 0x25 0x040
/-- WAKE.DET: built-in detector (R466). -/
abbrev WAKE_DET : Nat := at_ 0x25 0x044
/-- WAKE.HIST: history length (R466). -/
abbrev WAKE_HIST : Nat := at_ 0x25 0x048
/-- WAKE.QA: queues (R466). -/
abbrev WAKE_QA : Nat := at_ 0x25 0x04C
/-- WAKE.QB: queues (R466). -/
abbrev WAKE_QB : Nat := at_ 0x25 0x050
/-- WAKE.EVT_LO: wake times (R466). -/
abbrev WAKE_EVT_LO : Nat := at_ 0x25 0x054
/-- WAKE.EVT_HI: wake times (R466). -/
abbrev WAKE_EVT_HI : Nat := at_ 0x25 0x058
/-- WAKE.SEAM_LO: wake times (R466). -/
abbrev WAKE_SEAM_LO : Nat := at_ 0x25 0x05C
/-- WAKE.SEAM_HI: wake times (R466). -/
abbrev WAKE_SEAM_HI : Nat := at_ 0x25 0x060
/-- WAKE.XFADE: crossover stroke (R466). -/
abbrev WAKE_XFADE : Nat := at_ 0x25 0x064
/-- WAKE.STAT: wake status (R466). -/
abbrev WAKE_STAT : Nat := at_ 0x25 0x068
/-- WAKE.FIRE: anvil wake (R466). -/
abbrev WAKE_FIRE : Nat := at_ 0x25 0x06C
/-- LIN.CFG: pair configuration (R480). -/
abbrev LIN_CFG : Nat := at_ 0x26 0x040
/-- LIN.Q: pair queues (R480). -/
abbrev LIN_Q : Nat := at_ 0x26 0x044
/-- LIN.CMD: start and stop (R480). -/
abbrev LIN_CMD : Nat := at_ 0x26 0x048
/-- LIN.STAT: line status (R480). -/
abbrev LIN_STAT : Nat := at_ 0x26 0x04C
/-- HPO.CFG: output range (R480). -/
abbrev HPO_CFG : Nat := at_ 0x27 0x040
/-- HPO.CMD: start and stop (R480). -/
abbrev HPO_CMD : Nat := at_ 0x27 0x044
/-- HPO.MUTE: output mute (R480). -/
abbrev HPO_MUTE : Nat := at_ 0x27 0x048
/-- HPO.STAT: output status (R480). -/
abbrev HPO_STAT : Nat := at_ 0x27 0x04C
/-- JACK.CFG: jack behaviour (R480). -/
abbrev JACK_CFG : Nat := at_ 0x28 0x040
/-- JACK.STAT: jack status (R480). -/
abbrev JACK_STAT : Nat := at_ 0x28 0x044
/-- AUXn.CTRL: converter control (R499). -/
abbrev AUX_CTRL (n : Nat) : Nat := at_ (0x74 + n) 0x040
/-- AUXn.CFG: sequence configuration (R499). -/
abbrev AUX_CFG (n : Nat) : Nat := at_ (0x74 + n) 0x044
/-- AUXn.SEQ0: regular entries (R499). -/
abbrev AUX_SEQ0 (n : Nat) : Nat := at_ (0x74 + n) 0x048
/-- AUXn.SEQ1: regular entries (R499). -/
abbrev AUX_SEQ1 (n : Nat) : Nat := at_ (0x74 + n) 0x04C
/-- AUXn.INJ: injected sequence (R499). -/
abbrev AUX_INJ (n : Nat) : Nat := at_ (0x74 + n) 0x050
/-- AUXn.BUF: result buffer (R499). -/
abbrev AUX_BUF (n : Nat) : Nat := at_ (0x74 + n) 0x054
/-- AUXn.WPTR: write position (R499). -/
abbrev AUX_WPTR (n : Nat) : Nat := at_ (0x74 + n) 0x058
/-- AUXn.STAT: converter status (R499). -/
abbrev AUX_STAT (n : Nat) : Nat := at_ (0x74 + n) 0x05C
/-- AUXn.EVT: converter counts (R499). -/
abbrev AUX_EVT (n : Nat) : Nat := at_ (0x74 + n) 0x060
/-- AUXn.XT_LIM: stage temperature limit (R499). -/
abbrev AUX_XT_LIM (n : Nat) : Nat := at_ (0x74 + n) 0x064
/-- AUX0.PLAUS: plausibility (R499). -/
abbrev AUX_PLAUS (n : Nat) : Nat := at_ (0x74 + n) 0x068
/-- AUX0.PVDD: PVDD readings (R499). -/
abbrev AUX_PVDD (n : Nat) : Nat := at_ (0x74 + n) 0x06C
/-- AUX0.BATT: battery presence (R499). -/
abbrev AUX_BATT (n : Nat) : Nat := at_ (0x74 + n) 0x070
/-- AUX0.KEY: key ladder (R499). -/
abbrev AUX_KEY (n : Nat) : Nat := at_ (0x74 + n) 0x074
/-- AUXn.DATA: latest results (R499). -/
abbrev AUX_DATA (n i : Nat) : Nat := at_ (0x74 + n) (0x080 + 4 * i)
/-- TWT.CFG: target configuration (R532). -/
abbrev TWT_CFG : Nat := at_ 0x76 0x040
/-- TWT.TO: low-time timeouts (R532). -/
abbrev TWT_TO : Nat := at_ 0x76 0x044
/-- TWT.NOTIFY: notification (R532). -/
abbrev TWT_NOTIFY : Nat := at_ 0x76 0x048
/-- TWT.STAT: target status (R532). -/
abbrev TWT_STAT : Nat := at_ 0x76 0x04C
/-- TWT.EVT: target counts (R532). -/
abbrev TWT_EVT : Nat := at_ 0x76 0x050
/-- TWT.EVT2: target counts (R532). -/
abbrev TWT_EVT2 : Nat := at_ 0x76 0x054
/-- TWCn.CFG: channel configuration (R532). -/
abbrev TWC_CFG (n : Nat) : Nat := at_ (0x77 + n) 0x040
/-- TWCn.OP: operation (R532). -/
abbrev TWC_OP (n : Nat) : Nat := at_ (0x77 + n) 0x044
/-- TWCn.RXD: received byte (R532). -/
abbrev TWC_RXD (n : Nat) : Nat := at_ (0x77 + n) 0x048
/-- TWCn.STAT: channel status (R532). -/
abbrev TWC_STAT (n : Nat) : Nat := at_ (0x77 + n) 0x04C
/-- TWCn.EVT: channel counts (R532). -/
abbrev TWC_EVT (n : Nat) : Nat := at_ (0x77 + n) 0x050
/-- SPIT.CFG: target configuration (R532). -/
abbrev SPIT_CFG : Nat := at_ 0x7A 0x040
/-- SPIT.STAT: target status (R532). -/
abbrev SPIT_STAT : Nat := at_ 0x7A 0x044
/-- SPIT.EVT: target counts (R532). -/
abbrev SPIT_EVT : Nat := at_ 0x7A 0x048
/-- QSPI.CFG: controller configuration (R532). -/
abbrev QSPI_CFG : Nat := at_ 0x7B 0x040
/-- QSPI.CS: chip select (R532). -/
abbrev QSPI_CS : Nat := at_ 0x7B 0x044
/-- QSPI.XFER: byte transfer (R532). -/
abbrev QSPI_XFER : Nat := at_ 0x7B 0x048
/-- QSPI.STAT: controller status (R532). -/
abbrev QSPI_STAT : Nat := at_ 0x7B 0x04C
/-- GPIO.FUNC0: pin functions (R532). -/
abbrev GPIO_FUNC0 : Nat := at_ 0x7E 0x040
/-- GPIO.FUNC1: pin functions (R532). -/
abbrev GPIO_FUNC1 : Nat := at_ 0x7E 0x044
/-- GPIO.PULL: pulls (R532). -/
abbrev GPIO_PULL : Nat := at_ 0x7E 0x048
/-- GPIO.OUT: levels (R532). -/
abbrev GPIO_OUT : Nat := at_ 0x7E 0x04C
/-- GPIO.IN: levels (R532). -/
abbrev GPIO_IN : Nat := at_ 0x7E 0x050
/-- IRQ.CTRL: pin control (R532). -/
abbrev IRQ_CTRL : Nat := at_ 0x7F 0x040
/-- IRQ.FIRST: first page (R532). -/
abbrev IRQ_FIRST : Nat := at_ 0x7F 0x044
/-- IRQ.SUM: signalling pages (R532). -/
abbrev IRQ_SUM (i : Nat) : Nat := at_ 0x7F (0x048 + 4 * i)
/-- VHK.CFG: lane polarity (R565). -/
abbrev VHK_CFG : Nat := at_ 0x7C 0x040
/-- VHK.STAT: link status (R565). -/
abbrev VHK_STAT : Nat := at_ 0x7C 0x044
/-- VHK.SLOT: audio slots (R565). -/
abbrev VHK_SLOT : Nat := at_ 0x7C 0x048
/-- VHK.QB: slot queues (R565). -/
abbrev VHK_QB : Nat := at_ 0x7C 0x04C
/-- VHK.EVT: link counts (R565). -/
abbrev VHK_EVT : Nat := at_ 0x7C 0x050
/-- VHK.EVT2: link counts (R565). -/
abbrev VHK_EVT2 : Nat := at_ 0x7C 0x054
/-- VHK.EVT3: link counts (R565). -/
abbrev VHK_EVT3 : Nat := at_ 0x7C 0x058
/-- PAIR.CFG: pairing configuration (R565). -/
abbrev PAIR_CFG : Nat := at_ 0x7D 0x040
/-- PAIR.CMD: commands (R565). -/
abbrev PAIR_CMD : Nat := at_ 0x7D 0x044
/-- PAIR.STAT: pairing status (R565). -/
abbrev PAIR_STAT : Nat := at_ 0x7D 0x048
/-- PAIR.EPOCH: pairing epoch (R565). -/
abbrev PAIR_EPOCH : Nat := at_ 0x7D 0x04C
/-- PAIR.MIRQ: mirror ring (R565). -/
abbrev PAIR_MIRQ : Nat := at_ 0x7D 0x050
/-- PAIR.DIG_OWN_LO: digests (R565). -/
abbrev PAIR_DIG_OWN_LO : Nat := at_ 0x7D 0x054
/-- PAIR.DIG_OWN_HI: digests (R565). -/
abbrev PAIR_DIG_OWN_HI : Nat := at_ 0x7D 0x058
/-- PAIR.DIG_MIR_LO: digests (R565). -/
abbrev PAIR_DIG_MIR_LO : Nat := at_ 0x7D 0x05C
/-- PAIR.DIG_MIR_HI: digests (R565). -/
abbrev PAIR_DIG_MIR_HI : Nat := at_ 0x7D 0x060
/-- PAIR.RCMD: remote access (R565). -/
abbrev PAIR_RCMD : Nat := at_ 0x7D 0x064
/-- PAIR.RDATA: remote access (R565). -/
abbrev PAIR_RDATA : Nat := at_ 0x7D 0x068
/-- PAIR.RRES: remote access (R565). -/
abbrev PAIR_RRES : Nat := at_ 0x7D 0x06C
/-- PAIR.EVT: pairing counts (R565). -/
abbrev PAIR_EVT : Nat := at_ 0x7D 0x070
/-- SEC.LC: life cycle (R584). -/
abbrev SEC_LC : Nat := at_ 0x0A 0x040
/-- SEC.LCREQ: life-cycle request (R584). -/
abbrev SEC_LCREQ : Nat := at_ 0x0A 0x044
/-- SEC.CHAL: challenge (R584). -/
abbrev SEC_CHAL (i : Nat) : Nat := at_ 0x0A (0x048 + 4 * i)
/-- SEC.SIG: signature (R584). -/
abbrev SEC_SIG (i : Nat) : Nat := at_ 0x0A (0x060 + 4 * i)
/-- SEC.AUTH: authentication (R584). -/
abbrev SEC_AUTH : Nat := at_ 0x0A 0x0A0
/-- SEC.HOSTKEY: host key hash (R584). -/
abbrev SEC_HOSTKEY (i : Nat) : Nat := at_ 0x0A (0x0C0 + 4 * i)
/-- SEC.ID_LO: identity (R584). -/
abbrev SEC_ID_LO : Nat := at_ 0x0A 0x0E0
/-- SEC.ID_HI: identity (R584). -/
abbrev SEC_ID_HI : Nat := at_ 0x0A 0x0E4
/-- SEC.RB: anti-rollback (R584). -/
abbrev SEC_RB : Nat := at_ 0x0A 0x0E8
/-- SEC.EVT: security counts (R584). -/
abbrev SEC_EVT : Nat := at_ 0x0A 0x0EC
/-- OTP.SEL: word select (R584). -/
abbrev OTP_SEL : Nat := at_ 0x0B 0x040
/-- OTP.DATA: read and program (R584). -/
abbrev OTP_DATA : Nat := at_ 0x0B 0x044
/-- OTP.PROG: read and program (R584). -/
abbrev OTP_PROG : Nat := at_ 0x0B 0x048
/-- OTP.STAT: programming status (R584). -/
abbrev OTP_STAT : Nat := at_ 0x0B 0x04C
/-- IMG.SRC: source (R584). -/
abbrev IMG_SRC : Nat := at_ 0x0C 0x040
/-- IMG.ADDR: source (R584). -/
abbrev IMG_ADDR : Nat := at_ 0x0C 0x044
/-- IMG.CTRL: load request (R584). -/
abbrev IMG_CTRL : Nat := at_ 0x0C 0x048
/-- IMG.STAT: load status (R584). -/
abbrev IMG_STAT : Nat := at_ 0x0C 0x04C
/-- IMG.LAST: last image loaded (R584). -/
abbrev IMG_LAST : Nat := at_ 0x0C 0x050
/-- IMG.WSTAT: register-list weld (R584). -/
abbrev IMG_WSTAT : Nat := at_ 0x0C 0x054
/-- FAULT.STAT: fault status (R597). -/
abbrev FAULT_STAT : Nat := at_ 0x0D 0x040
/-- FAULT.CLEAR: clear (R597). -/
abbrev FAULT_CLEAR : Nat := at_ 0x0D 0x044
/-- FAULT.ACT: active codes (R597). -/
abbrev FAULT_ACT (i : Nat) : Nat := at_ 0x0D (0x048 + 4 * i)
/-- FAULT.LSEL: log window (R597). -/
abbrev FAULT_LSEL : Nat := at_ 0x0D 0x058
/-- FAULT.LOG_TB: log entry (R597). -/
abbrev FAULT_LOG_TB : Nat := at_ 0x0D 0x05C
/-- FAULT.LOG_ID: log entry (R597). -/
abbrev FAULT_LOG_ID : Nat := at_ 0x0D 0x060
/-- FAULT.ISL: island record (R597). -/
abbrev FAULT_ISL : Nat := at_ 0x0D 0x064
/-- FAULT.CNT: recovery counts (R597). -/
abbrev FAULT_CNT : Nat := at_ 0x0D 0x068
/-- TEST.LOOP: loop request (R611). -/
abbrev TEST_LOOP : Nat := at_ 0x0E 0x040
/-- TEST.PAT: tone (R611). -/
abbrev TEST_PAT : Nat := at_ 0x0E 0x044
/-- TEST.LSTAT: loop status (R611). -/
abbrev TEST_LSTAT : Nat := at_ 0x0E 0x048
/-- TEST.TRES: tone result (R611). -/
abbrev TEST_TRES : Nat := at_ 0x0E 0x04C
/-- TEST.WORDS: compared (R611). -/
abbrev TEST_WORDS : Nat := at_ 0x0E 0x050
/-- TEST.INJ: fault injection (R611). -/
abbrev TEST_INJ : Nat := at_ 0x0E 0x054
/-- SYS.BOOT: boot status (R646). -/
abbrev SYS_BOOT : Nat := at_ 0x00 0x040
/-- SYS.DROUTE: default route (R646). -/
abbrev SYS_DROUTE : Nat := at_ 0x00 0x044
/-- SYS.RESET: device reset (R646). -/
abbrev SYS_RESET : Nat := at_ 0x00 0x048

end Sys2Proof.Machine.Regs
end

