-- ==== Sys2Proof/Machine/RegTable.lean ====
section
/-!
DEFINITION. The register tables of the specification as data: for every page kind the rows of its registers with the bits of
each access type (R42), and the value every word has after a device reset. Read it beside the tables of chapters 02 to 25.
-/

namespace Sys2Proof.Machine

/-- One register, or `count` registers at consecutive words, of a page. The masks name the bits of each access type of R42; a bit
in no mask is reserved (R45). -/
structure RegRow where
  /-- Byte offset of the first word. -/
  off   : Nat
  /-- How many consecutive words have this layout. -/
  count : Nat := 1
  /-- Value after device reset. -/
  reset : Nat := 0
  /-- Bits of type RO. -/
  ro    : Nat := 0
  /-- Bits of type RW. -/
  rw    : Nat := 0
  /-- Bits of type STG. -/
  stg   : Nat := 0
  /-- Bits of type W1C. -/
  w1c   : Nat := 0
  /-- Bits of type WO. -/
  wo    : Nat := 0
  /-- Bits of type RWS. -/
  rws   : Nat := 0
  deriving DecidableEq, Repr

/-- The kinds of pages of the directory (R40). -/
inductive PageKind where
  | pwr | clk | tb | sched | stock | ledger | weld | sap | pdm | spdif | asrc | patch | mix | inc | fin | anv | bench | dbg | stg | xst | trk | sns | tongs | diag | mic | wake | lin | hpo | jack | aux | twt | twc | spit | qspi | gpio | irq | vhk | pair | sec | otp | img | fault | test | sys
  deriving DecidableEq, Repr

/-- The page directory of R40: the kind of page `p`, `none` for a reserved page. -/
def pageKind (p : Nat) : Option PageKind :=
  if p = 0x00 then some .sys
  else if p = 0x01 then some .clk
  else if p = 0x02 then some .pwr
  else if p = 0x03 then some .tb
  else if p = 0x04 then some .sched
  else if p = 0x05 then some .weld
  else if p = 0x06 then some .stock
  else if p = 0x07 then some .ledger
  else if p = 0x08 then some .patch
  else if p = 0x09 then some .mix
  else if p = 0x0A then some .sec
  else if p = 0x0B then some .otp
  else if p = 0x0C then some .img
  else if p = 0x0D then some .fault
  else if p = 0x0E then some .test
  else if p = 0x0F then some .dbg
  else if 0x10 ≤ p ∧ p < 0x16 then some .sap
  else if p = 0x16 then some .pdm
  else if p = 0x17 then some .spdif
  else if 0x18 ≤ p ∧ p < 0x24 then some .asrc
  else if p = 0x24 then some .mic
  else if p = 0x25 then some .wake
  else if p = 0x26 then some .lin
  else if p = 0x27 then some .hpo
  else if p = 0x28 then some .jack
  else if 0x30 ≤ p ∧ p < 0x48 then some .inc
  else if 0x48 ≤ p ∧ p < 0x59 then some .fin
  else if 0x60 ≤ p ∧ p < 0x68 then some .stg
  else if 0x68 ≤ p ∧ p < 0x70 then some .xst
  else if p = 0x70 then some .sns
  else if p = 0x71 then some .trk
  else if p = 0x72 then some .tongs
  else if p = 0x73 then some .diag
  else if 0x74 ≤ p ∧ p < 0x76 then some .aux
  else if p = 0x76 then some .twt
  else if 0x77 ≤ p ∧ p < 0x7A then some .twc
  else if p = 0x7A then some .spit
  else if p = 0x7B then some .qspi
  else if p = 0x7C then some .vhk
  else if p = 0x7D then some .pair
  else if p = 0x7E then some .gpio
  else if p = 0x7F then some .irq
  else if 0x80 ≤ p ∧ p < 0xC0 then some .anv
  else if 0xC0 ≤ p ∧ p < 0xC8 then some .bench
  else none

/-- The common header (R48). -/
def rowsCommon : List RegRow :=
  [ { off := 0x000, ro := 0xFFFFFFFF },  -- PG_ID
    { off := 0x004, ro := 0xFFFFFFFF },  -- PG_CAPS
    { off := 0x008, rw := 0x0000000B, wo := 0x00000004 },  -- PG_CTRL
    { off := 0x00C, ro := 0x0000FF0F },  -- PG_STAT
    { off := 0x010, ro := 0xFFFFFFFF },  -- IRQ_RAW
    { off := 0x014, rw := 0xFFFFFFFF },  -- IRQ_EN
    { off := 0x018, w1c := 0xFFFFFFFF },  -- IRQ_PEND
    { off := 0x01C, wo := 0xFFFFFFFF },  -- IRQ_FORCE
    { off := 0x020, rw := 0x000000FF, rws := 0x80000000 },  -- PG_ACCESS
    { off := 0x024, rws := 0x7FFFFFFF },  -- PG_LOCK
    { off := 0x028, reset := 0x00000003, ro := 0x00000001, rw := 0x00000002 },  -- PG_WELD
    { off := 0x02C, ro := 0xE0FFFFFF },  -- PG_EVT
    { off := 0x030, ro := 0x00FFFFFF },  -- PG_ERR
    { off := 0x034, ro := 0xFFFFFFFF } ]  -- PG_SEQ

/-- The registers of page PWR. -/
def rowsPwr : List RegRow :=
  [ { off := 0x040, reset := 0x00000103, rw := 0x00000107 },  -- MODE
    { off := 0x044, reset := 0x00000003, ro := 0x0000E00F },  -- STAT
    { off := 0x048, reset := 0x00000020, rw := 0x000F03FF },  -- WAKE_EN
    { off := 0x04C, w1c := 0x000003FF },  -- WAKE_CAUSE
    { off := 0x050, ro := 0x0000FFFF },  -- BRACE_COUNT
    { off := 0x054, reset := 0x00000001, w1c := 0x00000007 },  -- RST_CAUSE: the first power-on sets POR
    { off := 0x058, reset := 0xFFFFFFFF, rw := 0xFFFFFFFF },  -- ALARM_LO
    { off := 0x05C, reset := 0xFFFFFFFF, rw := 0xFFFFFFFF } ]  -- ALARM_HI

/-- The registers of page CLK. -/
def rowsClk : List RegRow :=
  [ { off := 0x040, rw := 0x00000013 },  -- SRC
    { off := 0x044, rw := 0x00000F31 },  -- HEARTH
    { off := 0x048, reset := 0x00000002, ro := 0xFFFF001F, w1c := 0x00000020 },  -- STAT
    { off := 0x060, count := 7, ro := 0xFFFFFFFF } ]  -- ON0

/-- The registers of page TB. -/
def rowsTb : List RegRow :=
  [ { off := 0x040, ro := 0xFFFFFFFF },  -- LO
    { off := 0x044, ro := 0xFFFFFFFF },  -- HI
    { off := 0x048, ro := 0xFFFFFFFF },  -- STROKE
    { off := 0x04C, ro := 0xFFFFFF07 },  -- SYNC
    { off := 0x050, rw := 0xEFEFEFEF },  -- CAPCTL
    { off := 0x054, ro := 0x0000000F, w1c := 0x000000F0 },  -- CAPSTAT
    { off := 0x060, ro := 0xFFFFFFFF },  -- CAP0_LO
    { off := 0x064, ro := 0xFFFFFFFF },  -- CAP0_HI
    { off := 0x068, ro := 0xFFFFFFFF },  -- CAP1_LO
    { off := 0x06C, ro := 0xFFFFFFFF },  -- CAP1_HI
    { off := 0x070, ro := 0xFFFFFFFF },  -- CAP2_LO
    { off := 0x074, ro := 0xFFFFFFFF },  -- CAP2_HI
    { off := 0x078, ro := 0xFFFFFFFF },  -- CAP3_LO
    { off := 0x07C, ro := 0xFFFFFFFF } ]  -- CAP3_HI

/-- The registers of page SCHED. -/
def rowsSched : List RegRow :=
  [ { off := 0x040, rw := 0xFFFFFFFF },  -- NEW_LO
    { off := 0x044, rw := 0xFFFFFFFF },  -- NEW_HI
    { off := 0x048, rw := 0xC000000F },  -- NEW_CTRL
    { off := 0x04C, rw := 0xFFFFFFFF },  -- NEW_PAYLOAD
    { off := 0x050, ro := 0x8F000FFF },  -- ARM
    { off := 0x054, wo := 0x00000FFF },  -- CANCEL
    { off := 0x058, ro := 0x00000003 },  -- CANCEL_STAT
    { off := 0x060, reset := 0x00001000, ro := 0x1FFF1FFF },  -- COUNT_LO
    { off := 0x064, ro := 0xFFFF1FFF },  -- COUNT_HI
    { off := 0x068, ro := 0xFFFFFFFF },  -- MISS
    { off := 0x06C, ro := 0xFFFFFFFF } ]  -- EVT

/-- The registers of page STOCK. -/
def rowsStock : List RegRow :=
  [ { off := 0x040, rw := 0x0000FFFF },  -- RETAIN
    { off := 0x044, ro := 0x0001FFFF },  -- BUDGET
    { off := 0x048, ro := 0xFFFFFFFF },  -- ECC
    { off := 0x04C, ro := 0x8000FFFF },  -- QUAR_LAST
    { off := 0x050, ro := 0xFFFFFFFF },  -- EVT
    { off := 0x054, rw := 0x000003FF },  -- QSEL
    { off := 0x058, rw := 0xFF80FFFF },  -- QD_CFG
    { off := 0x05C, rw := 0xFFFFFFFF },  -- QD_ENDS
    { off := 0x060, ro := 0xFFFFFFFF },  -- QD_CREDIT
    { off := 0x064, ro := 0xFFFFFFFF },  -- QD_ISSUED
    { off := 0x068, ro := 0xFFFFFFFF },  -- QD_RETURNED
    { off := 0x06C, ro := 0xFF00FFFF } ]  -- QD_STAT

/-- The registers of page LEDGER. -/
def rowsLedger : List RegRow :=
  [ { off := 0x040, wo := 0x00000001 },  -- CTRL
    { off := 0x044, ro := 0xFFFFFFFF },  -- AUDIT
    { off := 0x048, ro := 0x0001FFFF },  -- B_FREE
    { off := 0x04C, ro := 0x0001FFFF },  -- B_QUEUE
    { off := 0x050, ro := 0x0001FFFF },  -- B_ANVIL
    { off := 0x054, ro := 0x0001FFFF },  -- B_WELD
    { off := 0x058, ro := 0x0001FFFF },  -- B_LINK
    { off := 0x05C, ro := 0x0001FFFF },  -- B_QUAR
    { off := 0x060, ro := 0x000FFFFF } ]  -- BREACH

/-- The registers of page WELD. -/
def rowsWeld : List RegRow :=
  [ { off := 0x040, ro := 0x0000000F },  -- OPEN
    { off := 0x044, rw := 0x0000000F },  -- SEL_TWT
    { off := 0x048, rw := 0x0000000F },  -- SEL_SPI
    { off := 0x04C, rw := 0x0000000F },  -- SEL_VHK
    { off := 0x050, rw := 0xFFFFFFFF },  -- TARGET
    { off := 0x054, wo := 0xC00000FF },  -- COMMIT
    { off := 0x058, wo := 0x0000000F },  -- ABORT
    { off := 0x05C, wo := 0x0000000F },  -- UNDO
    { off := 0x060, ro := 0xFFFFC7FF },  -- STATUS
    { off := 0x064, reset := 0x0000000F, ro := 0x0FFF0FFF },  -- IDS
    { off := 0x068, ro := 0x00000100, rw := 0x00000003 },  -- MODE
    { off := 0x06C, reset := 0xF3330005, ro := 0xFFFF0000, rw := 0x0000011F },  -- STROKE
    { off := 0x070, ro := 0xFFFFFFFF },  -- SHUTS
    { off := 0x074, ro := 0xDFFFFFFF },  -- SHUT_LAST
    { off := 0x078, ro := 0xFFFFFFFF },  -- LATE_LO
    { off := 0x07C, ro := 0xFFFFFFFF },  -- LATE_HI
    { off := 0x080, reset := 0x01000000, ro := 0x01FF01FF },  -- CMDQ
    { off := 0x084, ro := 0xFFFFFFFF } ]  -- CMDQ_EVT

/-- The registers of page SAP. -/
def rowsSap : List RegRow :=
  [ { off := 0x040, reset := 0x00020028, rw := 0x001F07FF },  -- TX_FMT
    { off := 0x044, reset := 0x00000780, rw := 0x0001FFF3 },  -- TX_CLK
    { off := 0x048, reset := 0x00000003, rw := 0x03FFFFFF },  -- TX_MAP
    { off := 0x04C, reset := 0x00020028, rw := 0x001F07FF },  -- RX_FMT
    { off := 0x050, reset := 0x00000780, rw := 0x0001FFF3 },  -- RX_CLK
    { off := 0x054, reset := 0x00000003, rw := 0x03FFFFFF },  -- RX_MAP
    { off := 0x058, stg := 0x00000003 },  -- MUTE
    { off := 0x05C, wo := 0x0000000F },  -- CMD
    { off := 0x060, ro := 0x000003FF },  -- STAT
    { off := 0x064, ro := 0xFFFFFFFF },  -- RX_EVT
    { off := 0x068, ro := 0xFFFFFFFF },  -- RX_CNT
    { off := 0x06C, ro := 0xFFFFFFFF },  -- TX_EVT
    { off := 0x070, ro := 0xFFFFFFFF },  -- TX_CNT
    { off := 0x074, ro := 0xFFFFFFFF } ]  -- LINE

/-- The registers of page PDM. -/
def rowsPdm : List RegRow :=
  [ { off := 0x040, reset := 0x00000300, rw := 0x0000030F } ]  -- IF

/-- The registers of page SPDIF. -/
def rowsSpdif : List RegRow :=
  [ { off := 0x040, rw := 0x03FF0005, wo := 0x00000018 },  -- CTRL
    { off := 0x044, reset := 0x00000F00, ro := 0x00000FFF },  -- STAT
    { off := 0x048, ro := 0xFFFFFFFF },  -- EVT
    { off := 0x04C, ro := 0x0000FFFF },  -- EVT2
    { off := 0x050, count := 6, ro := 0xFFFFFFFF } ]  -- CS0

/-- The registers of page ASRC. -/
def rowsAsrc : List RegRow :=
  [ { off := 0x040, rw := 0x001F0013 },  -- CFG
    { off := 0x044, count := 2, rw := 0x03FF03FF },  -- CH0_Q
    { off := 0x04C, reset := 0x00000030, rw := 0x000000FF },  -- LAT
    { off := 0x050, ro := 0x0000FF1F },  -- STAT
    { off := 0x054, ro := 0x00FFFFFF },  -- RATE
    { off := 0x058, ro := 0xFFFFFFFF } ]  -- EVT

/-- The registers of page PATCH. -/
def rowsPatch : List RegRow :=
  [ { off := 0x040, rw := 0x00000002, wo := 0x00000001 },  -- CTRL
    { off := 0x044, ro := 0xFFFF0007 },  -- STAT
    { off := 0x048, rw := 0x000001FF },  -- ESEL
    { off := 0x04C, stg := 0xFFFFFFFF },  -- ENTRY_LO
    { off := 0x050, ro := 0x0F000000, stg := 0xC00003FF },  -- ENTRY_HI
    { off := 0x054, wo := 0x800000FF },  -- INVAL
    { off := 0x058, stg := 0x00000001 },  -- SWAP
    { off := 0x05C, ro := 0x800000FF },  -- SWAP_ERR
    { off := 0x060, rw := 0x000003FF },  -- SSEL
    { off := 0x064, ro := 0xFFFFFFFF },  -- S_RECV_LO
    { off := 0x068, ro := 0x0000FFFF },  -- S_RECV_HI
    { off := 0x06C, ro := 0xFFFFFFFF },  -- S_DELIV_LO
    { off := 0x070, ro := 0x0000FFFF },  -- S_DELIV_HI
    { off := 0x074, ro := 0xFFFFFFFF },  -- S_SLAG_LO
    { off := 0x078, ro := 0x0000FFFF },  -- S_SLAG_HI
    { off := 0x07C, ro := 0xFFFFFFFF },  -- S_FILL_LO
    { off := 0x080, ro := 0x0000FFFF } ]  -- S_FILL_HI

/-- The registers of page MIX. -/
def rowsMix : List RegRow :=
  [ { off := 0x040, rw := 0x0000001F },  -- NSEL
    { off := 0x044, stg := 0x00000103 },  -- N_CFG
    { off := 0x048, ro := 0x0107FFFF },  -- N_STAT
    { off := 0x04C, ro := 0xFFFFFFFF },  -- N_LIM
    { off := 0x100, count := 64, stg := 0xBF00FFFF } ]  -- IN0

/-- The registers of page INC. -/
def rowsInc : List RegRow :=
  [ { off := 0x040, stg := 0x0000001F },  -- HPF
    { off := 0x044, stg := 0x0000FFFF },  -- GAIN
    { off := 0x048, reset := 0x80008000, ro := 0xFFFFFFFF },  -- METER
    { off := 0x04C, reset := 0x00000100, rw := 0xFFFFFFFF },  -- MTR_CFG
    { off := 0x050, reset := 0x00000001, rw := 0x00000003, wo := 0x00000010 } ]  -- MTR_CTL

/-- The registers of page FIN. -/
def rowsFin : List RegRow :=
  [ { off := 0x040, stg := 0x0000001F },  -- HPF
    { off := 0x044, stg := 0x0000FFFF },  -- GAIN
    { off := 0x048, reset := 0x80008000, ro := 0xFFFFFFFF },  -- METER
    { off := 0x04C, reset := 0x00000100, rw := 0xFFFFFFFF },  -- MTR_CFG
    { off := 0x050, reset := 0x00000001, rw := 0x00000003, wo := 0x00000010 },  -- MTR_CTL
    { off := 0x054, rw := 0x0000007F, rws := 0x80000000 },  -- CTRL
    { off := 0x058, stg := 0x000FFFFF },  -- EQ_SEL
    { off := 0x05C, stg := 0x00001FFF },  -- DELAY
    { off := 0x060, rw := 0x000003FF },  -- DLYQ
    { off := 0x064, reset := 0x00008000, stg := 0x0003FFFF },  -- LIM
    { off := 0x068, reset := 0x80008000, ro := 0xFFFFFFFF },  -- ALLOW
    { off := 0x06C, ro := 0xFFFFFFFF },  -- CNT
    { off := 0x070, ro := 0x0000FFFF },  -- LIM_GR
    { off := 0x080, count := 100, stg := 0xFFFFFFFF } ]  -- BQj_B0 to BQj_A2; the reset of B0 is in `resetWord`

/-- The registers of page ANV. -/
def rowsAnv : List RegRow :=
  [ { off := 0x040, wo := 0x00000007 },  -- CTRL
    { off := 0x044, stg := 0x00000001 },  -- MODE
    { off := 0x048, rw := 0x000007FF },  -- ENTRY
    { off := 0x04C, rw := 0x0000000F },  -- WELDSEL
    { off := 0x050, reset := 0xC0000000, ro := 0xE000FF07 },  -- STAT
    { off := 0x054, ro := 0x000007FF },  -- PC
    { off := 0x058, ro := 0x0003FFFF },  -- CYC_LAST
    { off := 0x05C, rw := 0x0003FFFF },  -- CYC_MAX
    { off := 0x060, ro := 0xFFFFFFFF },  -- EVT
    { off := 0x064, count := 2, rw := 0x03FF03FF },  -- RING01
    { off := 0x070, rw := 0x80000FFF },  -- MSEL
    { off := 0x074, stg := 0xFFFFFFFF },  -- MDATA
    { off := 0x078, ro := 0xFFFF07FF },  -- EXC_LAST
    { off := 0x07C, ro := 0xFFFFFFFF } ]  -- EXC_CNT

/-- The registers of page BENCH. -/
def rowsBench : List RegRow :=
  [ { off := 0x040, ro := 0x00000300, rw := 0x00000003 },  -- CLK
    { off := 0x044, ro := 0x0003FFFF },  -- CP_BUSY
    { off := 0x048, ro := 0x0003FFFF },  -- PORT
    { off := 0x04C, ro := 0xFFFFFFFF },  -- CANCEL
    { off := 0x050, ro := 0xFFFF0707 },  -- CP_ERR
    { off := 0x054, rw := 0x00000007 } ]  -- VARR

/-- The registers of page DBG. -/
def rowsDbg : List RegRow :=
  [ { off := 0x040, rw := 0x0000003F },  -- ASEL
    { off := 0x044, count := 4, rw := 0xC00007FF },  -- BP0
    { off := 0x054, ro := 0x00FF07FF, w1c := 0x80000000 },  -- HIT
    { off := 0x058, rw := 0x0000007F },  -- RSEL
    { off := 0x05C, rw := 0xFFFFFFFF } ]  -- RDATA

/-- The registers of page STG. -/
def rowsStg : List RegRow :=
  [ { off := 0x040, reset := 0x30083000, rw := 0xFF3FF033 },  -- CFG
    { off := 0x044, wo := 0x00000007 },  -- CMD
    { off := 0x048, stg := 0x00000001 },  -- MUTE
    { off := 0x04C, ro := 0x000F010F },  -- STAT
    { off := 0x050, ro := 0xFFFFFFFF } ]  -- EVT

/-- The registers of page XST. -/
def rowsXst : List RegRow :=
  [ { off := 0x040, reset := 0x30081400, rw := 0xFF3FFF71 },  -- CFG
    { off := 0x044, wo := 0x00000007 },  -- CMD
    { off := 0x048, stg := 0x00000001 },  -- MUTE
    { off := 0x04C, ro := 0x000F010F },  -- STAT
    { off := 0x050, ro := 0xFFFFFFFF } ]  -- EVT

/-- The registers of page TRK. -/
def rowsTrk : List RegRow :=
  [ { off := 0x040, rw := 0x0003FFFF },  -- CTRL
    { off := 0x044, reset := 0x00F00050, rw := 0x01FF01FF },  -- LIMITS
    { off := 0x048, reset := 0x0A32180F, rw := 0xFFFFFFFF },  -- DYN
    { off := 0x04C, reset := 0x01040000, rw := 0x81FF01FF },  -- MAP
    { off := 0x050, rw := 0xFFFFFFFF },  -- TW
    { off := 0x054, reset := 0x000000C8, rw := 0x0000FFFF },  -- TWLSB
    { off := 0x058, ro := 0xFFFFFFFF },  -- CMDV
    { off := 0x05C, reset := 0x0000502A, rw := 0x0000FFFF },  -- PVMON
    { off := 0x060, ro := 0xFFFFFFFF } ]  -- EVT

/-- The registers of page SNS. -/
def rowsSns : List RegRow :=
  [ { off := 0x040, rw := 0x03FF0000 },  -- CTRL
    { off := 0x044, count := 8, reset := 0x0FA00C80, rw := 0xFFFFFFFF },  -- XSCALE0
    { off := 0x064, ro := 0xFFFFFFFF } ]  -- EVT

/-- The registers of page TONGS. -/
def rowsTongs : List RegRow :=
  [ { off := 0x040, reset := 0x00194001, stg := 0x00FFFF03 },  -- MEAS
    { off := 0x044, reset := 0x00000028, stg := 0x000000FF },  -- TAMB
    { off := 0x048, reset := 0xF400F400, stg := 0xFFFFFFFF },  -- CEIL
    { off := 0x04C, count := 4, reset := 0x18181818, stg := 0xFFFFFFFF },  -- SAFE0
    { off := 0x060, reset := 0x00000FA0, stg := 0xFF00FFFF },  -- P_RE
    { off := 0x064, reset := 0x78140004, stg := 0xFFFF000F },  -- P_TEMP
    { off := 0x068, reset := 0x032005DC, stg := 0xFFFFFFFF },  -- P_COIL
    { off := 0x06C, reset := 0x07D00BB8, stg := 0xFFFFFFFF },  -- P_MAG
    { off := 0x070, reset := 0x0000D800, stg := 0xFFFFFFFF },  -- P_LEVEL
    { off := 0x074, reset := 0x01000010, stg := 0xFFFFFFFF },  -- P_SLOPE
    { off := 0x080, rw := 0x0000000F },  -- CSEL
    { off := 0x084, reset := 0x0A000A00, ro := 0xFFFFFFFF },  -- S_TEMP
    { off := 0x088, reset := 0x80000000, ro := 0xFFFFFFFF },  -- S_LEVEL
    { off := 0x08C, ro := 0xE000FFFF },  -- S_POWER
    { off := 0x090, ro := 0x0700010F },  -- STAT
    { off := 0x094, ro := 0xFFFFFFFF } ]  -- EVT

/-- The registers of page DIAG. -/
def rowsDiag : List RegRow :=
  [ { off := 0x040, reset := 0x00000003, rw := 0xFFFF0003 },  -- CFG
    { off := 0x044, rw := 0xFFFFFFFF },  -- EXPECT
    { off := 0x048, reset := 0x01F4D800, rw := 0x07FFFFFF },  -- LEVEL
    { off := 0x04C, reset := 0x03E89C40, rw := 0xFFFFFFFF },  -- THR0
    { off := 0x050, reset := 0x3E8007D0, rw := 0xFFFFFFFF },  -- THR1
    { off := 0x054, reset := 0x3E800BB8, rw := 0xFFFFFFFF },  -- THR2
    { off := 0x058, reset := 0x00002EE0, rw := 0x0000FFFF },  -- THR3
    { off := 0x05C, wo := 0x0000FFFF },  -- RUN
    { off := 0x060, ro := 0xFFFF0000, w1c := 0x0000FFFF },  -- STAT
    { off := 0x064, rw := 0x0000000F },  -- CSEL
    { off := 0x068, ro := 0xFF00FFFF },  -- RES
    { off := 0x06C, count := 4, ro := 0xFFFFFFFF } ]  -- Z1K

/-- The registers of page MIC. -/
def rowsMic : List RegRow :=
  [ { off := 0x040, count := 16, rw := 0xE0000007 },  -- CFG0
    { off := 0x080, count := 16, rw := 0x03FF03FF },  -- Q0
    { off := 0x0C0, rw := 0x000003FF, w1c := 0x00030000 },  -- BIAS
    { off := 0x0C4, ro := 0xE000FFFF },  -- PRIV
    { off := 0x0C8, ro := 0xFFFFFFFF } ]  -- STAT

/-- The registers of page WAKE. -/
def rowsWake : List RegRow :=
  [ { off := 0x040, reset := 0x00000600, rw := 0x00000F3F },  -- CTRL
    { off := 0x044, reset := 0x0C000404, rw := 0xFFFFFFFF },  -- DET
    { off := 0x048, rw := 0x00000FFF },  -- HIST
    { off := 0x04C, rw := 0x03FF03FF },  -- QA
    { off := 0x050, rw := 0x000003FF },  -- QB
    { off := 0x054, ro := 0xFFFFFFFF },  -- EVT_LO
    { off := 0x058, ro := 0xFFFFFFFF },  -- EVT_HI
    { off := 0x05C, ro := 0xFFFFFFFF },  -- SEAM_LO
    { off := 0x060, ro := 0xFFFFFFFF },  -- SEAM_HI
    { off := 0x064, ro := 0xFFFFFFFF },  -- XFADE
    { off := 0x068, ro := 0xFF0000EF },  -- STAT
    { off := 0x06C, wo := 0x0000FF01 } ]  -- FIRE

/-- The registers of page LIN. -/
def rowsLin : List RegRow :=
  [ { off := 0x040, rw := 0x00000333 },  -- CFG
    { off := 0x044, rw := 0x03FF03FF },  -- Q
    { off := 0x048, wo := 0x00000003 },  -- CMD
    { off := 0x04C, ro := 0xFFFF000F } ]  -- STAT

/-- The registers of page HPO. -/
def rowsHpo : List RegRow :=
  [ { off := 0x040, rw := 0x00000001 },  -- CFG
    { off := 0x044, wo := 0x00000003 },  -- CMD
    { off := 0x048, stg := 0x00000001 },  -- MUTE
    { off := 0x04C, ro := 0x0000010F } ]  -- STAT

/-- The registers of page JACK. -/
def rowsJack : List RegRow :=
  [ { off := 0x040, reset := 0x00000003, rw := 0x00000303 },  -- CFG
    { off := 0x044, ro := 0x00000303 } ]  -- STAT

/-- The registers of page AUX. -/
def rowsAux : List RegRow :=
  [ { off := 0x040, rw := 0x00000001, wo := 0x00000006 },  -- CTRL
    { off := 0x044, reset := 0x00010000, rw := 0x00FF371F },  -- CFG
    { off := 0x048, count := 2, rw := 0xFFFFFFFF },  -- SEQ0
    { off := 0x050, rw := 0xCF00FFFF },  -- INJ
    { off := 0x054, rw := 0x03FF1FFF },  -- BUF
    { off := 0x058, ro := 0xFFFF0FFF },  -- WPTR
    { off := 0x05C, ro := 0x00003F0F },  -- STAT
    { off := 0x060, ro := 0xFFFFFFFF },  -- EVT
    { off := 0x064, reset := 0x00000400, rw := 0x00000FFF },  -- XT_LIM
    { off := 0x068, reset := 0x800A0018, rw := 0x80FF00FF },  -- PLAUS
    { off := 0x06C, ro := 0x0FFF0FFF },  -- PVDD
    { off := 0x070, reset := 0x00780000, rw := 0x81FF0000 },  -- BATT
    { off := 0x074, reset := 0x1E000000, ro := 0x00FF0007, rw := 0xFF000000 },  -- KEY
    { off := 0x080, count := 16, ro := 0xFFFFFFFF } ]  -- DATA0

/-- The registers of page TWT. -/
def rowsTwt : List RegRow :=
  [ { off := 0x040, reset := 0x00200200, rw := 0x80FF0F00 },  -- CFG
    { off := 0x044, reset := 0x00001919, rw := 0x0000FFFF },  -- TO
    { off := 0x048, reset := 0x40010008, rw := 0xC003007F },  -- NOTIFY
    { off := 0x04C, reset := 0x00002C80, ro := 0xFFFF7FF3 },  -- STAT
    { off := 0x050, ro := 0xFFFFFFFF },  -- EVT
    { off := 0x054, ro := 0x0000FFFF } ]  -- EVT2

/-- The registers of page TWC. -/
def rowsTwc : List RegRow :=
  [ { off := 0x040, reset := 0x00009201, rw := 0xFFFFFF03 },  -- CFG
    { off := 0x044, wo := 0x00000FFF },  -- OP
    { off := 0x048, ro := 0x000001FF },  -- RXD
    { off := 0x04C, reset := 0x00800000, ro := 0x00FF00F1 },  -- STAT
    { off := 0x050, ro := 0xFFFFFFFF } ]  -- EVT

/-- The registers of page SPIT. -/
def rowsSpit : List RegRow :=
  [ { off := 0x040, reset := 0x00000002, rw := 0x00000003 },  -- CFG
    { off := 0x044, ro := 0x00007FFF },  -- STAT
    { off := 0x048, ro := 0xFFFFFFFF } ]  -- EVT

/-- The registers of page QSPI. -/
def rowsQspi : List RegRow :=
  [ { off := 0x040, reset := 0x00002800, rw := 0x0000FF01 },  -- CFG
    { off := 0x044, rw := 0x00000001 },  -- CS
    { off := 0x048, rw := 0x000002FF },  -- XFER
    { off := 0x04C, reset := 0x00000002, ro := 0x00000003 } ]  -- STAT

/-- The registers of page GPIO. -/
def rowsGpio : List RegRow :=
  [ { off := 0x040, count := 2, rw := 0xFFFFFFFF },  -- FUNC0
    { off := 0x048, rw := 0xFFFFFFFF },  -- PULL
    { off := 0x04C, rw := 0x0000FFFF },  -- OUT
    { off := 0x050, ro := 0x0000FFFF } ]  -- IN

/-- The registers of page IRQ. -/
def rowsIrq : List RegRow :=
  [ { off := 0x040, reset := 0x00000001, rw := 0x00000001 },  -- CTRL
    { off := 0x044, reset := 0x000000FF, ro := 0x00FF00FF },  -- FIRST
    { off := 0x048, count := 8, ro := 0xFFFFFFFF } ]  -- SUM0

/-- The registers of page VHK. -/
def rowsVhk : List RegRow :=
  [ { off := 0x040, rw := 0x00000003 },  -- CFG
    { off := 0x044, ro := 0x00FF000F },  -- STAT
    { off := 0x048, rw := 0xFFFFFFFF },  -- SLOT
    { off := 0x04C, rw := 0x03FF03FF },  -- QB
    { off := 0x050, count := 3, ro := 0xFFFFFFFF } ]  -- EVT

/-- The registers of page PAIR. -/
def rowsPair : List RegRow :=
  [ { off := 0x040, reset := 0x00000106, rw := 0x0000013F },  -- CFG
    { off := 0x044, wo := 0x00000007 },  -- CMD
    { off := 0x048, ro := 0xFFFF0F0F },  -- STAT
    { off := 0x04C, ro := 0x0000FFFF },  -- EPOCH
    { off := 0x050, rw := 0x000003FF },  -- MIRQ
    { off := 0x054, ro := 0xFFFFFFFF },  -- DIG_OWN_LO
    { off := 0x058, ro := 0xFFFFFFFF },  -- DIG_OWN_HI
    { off := 0x05C, ro := 0xFFFFFFFF },  -- DIG_MIR_LO
    { off := 0x060, ro := 0xFFFFFFFF },  -- DIG_MIR_HI
    { off := 0x064, wo := 0x8003FFFF },  -- RCMD
    { off := 0x068, rw := 0xFFFFFFFF },  -- RDATA
    { off := 0x06C, ro := 0x400000FF, w1c := 0x80000000 },  -- RRES
    { off := 0x070, ro := 0xFFFFFFFF } ]  -- EVT

/-- The registers of page SEC. -/
def rowsSec : List RegRow :=
  [ { off := 0x040, ro := 0x00008737 },  -- LC
    { off := 0x044, wo := 0xFFFF0007 },  -- LCREQ
    { off := 0x048, count := 4, ro := 0xFFFFFFFF },  -- CHAL0
    { off := 0x060, count := 16, wo := 0xFFFFFFFF },  -- SIG0
    { off := 0x0A0, ro := 0x000000F0, wo := 0xC3000000 },  -- AUTH
    { off := 0x0C0, count := 8, rw := 0xFFFFFFFF },  -- HOSTKEY0
    { off := 0x0E0, ro := 0xFFFFFFFF },  -- ID_LO
    { off := 0x0E4, ro := 0xFFFFFFFF },  -- ID_HI
    { off := 0x0E8, ro := 0x00003F00, rw := 0x0000003F },  -- RB
    { off := 0x0EC, ro := 0x0000FFFF } ]  -- EVT

/-- The registers of page OTP. -/
def rowsOtp : List RegRow :=
  [ { off := 0x040, rw := 0x000001FF },  -- SEL
    { off := 0x044, ro := 0xFFFFFFFF },  -- DATA
    { off := 0x048, wo := 0xFFFFFFFF },  -- PROG
    { off := 0x04C, ro := 0x00000001, w1c := 0x00000002 } ]  -- STAT

/-- The registers of page IMG. -/
def rowsImg : List RegRow :=
  [ { off := 0x040, rw := 0x800003FF },  -- SRC
    { off := 0x044, rw := 0x00FFFFFF },  -- ADDR
    { off := 0x048, wo := 0x00000001 },  -- CTRL
    { off := 0x04C, ro := 0xFFFF0000 },  -- STAT
    { off := 0x050, ro := 0xFF3FFFFF },  -- LAST
    { off := 0x054, ro := 0xFFFFFFFF } ]  -- WSTAT

/-- The registers of page FAULT. -/
def rowsFault : List RegRow :=
  [ { off := 0x040, ro := 0xFFF7FFFF },  -- STAT
    { off := 0x044, wo := 0x0000FFFF },  -- CLEAR
    { off := 0x048, count := 4, ro := 0xFFFFFFFF },  -- ACT0
    { off := 0x058, rw := 0x0000000F },  -- LSEL
    { off := 0x05C, ro := 0xFFFFFFFF },  -- LOG_TB
    { off := 0x060, ro := 0xFFFFFFFF },  -- LOG_ID
    { off := 0x064, ro := 0x00FFFFFF, w1c := 0xC0000000 },  -- ISL
    { off := 0x068, ro := 0xFFFFFFFF } ]  -- CNT

/-- The registers of page TEST. -/
def rowsTest : List RegRow :=
  [ { off := 0x040, rw := 0x030FFF00, wo := 0xC0000000 },  -- LOOP
    { off := 0x044, reset := 0xEC000000, rw := 0xFFFF0003 },  -- PAT
    { off := 0x048, ro := 0xFF80FFFF },  -- LSTAT
    { off := 0x04C, ro := 0xFFFFFFFF },  -- TRES
    { off := 0x050, ro := 0xFFFFFFFF },  -- WORDS
    { off := 0x054, wo := 0x0000001F, rws := 0x80000000 } ]  -- INJ

/-- The registers of page SYS. -/
def rowsSys : List RegRow :=
  [ { off := 0x040, ro := 0x8F000337 },  -- BOOT
    { off := 0x044, reset := 0xEC000001, ro := 0xFFFF0330, w1c := 0x00000001 },  -- DROUTE
    { off := 0x048, wo := 0xFFFF0001 } ]  -- RESET

/-- The block registers of each page kind. -/
def rowsOf : PageKind → List RegRow
  | .pwr => rowsPwr
  | .clk => rowsClk
  | .tb => rowsTb
  | .sched => rowsSched
  | .stock => rowsStock
  | .ledger => rowsLedger
  | .weld => rowsWeld
  | .sap => rowsSap
  | .pdm => rowsPdm
  | .spdif => rowsSpdif
  | .asrc => rowsAsrc
  | .patch => rowsPatch
  | .mix => rowsMix
  | .inc => rowsInc
  | .fin => rowsFin
  | .anv => rowsAnv
  | .bench => rowsBench
  | .dbg => rowsDbg
  | .stg => rowsStg
  | .xst => rowsXst
  | .trk => rowsTrk
  | .sns => rowsSns
  | .tongs => rowsTongs
  | .diag => rowsDiag
  | .mic => rowsMic
  | .wake => rowsWake
  | .lin => rowsLin
  | .hpo => rowsHpo
  | .jack => rowsJack
  | .aux => rowsAux
  | .twt => rowsTwt
  | .twc => rowsTwc
  | .spit => rowsSpit
  | .qspi => rowsQspi
  | .gpio => rowsGpio
  | .irq => rowsIrq
  | .vhk => rowsVhk
  | .pair => rowsPair
  | .sec => rowsSec
  | .otp => rowsOtp
  | .img => rowsImg
  | .fault => rowsFault
  | .test => rowsTest
  | .sys => rowsSys
/-- The first row of `rows` that holds byte offset `off`. -/
def findRow (rows : List RegRow) (off : Nat) : Option RegRow :=
  rows.find? fun r => decide (r.off ≤ off) && decide (off < r.off + 4 * r.count)

/-- Registers that only some pages of their kind have, and bits that only some of them have: the AUX0 and BENCH0 words, PBTL on even
stages, SHARED in TX_FMT and SHARE in RX_CLK, AGAIN on the microphone channels 0 to 7 (R446), the TWC2 timeouts (R519). -/
def adjustRow (p off : Nat) (r : RegRow) : Option RegRow :=
  if p = 0x75 ∧ 0x068 ≤ off ∧ off < 0x080 then none
  else if 0xC0 < p ∧ p < 0xC8 ∧ off = 0x054 then none
  else if 0x60 ≤ p ∧ p < 0x68 ∧ off = 0x040 ∧ p % 2 = 1 then some { r with rw := r.rw - 2 }
  else if 0x10 ≤ p ∧ p < 0x16 ∧ off = 0x04C then some { r with rw := r.rw - 0x400 }
  else if 0x10 ≤ p ∧ p < 0x16 ∧ off = 0x044 then some { r with rw := r.rw - 0x10000 }
  else if p = 0x24 ∧ 0x060 ≤ off ∧ off < 0x080 then some { r with rw := r.rw - 7 }
  else if (p = 0x77 ∨ p = 0x78) ∧ off = 0x040 then some { r with rw := 0x0000FF03 }
  else if p = 0x79 ∧ off = 0x040 then some { r with rw := 0xFFFF0F03, reset := 0x19190201 }
  else some r

/-- The row of the word at byte offset `off` of page `p`, `none` for a reserved page, a reserved header word or an unassigned word. -/
def rowAt (p off : Nat) : Option RegRow :=
  match pageKind p with
  | none => none
  | some k =>
    if off < 0x040 then findRow rowsCommon off
    else match findRow (rowsOf k) off with
      | none => none
      | some r => adjustRow p off r

/-- The block-type code of a page kind (R40). -/
def typeCode : PageKind → Nat
  | .sys => 0x01 | .clk => 0x02 | .pwr => 0x03 | .tb => 0x04 | .sched => 0x05 | .weld => 0x06 | .stock => 0x07 | .ledger => 0x08
  | .patch => 0x09 | .mix => 0x0A | .sec => 0x0B | .otp => 0x0C | .img => 0x0D | .fault => 0x0E | .test => 0x0F | .dbg => 0x10
  | .sap => 0x11 | .pdm => 0x12 | .spdif => 0x13 | .asrc => 0x14 | .mic => 0x15 | .wake => 0x16 | .lin => 0x17 | .hpo => 0x18
  | .jack => 0x19 | .inc => 0x1A | .fin => 0x1B | .stg => 0x1C | .xst => 0x1D | .sns => 0x1E | .trk => 0x1F | .tongs => 0x20
  | .diag => 0x21 | .aux => 0x22 | .twt => 0x23 | .twc => 0x24 | .spit => 0x25 | .qspi => 0x26 | .vhk => 0x27 | .pair => 0x28
  | .gpio => 0x29 | .irq => 0x2A | .anv => 0x2B | .bench => 0x2C

/-- The first page of a page kind (R40). -/
def firstPage : PageKind → Nat
  | .sys => 0x00 | .clk => 0x01 | .pwr => 0x02 | .tb => 0x03 | .sched => 0x04 | .weld => 0x05 | .stock => 0x06 | .ledger => 0x07
  | .patch => 0x08 | .mix => 0x09 | .sec => 0x0A | .otp => 0x0B | .img => 0x0C | .fault => 0x0D | .test => 0x0E | .dbg => 0x0F
  | .sap => 0x10 | .pdm => 0x16 | .spdif => 0x17 | .asrc => 0x18 | .mic => 0x24 | .wake => 0x25 | .lin => 0x26 | .hpo => 0x27
  | .jack => 0x28 | .inc => 0x30 | .fin => 0x48 | .stg => 0x60 | .xst => 0x68 | .sns => 0x70 | .trk => 0x71 | .tongs => 0x72
  | .diag => 0x73 | .aux => 0x74 | .twt => 0x76 | .twc => 0x77 | .spit => 0x7A | .qspi => 0x7B | .vhk => 0x7C | .pair => 0x7D
  | .gpio => 0x7E | .irq => 0x7F | .anv => 0x80 | .bench => 0xC0

/-- The pages whose PG_CTRL.EN reads 1 and ignores writes (R49). -/
def alwaysOn : PageKind → Bool
  | .sys | .clk | .pwr | .tb | .sched | .weld | .stock | .ledger | .patch | .sec | .otp | .img | .fault | .dbg | .sns | .jack
  | .twt | .gpio | .irq => true
  | _ => false

/-- The page has STG registers: PG_WELD.WELDABLE (R62). -/
def weldableKind (k : PageKind) : Bool := (rowsOf k).any fun r => r.stg != 0

/-- The reset value of PG_ACCESS: its page's group in R40 and the value of the group in R57. -/
def accessReset (p : Nat) : PageKind → Nat
  | .sec | .otp | .stg | .xst | .sns | .trk | .tongs => 0x15
  | .twc => if p = 0x79 then 0x15 else 0x5B
  | .test => 0x31
  | .dbg => 0x30
  | .anv | .bench => 0x11
  | _ => 0x5B

/-- The reset value of a header word (R40, R48, R49, R50, R57, R62). (Log entry 14: DESIGN CHOICE.) -/
def headerReset (p off : Nat) (k : PageKind) : Nat :=
  if off = 0x000 then
    p * 0x1000000 + typeCode k * 0x10000 + 0x100 + (p - firstPage k)
  else if off = 0x008 then b2n (alwaysOn k || k == .spit || k == .qspi)
  else if off = 0x020 then accessReset p k
  else if off = 0x028 then (if weldableKind k then 3 else 2)
  else 0

/-- The reset value of the word at byte offset `off` of page `p`. -/
def pageReset (p off : Nat) : Nat :=
  match pageKind p with
  | none => 0
  | some k =>
    if off < 0x040 then headerReset p off k
    else match k with
      | .fin =>
        if off = 0x068 then (if p = 0x58 then 0 else 0x80008000)
        else if 0x080 ≤ off ∧ off < 0x210 then (if (off - 0x080) % 20 = 0 then 0x40000000 else 0)
        else match findRow rowsFin off with | some r => r.reset | none => 0
      | _ => match rowAt p off with | some r => r.reset | none => 0

/-- The register key without the part that names the master it is kept for. -/
def keyLow (k : Nat) : Nat := k % 0x1000000

/-- Keys of the per-node, per-channel and other windowed copies of a register, and of words kept per master, stand above the control
space: MIX nodes from 0x10000, Tongs channels from 0x12000, DIAG channels from 0x13000, patch entries from 0x14000 and the rest. The
reset value of every key. (Log entry 7: DESIGN CHOICE.) -/
def resetWord (key : Nat) : Word :=
  let k := keyLow key
  if k < 0x10000 then Word.of (pageReset (k / 256) (k % 256 * 4))
  else if k < 0x12000 then Word.of (pageReset 0x09 (k % 256 * 4))
  else if k < 0x13000 then Word.of (pageReset 0x72 (k % 256 * 4))
  else if k < 0x14000 then Word.of (pageReset 0x73 (k % 256 * 4))
  else 0

end Sys2Proof.Machine
end

