-- ==== Sys2Proof/Machine/Sparse.lean ====
section
/-!
DEFINITION. Sparse stores as plain data: a list of (key, value) pairs with strictly rising keys in which no entry holds the value an
unlisted key reads as. Equal stores are equal lists. The register words, the anvils' memories and the per-unit records use it.
-/

namespace Sys2Proof.Machine

/-- A sparse store: keys rise strictly, and no entry equals what its key reads as when unlisted. -/
abbrev Sparse (α : Type) := List (Nat × α)

/-- The listed value of key `k`. -/
def Sparse.find {α : Type} : Sparse α → Nat → Option α
  | [], _ => none
  | (k', v) :: t, k => if k' = k then some v else Sparse.find t k

/-- The value of key `k`, `d` when it is unlisted. -/
def Sparse.get {α : Type} (m : Sparse α) (d : α) (k : Nat) : α := (m.find k).getD d

/-- `m` with `v` listed at `k`, whatever `v` is. -/
def Sparse.put {α : Type} : Sparse α → Nat → α → Sparse α
  | [], k, v => [(k, v)]
  | (k', v') :: t, k, v =>
    if k < k' then (k, v) :: (k', v') :: t
    else if k = k' then (k, v) :: t
    else (k', v') :: Sparse.put t k v

/-- `m` without key `k`. -/
def Sparse.del {α : Type} : Sparse α → Nat → Sparse α
  | [], _ => []
  | (k', v') :: t, k => if k' = k then Sparse.del t k else (k', v') :: Sparse.del t k

/-- `m` with key `k` reading as `v`, where an unlisted `k` reads as `d`: writing `d` unlists the key. -/
def Sparse.set {α : Type} [DecidableEq α] (m : Sparse α) (d : α) (k : Nat) (v : α) : Sparse α :=
  if v = d then m.del k else m.put k v

/-- The keys of `m` rise strictly, all above `lo` where one is given. -/
def Sparse.rising {α : Type} : Option Nat → Sparse α → Bool
  | _, [] => true
  | none, (k, _) :: t => Sparse.rising (some k) t
  | some lo, (k, _) :: t => decide (lo < k) && Sparse.rising (some k) t

/-- The canonical form: keys rise strictly and no entry equals the default of its key. -/
def Sparse.wf {α : Type} [DecidableEq α] (d : Nat → α) (m : Sparse α) : Bool :=
  Sparse.rising none m && m.all fun kv => decide (kv.2 ≠ d kv.1)

/-- The canonical form of a store: the same reading of every key; a store in canonical form is its own. (Log entry 12: DEDUCED.) -/
def Sparse.canon {α : Type} [DecidableEq α] (d : Nat → α) (m : Sparse α) : Sparse α :=
  m.foldr (fun kv r => r.set (d kv.1) kv.1 kv.2) []

end Sys2Proof.Machine
end

