-- ==== Sys2Proof/Machine/State.lean ====
section
/-!
DEFINITION. The state of the machine as plain data. Every register word of the control space stands in `State.words`, a sparse store
over the reset values of the register tables; the other fields hold what the specification gives the device beside its registers: the
timebase, the welds, the scheduler's entries, the Stock, the anvils, the engines' progress, and the queue of waiting commands.
-/

namespace Sys2Proof.Machine

/-- Why the machine stops with a fault. No command of this block ends in one: the specification gives every command its effect, and no
address of its control space is outside the map. Raised by nobody; safe. (Log entry 82: DESIGN CHOICE.) -/
inductive Fault where
  /-- Reserved for an access outside the machine; raised by no command of the model. Safe. -/
  | absent
  deriving DecidableEq, Repr

/-- Why a command has no meaning in the model. (Log entry 82: DESIGN CHOICE.) -/
inductive Refusal where
  /-- The command's meaning is not written yet: raised by its arm of `exec` alone. Safe: the machine stops. -/
  | notModelled (mnemonic : String)
  deriving DecidableEq, Repr

/-- A word to be written: the key it goes to and the value. -/
abbrev KeyVal := Nat × Word

/-! ### Welds (chapter 06) -/

/-- The states of a parameter weld (R164). -/
inductive WeldState where
  | open_ | pending | committed | coldShut | undone | closed
  deriving DecidableEq, Repr

/-- The reasons of a cold shut (R167). -/
inductive ShutReason where
  | access | range | late | conflict | brace | pair | capacity | targetBusy | aborted | rebuild
  deriving DecidableEq, Repr

/-- What the pair protocol holds of one half of a pair weld (R179 to R184). -/
structure PairHalf where
  /-- This half is the lead's. -/
  lead    : Bool := true
  /-- The follower identifier named by the commit (lead), or this half's own identifier (follower). -/
  peerId  : Nat := 0
  /-- Sequence number of PREPARE, VOTE and ABORT. -/
  seq     : Nat := 0
  /-- The vote received or given. -/
  vote    : Option Bool := none
  /-- An ABORT has been sent or has arrived. -/
  aborted : Bool := false
  /-- The lead has decided to proceed (R182). -/
  decided : Bool := false
  deriving DecidableEq, Repr

/-- The undo record of one word: key, value before the weld and value the weld wrote (R171, R173). -/
structure UndoWord where
  key : Nat
  old : Word
  new : Word
  deriving DecidableEq, Repr

/-- A parameter weld whose identifier is not FREE (R156, R164). -/
structure Weld where
  id       : Nat
  /-- Serial number of its opening; WELD.STATUS shows a master's latest one. -/
  serial   : Nat := 0
  opener   : Master := .twt
  domain   : Domain := .host
  /-- Opened by a port during its owner session (R570). -/
  session  : Bool := false
  st       : WeldState := .open_
  /-- Staged entries in staging order; a held LO word and its HI word stand in one entry (R69, R162). -/
  entries  : List (List KeyVal) := []
  /-- The master's writes under the weld so far (R166). -/
  writes   : Nat := 0
  /-- The mark of a failure found while staging: reason and index (R166). -/
  mark     : Option (ShutReason × Nat) := none
  /-- Target stroke. -/
  target   : Nat := 0
  lateOk   : Bool := false
  /-- Order of the commit in the fabric (R168). -/
  order    : Nat := 0
  pairHalf : Option PairHalf := none
  /-- Stroke at whose boundary the weld applied. -/
  applied  : Nat := 0
  undo     : List UndoWord := []
  /-- Stroke at whose boundary an accepted undo applies, and its order (R171). -/
  undoAt   : Option Nat := none
  undoOrder : Nat := 0
  /-- Undo ordered by the pair protocol: the weld ends UNDONE with reason PAIR (R183). -/
  undoPair : Bool := false
  /-- REASON, INDEX, DRIFTED and SPLIT of WELD.STATUS. -/
  reason   : Nat := 0
  index    : Nat := 0
  drifted  : Bool := false
  split    : Bool := false
  deriving DecidableEq, Repr

/-- One entry of CMDQ (R187). -/
structure CmdqEntry where
  master  : Master
  domain  : Domain
  session : Bool
  words   : List KeyVal
  /-- Timebase at which it was queued. -/
  at_     : Nat
  deriving DecidableEq, Repr

/-- The weld engine. -/
structure WeldEng where
  welds    : List Weld := []
  serial   : Nat := 0
  order    : Nat := 0
  /-- Per master (by its number): serial of the weld it opened last. -/
  latest   : Sparse Nat := []
  cmdq     : List CmdqEntry := []
  /-- Outcomes of pair welds of the last four strokes for the heartbeat (R183, R547). -/
  outcomes : List PairOutcome := []
  /-- The Boot ROM's and the loader's internal selector (R158), by master number. -/
  sel      : Sparse Nat := []
  /-- The deadline in force, in ticks after the boundary: GUARD as it stood at the last release (R174). -/
  deadline : Nat := 62259
  /-- The deadline of the current stroke has been judged (R175): the late anvils and the chains found short. -/
  judged   : Bool := false
  late     : List Nat := []
  short    : List Nat := []
  /-- The last stroke published was a concealment (R177). -/
  concealed : Bool := false
  deriving DecidableEq, Repr

/-! ### The scheduler (chapter 04) -/

/-- An armed entry of the scheduler (R115 to R126). -/
structure SchedEntry where
  idx      : Nat
  master   : Master
  domain   : Domain
  session  : Bool := false
  /-- Due tick, or due stroke when `boundary`. -/
  time     : Nat
  boundary : Bool := false
  lateOk   : Bool := false
  /-- Armed past its time with LATE_OK: it fires at once, or at the next boundary, and is not counted as late (R121). -/
  past     : Bool := false
  kind     : Nat
  payload  : Word
  order    : Nat := 0
  /-- Fired, and waiting for the target's acceptance (R115). -/
  fired    : Bool := false
  deriving DecidableEq, Repr

/-! ### Faults (chapter 22) -/

/-- A fault on one source: code, source page and channel. -/
structure FaultId where
  code : Nat
  src  : Nat
  sub  : Nat := 0
  deriving DecidableEq, Repr

/-- A log entry (R597). -/
structure LogEntry where
  tb      : Nat
  fid     : FaultId
  cls     : Nat
  outcome : Nat
  deriving DecidableEq, Repr

/-- The FAULT page's record beside its registers. -/
structure FaultEng where
  active  : List FaultId := []
  log     : List LogEntry := []
  /-- The running recovery (R591). -/
  recov   : Option FaultId := none
  /-- Faults waiting for their recovery (R594). -/
  queue   : List FaultId := []
  /-- The always-on island's parity copy disagrees with the active bitmap, or the log memory has an uncorrectable error (R596). -/
  logicBad : Bool := false
  /-- A quench runs (R586). -/
  quenching : Bool := false
  /-- A recovery of PEER_DEAD has begun and its takeover waits for the boundary (R560, R594). -/
  takeover : Bool := false
  /-- The device halted (R588): only a TWT start condition or the VAON reset level leaves it. -/
  halted  : Bool := false
  deriving DecidableEq, Repr

/-! ### The Stock (chapter 05) -/

/-- The tag of a billet (R133). `flags`: bit 0 MISSING, 1 MUTED, 2 CONCEALED, 3 FILLED, 4 RETAINED, 5 QUARANTINED. -/
structure Tag where
  stamp  : Nat := 0
  count  : Nat := 0
  offset : Nat := 0
  /-- 0 OWNER, 1 HOST, 2 TWIN, 3 the microphones' domain of R133. -/
  domain : Nat := 0
  flags  : Nat := 0
  packed : Bool := false
  deriving DecidableEq, Repr

/-- A billet: its tag and its sixteen 32-bit words; words not listed are 0 (R130 to R133). -/
structure Billet where
  tag  : Tag := {}
  data : List Word := []
  deriving DecidableEq, Repr

/-- Where a billet that a queue owns is (R144). A billet with no location record and not in QUARANTINE is FREE. -/
inductive Loc where
  /-- Granted to a producer that is not an anvil. -/
  | producer
  /-- Waiting on the queue. -/
  | waiting
  /-- Held by a consumer that is not an anvil. -/
  | consumer
  /-- Belonging to a RING queue, at this ring index. -/
  | ring (i : Nat)
  /-- Held by an anvil's handle, taken or granted. -/
  | anvil (n h : Nat)
  /-- Staged for the stroke weld. -/
  | staged
  /-- An output's billet that the stroke weld has published, while the output plays it (R30, R145). -/
  | played
  /-- Handed to the Viheska transmitter. -/
  | transit
  deriving DecidableEq, Repr

/-- The location record of a billet (R136, R145), with its queue and the generation its grant carries (R142). The output billets of the
stroke weld belong to no queue: their record names 1,024 + 2 o + h for half `h` of the stroke of output `o` (R144, R176). -/
structure Own where
  queue : Nat
  loc   : Loc
  gen   : Nat := 0
  /-- Samples among its COUNT that the capture unit filled (R206, R246). -/
  filled : Nat := 0
  deriving DecidableEq, Repr

/-- What waits on a queue: a billet, or one made without a billet: the MISSING replacement of a lost one (R148) and the FILLED zeros and
fades that placement puts in place of samples that did not come (R211, R234, R650). -/
inductive QItem where
  | billet (b : Nat)
  | made (t : Tag) (data : List Word)
  deriving DecidableEq, Repr

/-- How the placement stage serves an input stream (R233, R650). -/
structure Placement where
  /-- 0 bypass, 1 conversion, 2 held (R233), 3 not yet served. -/
  path    : Nat := 3
  /-- A change between bypass and conversion waits for the next boundary while the placed audio fades out (R236). -/
  change  : Option Nat := none
  /-- Samples of the running fade-in; 32 when none runs. -/
  inPos   : Nat := 0
  /-- Samples of the running fade-out, 32 once the stream is at zero; `none` while it is placed from billets. -/
  outPos  : Option Nat := some 32
  /-- The last sample placed. -/
  last    : Word := 0
  /-- The capture unit has declared STALL or LOSS, or has stopped (R203, R211). -/
  stalled : Bool := false
  /-- The first placement stroke not yet placed, and the samples of it that the last billet of the stroke before has taken. -/
  next    : Nat := 0
  spill   : Nat := 0
  /-- Samples that still read zero after a change of path that shortens nothing (R236). -/
  hush    : Nat := 0
  deriving DecidableEq, Repr

/-- A queue (R136 to R142): its descriptor, its credit counters and what waits on it. -/
structure Queue where
  cfg      : Word := 0
  ends     : Word := 0
  issued   : Word := 0
  returned : Word := 0
  gen      : Nat := 0
  drained  : Nat := 0
  /-- Oldest first. -/
  waiting  : List QItem := []
  /-- Items of an input stream that placement has handed to the consumer, oldest first (R234). -/
  placed   : List QItem := []
  /-- How many of the youngest items the placement stage handed on in the running stroke: a forging unit takes them in the next (R25). -/
  fresh    : Nat := 0
  place    : Placement := {}
  /-- The tag put last since the queue was enabled (R148). -/
  lastTag  : Option Tag := none
  /-- The stream counters of R246, 48 bits each. -/
  recv     : Nat := 0
  deliv    : Nat := 0
  slag     : Nat := 0
  fill     : Nat := 0
  deriving DecidableEq, Repr

/-- The Stock and the ledger's own state. -/
structure Stock where
  /-- Contents of the billets; an unlisted billet is empty. -/
  mem     : Sparse Billet := []
  /-- Location records of the billets owned by queues. -/
  own     : List (Nat × Own) := []
  /-- Billets in QUARANTINE. -/
  quar    : List Nat := []
  queues  : Sparse Queue := []
  /-- A soft reset or rebuild is running (R150). -/
  rebuilding : Bool := false
  /-- An audit has been requested for the next boundary (R153). -/
  auditReq : Bool := false
  /-- A counter of the ledger holds an uncorrectable error, which the next audit finds (R154). -/
  lmemBad : Bool := false
  /-- A breach holds the anvils until an audit passes (R155). -/
  breached : Bool := false
  /-- An audit has passed since the last breach (R589, code 0x12). -/
  passedSince : Bool := false
  deriving DecidableEq, Repr

/-! ### Power stages (chapter 13) -/

/-- The step of a channel that is STOPPING (R384, R586). -/
inductive StopPhase where
  /-- STOP accepted, waiting for the boundary; the output then ramps over one stroke. -/
  | waiting | ramping
  /-- The soft path lowers the outputs. -/
  | lowering
  /-- The 1 ms temper of a quench. -/
  | tempering
  deriving DecidableEq, Repr

/-- What a channel does when its outputs are down. -/
inductive AfterStop where
  | stopped
  /-- Begins R383 again when PVDD has recovered (R393). -/
  | restart
  /-- A retry whose start failed returns to TRIPPED (R393). -/
  | tripped
  deriving DecidableEq, Repr

/-- A driver channel beside its registers: c below 8 is STGc, otherwise XST(c-8) (R402). -/
structure Chan where
  /-- Tick at which the running step ends. -/
  due      : Nat := 0
  /-- Tick at which INRUSH began or resumed. -/
  began    : Nat := 0
  /-- Inrush ticks already run before `began`. -/
  done     : Nat := 0
  pausedAt : Nat := 0
  /-- 50 ms pauses of this start that aborted it. -/
  aborts   : Nat := 0
  /-- This start is a retry. -/
  retry    : Bool := false
  phase    : StopPhase := .waiting
  after    : AfterStop := .stopped
  /-- State code from which the channel became HELD (R391). -/
  heldFrom : Nat := 0
  /-- A requested ring test ended with END HELD: the restart tests again (R440). -/
  heldTest : Bool := false
  /-- The XSTn_FLT input is asserted. -/
  fltIn    : Bool := false
  /-- The output is open (the unmute ramp has run). -/
  isOpen   : Bool := false
  /-- MUTE as it took effect at the last boundary. -/
  muted    : Bool := false
  /-- Mute (some true) or unmute (some false) ramp over the running stroke (R385). -/
  ramp     : Option Bool := none
  /-- Tick at which the channel entered RUN (R388). -/
  runAt    : Nat := 0
  /-- Tick at which the last SETTLE had lasted 1 ms, where the offset calibration of its sense converters ends (R404). -/
  calEnd   : Nat := 0
  deriving DecidableEq, Repr

/-- A ring test of a channel (R429 to R440). -/
structure RingTest where
  /-- Part of a normal start; otherwise requested through DIAG.RUN. -/
  auto    : Bool
  /-- The boundary at which it began, once it has. -/
  began   : Option Nat := none
  /-- The boundary tick at which it ends. -/
  stop    : Nat := 0
  /-- Sums of the calibrated samples over the DC measurement span, µV and µA, and their number. -/
  sumV    : Int := 0
  sumI    : Int := 0
  cnt     : Nat := 0
  /-- Calibrated samples of the AC measurement spans: frequency number, v and i. -/
  ac      : List (Nat × Int × Int) := []
  deriving DecidableEq, Repr

/-- HPO beside its registers (R472 to R475). -/
structure Hpo where
  due     : Nat := 0
  isOpen  : Bool := false
  ramp    : Option Bool := none
  /-- STOP accepted in RUN: waits for the boundary, then ramps. -/
  stopReq : Bool := false
  ramping : Bool := false
  /-- An insertion found HPO in STOPPING (R480). -/
  restart : Bool := false
  /-- A removal's STOP is due once the ramp out has ended (R478). -/
  jackStop : Bool := false
  /-- The quench's 1 ms temper runs (R586). -/
  tempering : Bool := false
  deriving DecidableEq, Repr

/-- The jack pins between debounce and boundary (R476, R477). -/
structure Jack where
  /-- A headphone change, and a line change, not yet acted on (R477). -/
  hpPend  : Bool := false
  linPend : Bool := false
  /-- The next boundary is the first of a stay in FORGING. -/
  first   : Bool := false
  /-- The debounced levels of HPDET and LINDET; none until the first has been taken (R476). -/
  hpLevel  : Option Bool := none
  linLevel : Option Bool := none
  deriving DecidableEq, Repr

/-- A stage die: the conditions that stand on it (R22, R391, R392), and its copies of the SAFE words of its integrated and its external
stages (R421). -/
structure Die where
  linkLost : Bool := false
  pvddUv   : Bool := false
  pvddOv   : Bool := false
  ots      : Bool := false
  otw      : Bool := false
  safeStg  : Word := 0x18181818
  safeXst  : Word := 0x18181818
  deriving DecidableEq, Repr

/-! ### Serial audio ports, receiver, converters of rate, patch (chapters 07 and 08) -/

/-- One side of a serial audio port, or the IEC 60958 receiver (R200 to R217). -/
structure Side where
  /-- The hearth sample at which the side starts. -/
  startAt : Nat := 0
  /-- A stop has been accepted and acts at the end of the current frame (R203). -/
  stopReq : Bool := false
  /-- RX: the grants of the open billet, one per channel, each the billet and its GEN (R142); empty when none is open. -/
  grants  : List (Nat × Nat) := []
  /-- RX: channels that hold a credit while others were refused (R205): channel and grant. -/
  kept    : List (Nat × Nat × Nat) := []
  stamp   : Nat := 0
  /-- RX: the samples collected so far, one list per channel, and how many of each are filled. -/
  samples : List (List Word) := []
  filled  : List Nat := []
  /-- Consecutive abnormal frames; consecutive exact frames while in LOSS (R208). -/
  abnormal : Nat := 0
  exact   : Nat := 0
  /-- The tick of the last frame edge, or the start sample before the first one; whether the first one has come. -/
  lastEdge : Nat := 0
  began    : Bool := false
  /-- TX: the samples not yet sent of the billets taken, one list per channel. -/
  fifo    : List (List Word) := []
  /-- TX: frames of the fade-in sent since a STALL ended (R214); 32 when none runs. -/
  fade    : Nat := 32
  /-- TX: the words of the frame being sent, one per enabled slot, and those of the frame before. -/
  sent    : List Word := []
  prev    : List Word := []
  /-- TX in STALL: frames released so far, per channel (R214). -/
  dropped : List Nat := []
  /-- TX, shared line: owned slots and the points of R215 at which the read-back of the frame being sent disagreed. -/
  cut     : List (Nat × Nat) := []
  /-- Shared line: slots with an adaptive guard at their first or last bit (R216), and clean frames of released slots (R217). -/
  guards  : List (Nat × Bool) := []
  clean   : Sparse Nat := []
  /-- Receiver: frames held for two frames (R226): stamp, and the sample of A and of B with whether it has been replaced (R227); none for a
  frame with an error. -/
  hold    : List (Nat × List (Word × Bool)) := []
  /-- Receiver: frames since a burst preamble was seen, `none` when not within 8,192 (R228). -/
  burst   : Option Nat := none
  /-- Receiver: the channel status marks non-PCM or professional. -/
  csBad   : Bool := false
  /-- Receiver: last good sample of each subframe (R227). -/
  good    : List Word := [0, 0]
  /-- Receiver: the channel-status bits of the running block of A and of B, and how many frames of it have come (R230). -/
  csA     : Nat := 0
  csB     : Nat := 0
  csN     : Nat := 192
  /-- Receiver: no frame of the input has been lost or bad since the last complete block ended: the block being assembled follows it. -/
  csNext  : Bool := false
  /-- Receiver: last complete channel-status blocks of A and B (R230). -/
  block   : Option Nat := none
  blockB  : Option Nat := none
  deriving DecidableEq, Repr

/-- One ASRC engine beside its registers (R237 to R245). -/
structure Asrc where
  /-- Input samples held for interpolation, one list per channel: tick and sample. -/
  hist    : List (List (Nat × Word)) := [[], []]
  /-- The last input tag's full stamp and COUNT, per channel. -/
  lastIn  : List (Option (Nat × Nat)) := [none, none]
  /-- Grid samples computed and not yet in a billet, one list per channel. -/
  acc     : List (List Word) := [[], []]
  /-- Some sample of `acc` is filled. -/
  filled  : Bool := false
  /-- The tick of the next grid sample. -/
  next    : Nat := 0
  /-- Samples of the running fade; 32 when none runs. -/
  fade    : Nat := 32
  /-- The running fade is a fade to zero. -/
  fadeOut : Bool := false
  last    : List Word := [0, 0]
  /-- Zero samples still to be placed after a change from bypass (R236). -/
  skip    : Nat := 0
  /-- A span without input is being filled with zeros (R245). -/
  late    : Bool := false
  /-- The stamp of the first sample of `acc`. -/
  stamp   : Nat := 0
  deriving DecidableEq, Repr

/-- An on-chip capture channel (R443, R468, R651): microphone HQ paths 0 to 15, LP paths 16 to 31, line channels 32 to 35. -/
structure Capt where
  on      : Bool := false
  /-- The tick of the first sample. -/
  startAt : Nat := 0
  /-- The tick at which the channel stops, once a stop has been accepted; the samples of earlier instants are still to come. -/
  stopAt  : Option Nat := none
  /-- The grant of the open billet: the billet and its GEN (R142). -/
  grant   : Option (Nat × Nat) := none
  stamp   : Nat := 0
  samples : List Word := []
  /-- A sample of the open billet is a MUTED zero. -/
  muted   : Bool := false
  /-- Samples before this tick are zeros, MUTED or plain, and a one-stroke fade-in begins at it (R459, R465). -/
  quietTo : Option Nat := none
  /-- Those zeros are flagged MUTED. -/
  quietMuted : Bool := false
  deriving DecidableEq, Repr

/-- A detection's tick, and what WAKE.EVT and the acoustic bit of PWR.WAKE_CAUSE held before it. -/
structure Fired where
  tick  : Nat
  lo    : BitVec 32
  hi    : BitVec 32
  cause : Bool
  deriving DecidableEq, Repr

/-- The wake unit beside its registers (R451 to R459). -/
structure WakeEng where
  /-- Noise floor and hits of the built-in detector (R452). -/
  floor   : Option Int := none
  hits    : Nat := 0
  /-- The history billet being written: stamp and samples; the ring index it goes to. -/
  stamp   : Nat := 0
  samples : List Word := []
  muted   : Bool := false
  pos     : Nat := 0
  /-- History billets in the ring, oldest first: stamp, ring index and COUNT. -/
  hist    : List (Nat × Nat × Nat) := []
  /-- The start of the history fixed at a detection (R456). -/
  fixed   : Option Nat := none
  /-- A detection's wake is under way and T_seam has not come. -/
  woken   : Bool := false
  /-- The last detection of the stay in EMBER, and what it replaced (R461). -/
  fired   : Option Fired := none
  /-- The tick at which another enabled source has woken the device from EMBER (R455). -/
  other   : Option Nat := none
  /-- The tick of B_x from T_seam on (R458). -/
  cross   : Option Nat := none
  deriving DecidableEq, Repr

/-- A patch entry as a unit holds it cached (R251). -/
structure CacheLine where
  unit  : Nat
  entry : Nat
  gen   : Nat
  lo    : Word
  hi    : Word
  stale : Bool := false
  deriving DecidableEq, Repr

/-- The patch table's own state beside its entries. -/
structure Patch where
  cache : List CacheLine := []
  /-- Entries a write of PATCH.INVAL has named for the next boundary (R252). -/
  inval : List Nat := []
  /-- Applied direct writes per entry in the current stroke (R249). -/
  writes : Sparse Nat := []
  deriving DecidableEq, Repr

/-! ### Mixers and chains (chapter 09) -/

/-- A limiter's gain num / den · 10^(rise / 40,960) (R269, R276). -/
structure LimGain where
  num  : Nat := 1
  den  : Nat := 1
  rise : Nat := 0
  deriving DecidableEq, Repr

/-- One channel of a conditioning or finishing chain: filter states, look-ahead and limiter gain (in units of 2^-48). -/
structure Filt where
  /-- High-pass sections: previous input and state of each (R263). -/
  hx1  : Int := 0
  hy1  : Int := 0
  hx2  : Int := 0
  hy2  : Int := 0
  /-- Biquads not in their zero state: x1, x2, y1 and y2 (R272). -/
  bq   : Sparse (Int × Int × Int × Int) := []
  /-- Samples in the look-ahead, oldest first, each with the T_eff at which it entered (R276). -/
  look : List (Int × Nat) := []
  g    : LimGain := {}
  /-- Input samples taken and not yet computed. -/
  fifo : List Word := []
  /-- The RMS average (R280). -/
  rms  : Nat := 0
  deriving DecidableEq, Repr

/-- A conditioning or finishing chain (R270, R271). -/
structure Chain where
  filt    : List Filt := [{}, {}]
  /-- The gain in force, num / den in 1/256 dB, and the ramp's target, start and steps (R260, R261). -/
  num     : Int := 0
  den     : Nat := 1
  target  : Int := 0
  from_   : Int × Nat := (0, 1)
  steps   : Nat := 0
  step    : Nat := 0
  /-- The first stroke not yet computed. -/
  next    : Nat := 0
  /-- The samples of the stroke computed since the last boundary, per channel; `none` when it has not been computed. -/
  out     : Option (List (List Word)) := none
  /-- Hold counter of the peak meter (R281). -/
  hold    : Nat := 0
  /-- Delay ring: samples written, those since it was enabled or enlarged, and its depth and generation (R273). -/
  pos     : Nat := 0
  written : Nat := 0
  sig     : Nat × Nat := (0, 0)
  /-- Smallest limiter gain of the stroke. -/
  gmin    : LimGain := {}
  /-- A level that protected fallback has written takes effect from the next sample (R278). -/
  refit   : Bool := false
  deriving DecidableEq, Repr

/-- A mixer input port: samples taken, and those of the current stroke (R265). -/
structure MixPort where
  fifo : List Word := []
  cur  : Option (List Word) := none
  deriving DecidableEq, Repr

/-- A mixer node beside its registers (R265 to R269). -/
structure MixNode where
  /-- Active at the last boundary, or since it last computed. -/
  active : Bool := false
  /-- The scale exponents in use before and from the last boundary (R268). -/
  kOld   : Nat := 0
  kNew   : Nat := 0
  auto   : Bool := false
  g      : LimGain := {}
  /-- The first stroke not yet computed. -/
  next   : Nat := 0
  deriving DecidableEq, Repr

/-! ### The anvils (chapters 10 to 12) -/

/-- What a billet handle is doing (R344): EMPTY, PENDING on a take, a grant or a copy, or HELD. -/
inductive HandleSt where
  | empty
  /-- A BTAKE of stream `s` to address `a` waits for a billet. -/
  | take (s a : Nat)
  /-- A BGRANT on stream `s` waits for a credit. -/
  | grant (s : Nat)
  /-- The copy of a BTAKE or BPUT runs. -/
  | busy
  | held
  deriving DecidableEq, Repr

/-- A billet handle (R289 to R292, R344). -/
structure Handle where
  st      : HandleSt := .empty
  code    : Nat := 9
  tag     : Tag := {}
  /-- What it holds. -/
  item    : Option QItem := none
  /-- The queue of the billet it holds, and the generation of its grant (R142). -/
  queue   : Nat := 0
  gen     : Nat := 0
  /-- The billet was granted, not taken. -/
  granted : Bool := false
  deriving DecidableEq, Repr

/-- A billet copy in progress on the bench's Stock port (R286). -/
inductive CopyOp where
  /-- BTAKE into handle `h`, writing the 64 bytes at `a`. -/
  | take (h a : Nat)
  /-- BPUT of handle `h`, reading them. -/
  | put (h a : Nat)
  /-- BRD of ring billet `i` of a queue, writing them. -/
  | ringRead (queue i a : Nat)
  /-- BWR, reading them. -/
  | ringWrite (queue i a : Nat)
  deriving DecidableEq, Repr

/-- A coprocessor operation issued and not yet written (R294, R346). -/
structure CopEntry where
  /-- Low register of its destination pair. -/
  dest : Nat
  val  : Word
  sat  : Bool
  err  : Bool
  op   : Nat
  /-- The index of the instruction that issued it. -/
  src  : Nat
  deriving DecidableEq, Repr

/-- One anvil beside its page: registers of R311, the pipeline's remembered positions, handles, copies and coprocessor queue. -/
structure Anv where
  d       : Sparse (BitVec 16) := []
  acc     : Sparse (BitVec 40) := []
  /-- The control registers by the index of R317. -/
  cr      : Sparse Word := []
  /-- The next instruction index. -/
  pc      : Nat := 0
  /-- In the delay slot of a branch: the branch's index, where the program goes on, and the mode the branch ran under. -/
  slot    : Option (Nat × Nat × Nat) := none
  /-- The next instruction is the shadow of an MVC md, or the first after an RTE with SHD: the mode it runs under (R354, R365). -/
  shadow  : Option Nat := none
  handles : Sparse Handle := []
  /-- Oldest first. -/
  copies  : List CopyOp := []
  /-- Oldest first, four at most. -/
  cops    : List CopEntry := []
  /-- A halt has been requested and waits for a clean boundary (R371). -/
  haltReq : Bool := false
  /-- A STEP waits to be executed (R306). -/
  stepReq : Bool := false
  /-- Stopped in LATE: takes OVERRUN at its next release (R368). -/
  overrun : Bool := false
  /-- A boundary has passed since it halted (R307). -/
  passed  : Bool := false
  /-- The next instruction fetched matches no breakpoint (R373). -/
  skipBp  : Bool := false
  /-- MODE.FREE as written since the last boundary, where it takes effect (R301). -/
  modeNext : Option Bool := none
  deriving DecidableEq, Repr

/-- A sample known to the tracker: channel, play tick and magnitude of x (R397). -/
structure TrkSample where
  chan : Nat
  play : Nat
  mag  : Nat
  deriving DecidableEq, Repr

/-- The supply tracker beside its registers (R395 to R401). -/
structure Tracker where
  /-- The commanded value C, in units of 1/(960 * 2^31) V. -/
  c       : Nat := 0
  known   : List TrkSample := []
  /-- Needs of the last 200 ms: play tick and value, in the units of `c`. -/
  past    : List (Nat × Nat) := []
  /-- Commanded values of the last 2 ms (R392): tick and value in mV. -/
  lows    : List (Nat × Nat) := []
  /-- Code of the message being sent, and the last acknowledged code. -/
  sending : Option Nat := none
  acked   : Option Nat := none
  fails   : Nat := 0
  /-- C is held at CAP after eight failures (R400). -/
  linkBad : Bool := false
  /-- PVDD readings below 0.9 C in a row (R401). -/
  under   : Nat := 0
  /-- PVDD is below the warning level (R392). -/
  low     : Bool := false
  /-- The TRK pin's duty count (R399). -/
  duty    : Nat := 0
  deriving DecidableEq, Repr

/-! ### The Tongs (chapter 14) -/

/-- The Tongs' model of one driver channel (R409 to R418). -/
structure TongsChan where
  /-- Coil and magnet node, in 1/1,024 °C. -/
  tc    : Int := 40960
  tm    : Int := 40960
  /-- P of the last stroke in µW, as a fraction. -/
  p     : Nat × Nat := (0, 1)
  /-- The last A, `none` before the first pass. -/
  prev  : Option Int := none
  /-- The band-pass filters and sums of the running resistance window, as the program holds them. -/
  band  : Nat := 0
  win   : Nat := 0
  /-- A stroke of the window lacked sense samples (R657). -/
  bad   : Bool := false
  deriving DecidableEq, Repr

/-- The offset calibration of a sense converter (R404): the readings of the last 0.5 ms of SETTLE, summed, and their number. -/
structure SenseCal where
  sum : Int := 0
  cnt : Nat := 0
  deriving DecidableEq, Repr

/-- The Tongs and the sense converters beside their registers. -/
structure Tongs where
  chans     : Sparse TongsChan := []
  /-- Strokes whose sense billets the next pass takes, oldest first, and whether each played. -/
  owed      : List (Nat × Bool) := []
  /-- The first stroke a pass takes. -/
  first     : Nat := 0
  /-- They have run and have been stopped at this tick (R411). -/
  stoppedAt : Option Nat := none
  /-- The TB value stored on entry to sleep (R412). -/
  sleptAt   : Option Nat := none
  /-- The current stroke plays. -/
  played    : Bool := false
  /-- Channels whose sense saturated in this stroke (R405). -/
  ovr       : List Nat := []
  /-- By sense converter: its offset calibration since the channel's last start (R404). -/
  cal       : Sparse SenseCal := []
  /-- By the even channel of a PBTL pair: the latest current readings of the odd half, with their tick (R405). -/
  half      : Sparse (Nat × List Int) := []
  /-- The stroke of the last real mismatch (R424). -/
  lastMis   : Option Nat := none
  /-- The running pass has been found late, and its results are void (R408). -/
  void      : Bool := false
  /-- Injected: a mismatch in the next pass; a strike test without alarm (R608). -/
  injMis    : Bool := false
  injStrike : Bool := false
  deriving DecidableEq, Repr

/-! ### Housekeeping converters (chapter 18) -/

/-- A housekeeping converter beside its registers (R484 to R498). -/
structure Aux where
  /-- The entry of the regular sequence converted next, while a scan runs. -/
  scan     : Option Nat := none
  /-- The entry of the injected sequence converted next, while it runs. -/
  inj      : Option Nat := none
  /-- A regular scan has fallen due during the injected sequence (R490). -/
  scanDue  : Bool := false
  /-- The tick at which the conversion in progress, or the next one, begins. -/
  start    : Nat := 0
  /-- The sequences pause up to this tick for a plausibility conversion (R494). -/
  pauseTo  : Nat := 0
  /-- STOP waits for the conversion in progress. -/
  stopReq  : Bool := false
  /-- The first tick at which a STROKE scan may begin. -/
  nextScan : Nat := 0
  /-- REF_RDY sets at this tick. -/
  refDue   : Option Nat := none
  /-- A valid channel-15 code has been read. -/
  hasPvdd  : Bool := false
  /-- Consecutive codes at or below XT_LIM, and above it, per temperature sensor. -/
  xtLow    : Sparse Nat := []
  xtHigh   : Sparse Nat := []
  /-- Consecutive misses of R495; consecutive conversions of channel 1 with OVR set, and clear (R499). -/
  misses   : Nat := 0
  battSet  : Nat := 0
  battClr  : Nat := 0
  /-- The key value last decoded, since when, and how many conversions have decoded to it (R497). -/
  key      : Nat := 0
  keySince : Nat := 0
  keyCount : Nat := 0
  deriving DecidableEq, Repr

/-! ### Control ports (chapter 19) -/

/-- A queued operation of a two-wire controller channel (R516). -/
structure TwcOp where
  kind : Nat
  pec  : Bool
  last : Bool
  data : Nat
  deriving DecidableEq, Repr

/-- A two-wire controller channel beside its registers (R515 to R520). -/
structure Twc where
  ops     : List TwcOp := []
  /-- Bytes received, oldest first. -/
  rx      : List Nat := []
  /-- A transaction is open. -/
  opened  : Bool := false
  /-- The CRC-8 over the bytes since the last START (R507). -/
  crc     : Nat := 0
  /-- A failure discards the operations that follow, up to the next STOP. -/
  discard : Bool := false
  deriving DecidableEq, Repr

/-- The control ports beside their registers. -/
structure Wire where
  /-- The bytes TWT returned last. -/
  twtOut     : List (BitVec 8) := []
  /-- A check-byte error since the last STATUS (R506). -/
  pecSeen    : Bool := false
  /-- The bytes SPIT returned last. -/
  spitOut    : List (BitVec 8) := []
  /-- The sticky bits of R524: FORMAT 1, DROP 2, REFUSED 4, CRC_ERR 8. -/
  sticky     : Nat := 0
  /-- SPIT's EN is written 0 through SPIT itself; it acts at the end of the frame (R50). -/
  spitOff    : Bool := false
  /-- The byte that QSPI.XFER clocked out last (R529). -/
  qspiOut    : BitVec 8 := 0
  /-- The bytes of the last notify message, up to the one that ended it, and the first tick of the next (R513). -/
  notifyOut  : List (BitVec 8) := []
  notifyAt   : Nat := 0
  /-- A read of QSPI.XFER waits for the transfer to end (R529). -/
  qspiReader : Option Master := none
  deriving DecidableEq, Repr

/-! ### Secrecy and images (chapter 21) -/

/-- The security engine and the OTP's programmer beside their registers. -/
structure Sec where
  /-- Checks under way: master number and REQ. -/
  runs     : Sparse Nat := []
  /-- Masters, by number, that hold a challenge. -/
  chal     : List Nat := []
  /-- By master number: the tick of its last failed check. -/
  failAt   : Sparse (Option Nat) := []
  /-- The vendor's and the owner's part of a TEST unlock have passed (R577). -/
  vendorOk : Bool := false
  ownerOk  : Bool := false
  /-- The word being programmed and the bits to set in it. -/
  otpProg  : Option (Nat × Word) := none
  deriving DecidableEq, Repr

/-- The image loader (R580 to R583). -/
structure ImgEng where
  /-- TYPE, ROLLBACK and LENGTH of the image being applied. -/
  ty       : Nat := 0
  rollback : Nat := 0
  length   : Nat := 0
  /-- Register lists still to be committed: section index and entries (byte address, value). -/
  lists    : List (Nat × List KeyVal) := []
  /-- Anvils whose START section has the GO flag. -/
  gos      : List Nat := []
  /-- The serial of the register-list weld that has been committed, and its section. -/
  weld     : Option (Nat × Nat) := none
  /-- The load of step 6 of R643. -/
  boot     : Bool := false
  /-- The boot scratch: the entries of PAIR_LIST and SOLO_LIST (R582). -/
  pairList : List KeyVal := []
  soloList : List KeyVal := []
  deriving DecidableEq, Repr

/-! ### The masters' side of the control fabric (chapter 02) -/

/-- What the control fabric keeps for the masters, by master number. -/
structure Fabric where
  /-- The word the master's last read returned. -/
  readData : Sparse Word := []
  /-- A held LO word (R69): its key and value. -/
  held     : List (Nat × KeyVal) := []
  /-- A HI snapshot (R68): the key of the HI word and the latched value. -/
  snaps    : List (Nat × KeyVal) := []
  /-- The words of frozen pages: key and the value it had when FREEZE was set (R53). -/
  frozen   : List KeyVal := []
  /-- Pages in a soft reset (R51). -/
  busy     : List Nat := []
  /-- Writes refused by a busy page, to be recorded when BUSY falls: page and word (R51). -/
  busyErr  : List (Nat × Nat) := []
  /-- Captures overwritten since a master's LO read: master and channel (R113). -/
  capStale : List (Nat × Nat) := []
  deriving DecidableEq, Repr

/-! ### The pair (chapter 20) -/

/-- A message sent and not yet acknowledged (R545): the message, how often it has been sent, and the stroke it was last sent in. -/
structure OutMsg where
  msg  : Message
  sends : Nat := 0
  last : Nat := 0
  deriving DecidableEq, Repr

/-- A change that the lead's default route applies to both devices of a pair (R641). -/
structure PairJob where
  /-- What the follower's half and its capture commands need, as writes over R546: byte address and value; `none` stands for the
  identifier its WELD.OPEN returned. -/
  msgs : List (Nat × Option Word)
  /-- The lead's own half. -/
  own  : List (List KeyVal)
  /-- SEQ of the request whose RESULT the job waits for; `none` before it begins. -/
  seq  : Option Nat := none
  /-- The follower's identifier, once its WELD.OPEN has answered. -/
  id   : Option Nat := none
  /-- Serial of the lead's half, once committed. -/
  weld : Option Nat := none
  deriving DecidableEq, Repr

/-- The link and the pairing unit beside their registers. -/
structure Pair where
  /-- 256 valid idle sets have come (R536), and the round trips of the PINGs so far. -/
  trained  : Bool := false
  rtts     : List Nat := []
  /-- The next superframe's SFSEQ, the low bits of the last valid one received, and the first stroke whose superframe is still to send. -/
  sfseq    : Nat := 0
  sfack    : Nat := 0xFFFF
  nextSf   : Nat := 0
  /-- Control fields are encrypted and acted on (R540). -/
  secure   : Bool := false
  /-- Per class WELD, REG and PAIR: the next SEQ to give and the next one expected (R545). -/
  txSeq    : List Nat := [0, 0, 0]
  rxSeq    : List Nat := [0, 0, 0]
  out      : List OutMsg := []
  /-- The superframe assembled last. -/
  sent     : Option Superframe := none
  /-- The valid superframe of the current stroke, and whether any has come (R539). -/
  got      : Option Superframe := none
  /-- The first stroke whose superframe from the partner is neither received nor missed (R539). -/
  judged   : Nat := 0
  /-- VHK.SLOT as it took effect (R541), and the RX slots whose last stroke was missing (R543). -/
  slots    : Word := 0
  missing  : Nat := 0
  /-- Billets in transit and the tick at which their superframe has left (R542). -/
  transit  : List Nat := []
  leftAt   : Nat := 0
  /-- A superframe of lower epoch has come since the last valid one (R562). -/
  oldSeen  : Bool := false
  /-- The attach: the state, acting role and epoch before it, the tick of its beginning, and the identity accepted (R555, R556). -/
  before   : Nat := 0
  wasLead  : Bool := false
  epoch0   : Nat := 0
  attachAt : Option Nat := none
  failAt   : Option Nat := none
  adopt    : Bool := false
  peer     : Option Nat := none
  /-- The partner's identity. -/
  peerId   : Nat := 0
  /-- The partner's last heartbeat: STATUS and STATE, and the tick of the last valid superframe. -/
  hbStatus : Nat := 0
  hbState  : Nat := 0
  seenAt   : Nat := 0
  /-- D_OWN at the last boundary; those sent in the last four superframes, by SFSEQ; the partner's D_OWN received last (R551, R552). -/
  dOwn     : Nat := 0
  owns     : List (Nat × Nat) := []
  peerOwn  : Nat := 0
  /-- The last four matches received, and sent. -/
  matchIn  : List Bool := []
  matchOut : List Bool := []
  /-- The stroke in which DIG_OK last read 1, or LIVE began. -/
  okAt     : Nat := 0
  /-- Logged changes of the own image, oldest first, and the sweep pointer (R550). -/
  log      : List Nat := []
  sweep    : Nat := 0
  /-- The survivor is adopting: the next word of the mirror to send, and whether ADOPT_END has been queued (R557). -/
  adopting : Bool := false
  adoptPos : Nat := 0
  adoptEnd : Bool := false
  /-- The joiner: the words received; whether the mute waits for the boundary; the STG words still to be applied, image index first;
  the serial of the running adoption weld. -/
  words    : Sparse Word := []
  muteNext : Bool := false
  /-- The former partner's Tongs field as it stood when ADOPT_END came (R557, step 8). -/
  adoptCoils : Sparse CoilReport := []
  left     : List (Nat × KeyVal) := []
  weld     : Option Nat := none
  /-- The adoption mute (R557), and the condition of R564 from entry to ORPHAN until LIVE. -/
  adoptMute : Bool := false
  orphan   : Bool := false
  orphanMute : Bool := false
  /-- The partner's Tongs field, by channel: Tc, Tm, A and flags (R548). -/
  coils    : Sparse CoilReport := []
  /-- The target of an orderly detach (R565). -/
  detach   : Option Nat := none
  /-- The serial of the pair profile's own half, and the SEQ of the outstanding REG request (R546, R558). -/
  prof     : Option Nat := none
  rreq     : Option Nat := none
  /-- The outstanding request is a READ. -/
  rread    : Bool := false
  /-- DEAD_STROKES as it took effect. -/
  dead     : Nat := 6
  /-- Changes of the default route that wait to be applied to both devices, the first one under way. -/
  jobs     : List PairJob := []
  deriving DecidableEq, Repr

/-! ### Test and loop-backs (chapter 23) -/

/-- The running loop (R604): IFACE, INST and DEPTH, the boundary tick at which it starts, a STOP waiting for the boundary, whether it has
reached RUN, and the cause of its first failure. -/
structure Loop where
  iface   : Nat
  inst    : Nat
  depth   : Nat
  start   : Nat
  stopReq : Bool := false
  ran     : Bool := false
  cause   : Nat := 0
  deriving DecidableEq, Repr

/-- The test unit and the JTAG port beside the TEST page. -/
structure TestUnit where
  loop   : Option Loop := none
  /-- Injected events that wait: in the next audit, and in the next billet read (R608). -/
  injLedger : Bool := false
  injCe  : Bool := false
  injUe  : Bool := false
  /-- The JTAG instruction (R609), the word last read through the access register (R610), and the preloaded boundary register. -/
  ir     : Nat := 1
  dr     : Word := 0
  bound  : Nat := 0
  deriving DecidableEq, Repr

/-! ### The default route (chapter 25) -/

/-- A source change under way (R642): the new source, the stroke b of step 1, and what comes next: 1 boundary b, 2 the weld of step 2,
3 boundary b + 4, 4 the completion. -/
structure SourceChange where
  target : Nat
  base   : Nat
  next   : Nat := 1
  deriving DecidableEq, Repr

/-- The boot ROM's progress and the default route beside SYS.BOOT and SYS.DROUTE. -/
structure Boot where
  /-- The last step of R643 that has been completed; 8 once the sequence has ended. -/
  step    : Nat := 0
  /-- The load of step 6 has begun. -/
  loading : Bool := false
  change  : Option SourceChange := none
  /-- The source request held last while a change runs (R642). -/
  held    : Option Nat := none
  /-- The stroke in which the SOURCE key last asked for a source (R642). -/
  srcKeyAt : Option Nat := none
  /-- The tick at which a held volume key repeats (R640). -/
  keyAt   : Option Nat := none
  deriving DecidableEq, Repr

/-! ### Power, clocks and timebase (chapters 03 and 04) -/

/-- What the general pins hold through a stay in BANKED or EMBER (R532): GPIO's words as it began. -/
structure GpHold where
  func0 : BitVec 32
  func1 : BitVec 32
  out   : BitVec 32
  pull  : BitVec 32
  deriving DecidableEq, Repr

/-- What the power control, the clock monitor and the timebase hold beside their registers. -/
structure Power where
  /-- The device is in COLD. -/
  cold      : Bool := false
  /-- A request waiting for the running transition (R80): its REQ code. -/
  heldReq   : Option Nat := none
  /-- The transition under way: its target code. -/
  target    : Option Nat := none
  /-- The bucks have stopped: an entry to sleep has reached step 3 of R77 (R81). -/
  bucksOff  : Bool := false
  /-- The device wakes: its power is back, and PWR.STAT.STATE still names the state it leaves, until PLLA has locked (R83). -/
  waking    : Bool := false
  /-- VSYS is below 2.80 V since this tick (R100). -/
  vsysLowAt : Option Nat := none
  /-- VAON stands below 2.96 V. -/
  vaonLow   : Bool := false
  /-- VAON has risen through 2.96 V: the tick at which it has stayed there for 2 ms (R102). -/
  braceDue  : Option Nat := none
  /-- BRACE is in force at the clamps and welds, from the first boundary after entry (R101, R102). -/
  braceAtBoundary : Bool := false
  /-- The timebase is carried by the slow clock (R108). -/
  slowTb    : Bool := false
  /-- Fabric runs from the fast RC oscillator after a clock loss (R88). -/
  onRc      : Bool := false
  /-- Strokes in a row with the PLLB error within 2 ppm. -/
  pllbRun   : Nat := 0
  /-- The tick at which PLLB's pull last moved (R91). -/
  pllbAt    : Nat := 0
  /-- The replicas of the timebase that are off it, by unit, and how far (R106): 0 the control fabric's, 1 and 2 those of the stage dies. -/
  tbOff     : Sparse Int := []
  /-- The tick of the last broadcast to the replicas (R106). -/
  bcastAt   : Nat := 0
  /-- Domains with a running clock beyond those that always run (R97), rising. -/
  clkOn     : List Nat := []
  /-- Consecutive measured strokes with error within 2 ticks (R128). -/
  syncRun   : Nat := 0
  /-- The follower has set LOCK once (R128). -/
  wasLocked : Bool := false
  /-- The alarm has fired for the value PWR.ALARM holds, or that value had passed when it was written. -/
  alarmDone : Bool := false
  pswEn     : Bool := true
  /-- In sleep: what the general pins hold. -/
  gpHeld    : Option GpHold := none
  /-- VIO is out of range (R615). -/
  vioLost   : Bool := false
  /-- The straps as read when the device left COLD (R619): DEF2:DEF0, ROLE1:ROLE0 and ADDR1:ADDR0. -/
  strapDef  : Nat := 0
  strapRole : Nat := 0
  strapAddr : Nat := 0
  deriving DecidableEq, Repr

/-! ### The device -/

/-- The state of the machine. -/
structure State where
  /-- The waiting commands, first in, first out. -/
  pending  : List Instr := []
  /-- Every register word that does not hold its reset value; see `Machine.RegTable`. -/
  words    : Sparse Word := []
  /-- The timebase: a 64-bit count of ticks (R105). -/
  tb       : Nat := 0
  /-- The last stroke boundary that has been handled: its tick. -/
  boundary : Nat := 0
  /-- The model's own counter of free values. -/
  free     : Nat := 0
  fabric   : Fabric := {}
  power    : Power := {}
  weld     : WeldEng := {}
  /-- Armed and fired-pending entries of the scheduler, by index. -/
  sched    : List SchedEntry := []
  schedOrder : Nat := 0
  /-- The tick at which the scheduler dispatched last, and how many actions it has dispatched in it (R122). -/
  schedTick : Nat := 0
  schedCnt  : Nat := 0
  fault    : FaultEng := {}
  stock    : Stock := {}
  chans    : Sparse Chan := []
  dieA     : Die := {}
  dieB     : Die := {}
  trk      : Tracker := {}
  /-- Ring tests planned or running, by channel. -/
  ring     : Sparse RingTest := []
  hpo      : Hpo := {}
  jack     : Jack := {}
  /-- SAP sides: SAPn TX at 2n and RX at 2n + 1; the IEC 60958 receiver at 12. -/
  sides    : Sparse Side := []
  asrc     : Sparse Asrc := []
  capts    : Sparse Capt := []
  wake     : WakeEng := {}
  /-- CLK0_RATE and CLK1_RATE of PDM.IF as they took effect at the last boundary (R222). -/
  pdmRate  : Nat := 3
  patch    : Patch := {}
  incs     : Sparse Chain := []
  fins     : Sparse Chain := []
  ports    : Sparse MixPort := []
  nodes    : Sparse MixNode := []
  /-- Output strokes staged for the stroke weld: outputs 0 to 15 are the driver channels, 16 and 17 the headphone's left and right. -/
  outs     : Sparse (List Word) := []
  /-- The stroke that each output plays, as it was published last (R30, R176). -/
  pub      : Sparse (List Word) := []
  anvs     : Sparse Anv := []
  /-- By bench: the anvil of it whose copy its Stock port serves, or served last (R286). -/
  portTurn : Sparse Nat := []
  /-- By bench: the tick at which VARR has settled after a write that raised the bench's rate (R303). -/
  varrAt   : Sparse Nat := []
  tongs    : Tongs := {}
  auxs     : Sparse Aux := []
  twcs     : Sparse Twc := []
  wire     : Wire := {}
  sec      : Sec := {}
  img      : ImgEng := {}
  pair     : Pair := {}
  tst      : TestUnit := {}
  boot     : Boot := {}
  deriving DecidableEq, Repr

/-- The machine right after a power-on reset (R43): every register at its reset value, every engine idle, the Stock FREE.
(Log entries 1: DESIGN CHOICE, 7: DESIGN CHOICE.) -/
def State.reset : State := {}

end Sys2Proof.Machine
end

