-- ==== Sys2Proof/Machine/Ops.lean ====
section
/-!
DEFINITION. The named operations over register words, interrupts, counters, time, masters and rights. No other file reads or writes
`State.words` directly.
-/

namespace Sys2Proof.Machine

/-! ### Register words -/

/-- The value of the word with key `k`. -/
def State.w (s : State) (k : Nat) : Word := s.words.get (resetWord k) k

/-- `s` with word `k` holding `v`; the store keeps its canonical form. -/
def State.setW (s : State) (k : Nat) (v : Word) : State := { s with words := s.words.set (resetWord k) k v }

/-- The field of `len` bits at bit `lo` of word `k`. -/
def State.f (s : State) (k lo len : Nat) : Nat := bits (s.w k) lo len

/-- Bit `i` of word `k`. -/
def State.b (s : State) (k i : Nat) : Bool := bit (s.w k) i

/-- `s` with the field of `len` bits at bit `lo` of word `k` holding `v` modulo 2^len. -/
def State.setF (s : State) (k lo len v : Nat) : State := s.setW k (putBits (s.w k) lo len v)

/-- `s` with bit `i` of word `k` set or cleared. -/
def State.setB (s : State) (k i : Nat) (v : Bool) : State := s.setF k i 1 (b2n v)

/-- `s` with the saturating counter in the field of `len` bits at `lo` of word `k` raised by `n`. -/
def State.addF (s : State) (k lo len n : Nat) : State := s.setF k lo len (satU (2 ^ len - 1) (s.f k lo len + n))

/-- `s` with a saturating counter raised by one. -/
def State.incF (s : State) (k lo len : Nat) : State := s.addF k lo len 1

/-- `s` with every word of `l` written in order. -/
def State.setWs (s : State) (l : List KeyVal) : State := l.foldl (fun s kv => s.setW kv.1 kv.2) s

/-- `s` with the listed words back at their reset values. -/
def State.resetKeys (s : State) (p : Nat → Bool) : State := { s with words := s.words.filter fun kv => !p kv.1 }

/-! ### Interrupt causes and errors (R54, R64) -/

/-- Cause `n` of page `p` occurs: its IRQ_PEND bit sets. -/
def State.event (s : State) (p n : Nat) : State := s.setB (Regs.IRQ_PEND p) n true

/-- Cause `n` of page `p` is present, or no longer present: IRQ_RAW follows, and a present cause sets IRQ_PEND. -/
def State.level (s : State) (p n : Nat) (v : Bool) : State :=
  let s := s.setB (Regs.IRQ_RAW p) n v
  if v then s.event p n else s

/-- The error codes of R64. -/
def errAccess : Nat := 1
/-- Reserved or out-of-range value, or a refused start. -/
def errRange : Nat := 2
/-- Write to a locked word. -/
def errLocked : Nat := 3
/-- Direct write while DIRECT_OK is 0. -/
def errDirect : Nat := 4
/-- Reserved page, word or bit. -/
def errReserved : Nat := 5
/-- Write during a soft reset. -/
def errBusy : Nat := 6
/-- A write that is not STG while a weld is selected. -/
def errNotWeldable : Nat := 7
/-- Write to a register none of whose fields is writable. -/
def errReadOnly : Nat := 8

/-- PG_ERR of page `p` records `code` for the word at byte offset `off` of page `at_` (R64). -/
def State.errOn (s : State) (p at_ off code : Nat) : State :=
  s.setW (Regs.PG_ERR p) (Word.of (at_ * 65536 + off / 4 % 256 * 256 + code))

/-- PG_ERR of page `p` records `code` for its own word at byte offset `off`. -/
def State.err (s : State) (p off code : Nat) : State := s.errOn p p off code

/-- A refusal with RANGE of a command to the register at `off` of page `p`. -/
def State.range (s : State) (p off : Nat) : State := s.err p off errRange

/-- A field that counts modulo 2^32. -/
def State.count32 (s : State) (k : Nat) : State := s.setW k (s.w k + 1)

/-! ### Time (R14 to R16, R110) -/

/-- One millisecond in ticks. -/
def tickMs : Nat := 98304

/-- The stroke length in ticks: 65,536 at 48 kHz and 32,768 at 96 kHz (R15). -/
def State.strokeLen (s : State) : Nat := if s.b Regs.CLK_HEARTH 0 then 32768 else 65536

/-- The current stroke number (R110). -/
def State.strokeNo (s : State) : Nat := s.tb / s.strokeLen

/-- Ticks of one hearth sample. -/
def State.sampleTicks (s : State) : Nat := s.strokeLen / 32

/-- The tick of stroke `k`'s boundary. -/
def State.boundaryTick (s : State) (k : Nat) : Nat := k * s.strokeLen

/-- The first stroke whose boundary is at or after tick `t`. -/
def State.strokeFrom (s : State) (t : Nat) : Nat := (t + s.strokeLen - 1) / s.strokeLen

/-- The first hearth sample at or after tick `t` (R648). -/
def State.sampleFrom (s : State) (t : Nat) : Nat := (t + s.sampleTicks - 1) / s.sampleTicks * s.sampleTicks

/-- The timebase counts 64 bits (R14). -/
def tbWrap (t : Nat) : Nat := t % 2 ^ 64

/-! ### Power states (R72) -/

/-- PWR.STAT.STATE codes. -/
def stBanked : Nat := 1
/-- EMBER. -/
def stEmber : Nat := 2
/-- WARM. -/
def stWarm : Nat := 3
/-- FORGING. -/
def stForging : Nat := 4

/-- The present power state's code. -/
def State.pst (s : State) : Nat := if s.power.cold then 0 else s.f Regs.PWR_STAT 0 3

/-- The device is in FORGING. -/
def State.forging (s : State) : Bool := s.pst == stForging

/-- The device is in WARM or FORGING. -/
def State.up (s : State) : Bool := s.pst == stWarm || s.pst == stForging

/-- The control fabric runs: in WARM and FORGING, and from step 3 of a wake on (R83). -/
def State.awake (s : State) : Bool := s.up || s.power.waking

/-- PWR.STAT.STATE is BANKED or EMBER. -/
def State.inSleep (s : State) : Bool := s.pst == stBanked || s.pst == stEmber

/-- The device is in BANKED or EMBER and does not wake. -/
def State.asleep (s : State) : Bool := s.inSleep && !s.power.waking

/-- The device is in EMBER and does not wake: the island alone runs. -/
def State.inEmber (s : State) : Bool := s.pst == stEmber && !s.power.waking

/-- The slow clock carries the count: in BANKED, in EMBER, through a wake up to PLLA's lock, and under R88 or R95 (R83, R108, R109). -/
def State.slowCarried (s : State) : Bool := s.inSleep || s.power.slowTb

/-- Time stands at tick `t` at least: an event that the specification times at `t` happens then. While the slow clock carries the count, it
moves on by steps of 3,000 (R108). (Log entry 4: DESIGN CHOICE.) -/
def State.reach (s : State) (t : Nat) : State :=
  if s.tb < t then { s with tb := tbWrap (if s.slowCarried then s.tb + (t - s.tb + 2999) / 3000 * 3000 else t) } else s

/-- The audio unit of page `p` runs: in FORGING, and in WARM while PG_CTRL.CLKREQ holds it (R72). -/
def State.audioOn (s : State) (p : Nat) : Bool := s.forging || (s.pst == stWarm && s.b (Regs.PG_CTRL p) 1)

/-- BRACE is in force (R101). -/
def State.braced (s : State) : Bool := s.b Regs.PWR_STAT 13

/-! ### Masters and rights (R56, R566) -/

/-- The number under which the fabric keeps a master's own words. (Log entry 13: DESIGN CHOICE.) -/
def masterNum : Master → Nat
  | .twt => 0 | .spit => 1 | .vhk => 2 | .jtag => 3 | .boot => 4 | .pair => 5 | .loader => 6 | .testAction => 7
  | .anvil n => 16 + n

/-- The key of the copy of word `k` kept for master `m`. (Log entry 13: DESIGN CHOICE.) -/
def perKey (m : Master) (k : Nat) : Nat := 0x1000000 * (1 + masterNum m) + k

/-- The life cycle is BLANK (R575). -/
def State.blank (s : State) : Bool := s.f Regs.SEC_LC 0 3 == 0

/-- The loader acts for the image it applies: owner unless the image is of type HOST (R583). -/
def State.loaderDomain (s : State) : Domain := if s.img.ty == 2 then .host else .owner

/-- The domain of an access by master `m` (R566). (Log entry 31: DESIGN CHOICE.) -/
def State.domainOf (s : State) : Master → Domain
  | .twt => if s.blank || s.b Regs.SEC_LC 4 then .owner else .host
  | .spit => if s.blank || s.b Regs.SEC_LC 5 then .owner else .host
  | .vhk => .twin
  | .jtag => .test
  | .testAction => .test
  | .boot => .owner
  | .pair => .owner
  | .loader => s.loaderDomain
  | .anvil n => if s.f (Regs.ANV_STAT n) 30 2 == 0 then .owner else .himg

/-- The port is in an owner session. -/
def State.inSession (s : State) : Master → Bool
  | .twt => s.b Regs.SEC_LC 4
  | .spit => s.b Regs.SEC_LC 5
  | _ => false

/-- The rights field of domain `d` on page `p` (R56): OWNER always holds 11. (Log entry 31: DESIGN CHOICE.) -/
def State.rights (s : State) (d : Domain) (p : Nat) : Nat :=
  match d with
  | .owner => 3
  | .host => s.f (Regs.PG_ACCESS p) 0 2
  | .twin => s.f (Regs.PG_ACCESS p) 2 2
  | .test => s.f (Regs.PG_ACCESS p) 4 2
  | .himg => s.f (Regs.PG_ACCESS p) 6 2

/-- The code of a domain in PG_EVT.LAST_DOM (R62). -/
def evtCode : Domain → Nat
  | .owner => 0 | .host => 0 | .twin => 1 | .test => 2 | .himg => 3

/-- A violation is counted in PG_EVT of page `p` (R59, R63). -/
def State.violation (s : State) (d : Domain) (p off : Nat) (isWrite : Bool) : State :=
  let k := Regs.PG_EVT p
  s.setW k (Word.of (evtCode d * 0x40000000 + b2n isWrite * 0x20000000 + off / 4 % 256 * 65536 + satU 0xFFFF (s.f k 0 16 + 1)))

/-- A forbidden access: PG_EVT counts it and PG_ERR records ACCESS (R59). -/
def State.forbid (s : State) (d : Domain) (p off : Nat) (isWrite : Bool) : State :=
  (s.violation d p off isWrite).err p off errAccess

/-- The word that the last read of master `m` returned. -/
def State.answer (s : State) (m : Master) (v : Word) : State :=
  { s with fabric := { s.fabric with readData := s.fabric.readData.set 0 (masterNum m) v } }

/-- The page is enabled: PG_CTRL.EN. -/
def State.en (s : State) (p : Nat) : Bool := s.b (Regs.PG_CTRL p) 0

/-- The page is in a soft reset (R51). -/
def State.pageBusy (s : State) (p : Nat) : Bool := s.fabric.busy.contains p

/-- The page takes no part: in reset, or its true enable is 0. -/
def State.pageOff (s : State) (p : Nat) : Bool := s.pageBusy p || !s.en p

/-- BUSY of page `p` has fallen: the writes it refused meanwhile are recorded with BUSY (R51). (Log entry 19: DEDUCED.) -/
def State.busyFlush (s : State) (p : Nat) : State :=
  let refused := s.fabric.busyErr.filter fun x => x.1 == p
  let s := { s with fabric := { s.fabric with busyErr := s.fabric.busyErr.filter fun x => x.1 != p } }
  refused.foldl (fun (s : State) (x : Nat × Nat) => s.err x.1 x.2 errBusy) s

/-- The model's own counter of free values, advanced. (Log entry 5: DESIGN CHOICE.) -/
def State.tickFree (s : State) : State := { s with free := s.free + 1 }

end Sys2Proof.Machine
end

