-- ==== Sys2Proof/Machine/FaultLog.lean ====
section
/-!
DEFINITION. The record side of the FAULT page (chapter 22): the central fault table's codes and classes, the log, the active faults and
their clearing. The device-level recoveries are in `Machine.Faults`.
-/

namespace Sys2Proof.Machine

/-! ### The central fault table (R589) -/

/-- The class of a fault code (R585, R589); LOAD_MISMATCH is listed as WARN here and raised as DEGRADE with STOPM set (R436). -/
def faultClass (code : Nat) : Nat :=
  if [0x30, 0x38, 0x3A, 0x3C, 0x40].contains code then 1
  else if [0x02, 0x04, 0x06, 0x10, 0x11, 0x28, 0x29, 0x2A, 0x31, 0x32, 0x39, 0x3F, 0x48, 0x49, 0x4A, 0x4B, 0x4C, 0x50, 0x51, 0x52,
    0x55].contains code then 2
  else if [0x05, 0x20, 0x21, 0x22, 0x23, 0x24, 0x25, 0x26, 0x27, 0x3B, 0x3D, 0x3E, 0x4D, 0x53, 0x54].contains code then 3
  else if [0x01, 0x03, 0x12, 0x60].contains code then 4
  else if [0x07, 0x08].contains code then 5
  else 0

/-- The fault is contained: marked (ch) in the table (R585). -/
def faultContained (code : Nat) : Bool := [0x21, 0x22, 0x23, 0x24, 0x39, 0x3B, 0x3E, 0x3F, 0x4C].contains code

/-- The fault is an event: logged and never active (clearing kind E, R590). -/
def faultEvent (code : Nat) : Bool := [0x04, 0x10, 0x30, 0x38, 0x3A, 0x3C, 0x40, 0x50, 0x55].contains code

/-- Faults that a write of FAULT.CLEAR may clear (clearing kind W, R590). -/
def faultKindW (code : Nat) : Bool := [0x01, 0x03, 0x12, 0x60].contains code

/-- A recovery's response includes a quench: class QUENCH (R591). -/
def faultQuenches (code : Nat) : Bool := faultClass code == 4

/-! ### The record -/

/-- The fault is active on that source. -/
def State.faultActive (s : State) (code src : Nat) : Bool := s.fault.active.any fun f => f.code == code && f.src == src

/-- The fault is active on that channel. -/
def State.faultActiveSub (s : State) (code src sub : Nat) : Bool := s.fault.active.contains { code, src, sub }

/-- A fault of class QUENCH is active (R587). -/
def State.quenchActive (s : State) : Bool := s.fault.active.any fun f => faultClass f.code == 4

/-- One log entry for the raising of a fault (R597), with its outcome; the island's record counts the classes QUENCH and HALT. -/
def State.logFault (s : State) (f : FaultId) (cls outcome : Nat) : State :=
  let e : LogEntry := { tb := s.tb, fid := f, cls := cls, outcome := outcome }
  let s := { s with fault := { s.fault with log := (e :: s.fault.log).take 16 } }
  let s := if cls ≥ 4 then (s.setF Regs.FAULT_ISL 16 8 f.code).incF Regs.FAULT_ISL 0 16 else s
  let s := if cls ≥ 2 then s.event 0x0D 0 else s
  if cls = 4 then s.event 0x0D 1 else s

/-- The fault becomes active on its source. -/
def State.activate (s : State) (f : FaultId) : State :=
  if s.fault.active.contains f then s else { s with fault := { s.fault with active := s.fault.active ++ [f] } }

/-- A fault that starts no recovery (class NOTE or WARN, or contained) of class `cls` is raised: outcome 0x5. A fault already active on
that source and channel is not raised again. -/
def State.raiseAs (s : State) (cls code src sub : Nat) : State :=
  let f : FaultId := { code, src, sub }
  if s.fault.active.contains f then s
  else
    let s := s.logFault f cls 5
    if faultEvent code then s else s.activate f

/-- A fault that starts no recovery, with its class from the table. -/
def State.raiseLocal (s : State) (code src sub : Nat) : State := s.raiseAs (faultClass code) code src sub

/-- The fault clears on that source and channel (R590): cause CLEARED. -/
def State.clearSub (s : State) (code src sub : Nat) : State :=
  let f : FaultId := { code, src, sub }
  if s.fault.active.contains f then
    { (s.event 0x0D 2) with fault := { s.fault with active := s.fault.active.filter (· != f) } }
  else s

/-- The fault clears on that source. -/
def State.clearFault (s : State) (code src : Nat) : State :=
  if s.faultActive code src then
    { (s.event 0x0D 2) with fault := { s.fault with active := s.fault.active.filter fun f => !(f.code == code && f.src == src) } }
  else s

/-- The newest log entry of that fault takes the outcome `o`. -/
def setOutcome (f : FaultId) (o : Nat) : List LogEntry → List LogEntry
  | [] => []
  | e :: t => if e.fid = f then { e with outcome := o } :: t else e :: setOutcome f o t

/-- The class an active fault was raised with: LOAD_MISMATCH has the class of its newest log entry, or STOPM's once the log has dropped
it (R436, R589). -/
def State.activeClass (s : State) (f : FaultId) : Nat :=
  if f.code = 0x3F then
    match s.fault.log.find? fun e => e.fid == f with
    | some e => e.cls
    | none => if s.b Regs.DIAG_EXPECT (16 + f.sub) then 3 else 2
  else faultClass f.code

/-- Highest class active: FAULT.STAT.HIGHEST. -/
def State.highestClass (s : State) : Nat := s.fault.active.foldl (fun a f => max a (s.activeClass f)) 0

/-- FAULT.STAT as the record gives it (R591, R594). -/
def State.faultStat (s : State) : Word :=
  Word.of ((match s.fault.recov with | none => 0 | some f => f.code) * 0x1000000 + s.fault.queue.length * 0x100000 +
    s.highestClass * 0x10000 + satU 255 s.fault.active.length * 256 +
    (match s.fault.log with | [] => 0 | e :: _ => e.fid.code))

/-- FAULT.ACTw: which codes 32w to 32w + 31 are active on any source. -/
def State.faultAct (s : State) (i : Nat) : Word :=
  Word.of (maskOf ((List.range 32).filter fun b => s.fault.active.any fun f => f.code == 32 * i + b))

/-- The two words of log entry `e` (R597). -/
def LogEntry.idWord (e : LogEntry) : Word :=
  Word.of (e.fid.code * 0x1000000 + e.fid.src % 256 * 0x10000 + e.cls * 0x1000 + e.outcome * 0x100 + e.fid.sub % 256)

end Sys2Proof.Machine
end

