-- ==== Sys2Proof/Machine/Stock.lean ====
section
/-!
DEFINITION. The Stock and its queues (chapter 05): credits, puts, takes, releases, ring queues, descriptor writes, ECC and QUARANTINE,
retention, and the ledger's six terms.
-/

namespace Sys2Proof.Machine

/-! ### Tags and descriptors -/

/-- MISSING (R135). -/
def flMissing : Nat := 1
/-- MUTED. -/
def flMuted : Nat := 2
/-- CONCEALED. -/
def flConcealed : Nat := 4
/-- FILLED. -/
def flFilled : Nat := 8
/-- RETAINED. -/
def flRetained : Nat := 16
/-- QUARANTINED. -/
def flQuarantined : Nat := 32

/-- The tag as its 8 bytes' value (R133). -/
def Tag.word64 (t : Tag) : Nat :=
  t.stamp % 2 ^ 32 + t.count % 256 * 2 ^ 32 + t.offset % 256 * 2 ^ 40 + t.domain % 4 * 2 ^ 48 + t.flags % 64 * 2 ^ 50 +
    b2n t.packed * 2 ^ 56

/-- The tag that 8 bytes hold. -/
def Tag.ofWord64 (v : Nat) : Tag :=
  { stamp := v % 2 ^ 32, count := v >>> 32 % 256, offset := v >>> 40 % 256, domain := v >>> 48 % 4, flags := v >>> 50 % 64,
    packed := v.testBit 56 }

/-- Samples of a full billet: 16, or 32 when packed (R131, R132). -/
def fullCount (packed : Bool) : Nat := if packed then 32 else 16

/-- Queue `q`. -/
def State.queue (s : State) (q : Nat) : Queue := s.stock.queues.get {} q

/-- `s` with queue `q` replaced. -/
def State.setQueue (s : State) (q : Nat) (x : Queue) : State :=
  { s with stock := { s.stock with queues := s.stock.queues.set {} q x } }

/-- DEPTH of a descriptor. -/
def Queue.depth (x : Queue) : Nat := bits x.cfg 0 16
/-- The queue is a RING. -/
def Queue.isRing (x : Queue) : Bool := bit x.cfg 29
/-- Packed billets (R132). -/
def Queue.packed (x : Queue) : Bool := bit x.cfg 28
/-- Pinned to a slab. -/
def Queue.pin (x : Queue) : Bool := bit x.cfg 27
/-- The slab of a pinned queue. -/
def Queue.slab (x : Queue) : Nat := bits x.cfg 23 4
/-- The domain stamped on puts. -/
def Queue.domain (x : Queue) : Nat := bits x.cfg 30 2
/-- The producer's unit identifier. -/
def Queue.producer (x : Queue) : Nat := bits x.ends 16 16
/-- The consumer's unit identifier. -/
def Queue.consumer (x : Queue) : Nat := bits x.ends 0 16
/-- The queue is enabled. -/
def Queue.on (x : Queue) : Bool := x.depth != 0
/-- ISSUED - RETURNED = OUTSTANDING (R136). -/
def Queue.outstanding (x : Queue) : Nat := (x.issued - x.returned).toNat
/-- Billets waiting for the consumer, placed ones included. -/
def Queue.held (x : Queue) : Nat := x.waiting.length + x.placed.length

/-- An input stream's queue: its producer is a capture channel (R233); an LP microphone path is none (R445). -/
def Queue.isInput (x : Queue) : Bool :=
  let u := x.producer / 256
  let c := x.producer % 256
  (decide (0x10 ≤ u ∧ u < 0x16) && decide (16 ≤ c ∧ c < 32)) || (u == 0x17 && decide (c < 2)) || (u == 0x24 && decide (c < 16)) ||
    (u == 0x26 && decide (c < 4))

/-- The queue leads from the placement stage, that is a capture stream, a rate converter or a conditioning chain, to a forging unit, that is
an anvil, a mixer port or a finishing chain: what is put on it in a stroke is forged in the next (R25). -/
def Queue.gap (x : Queue) : Bool :=
  let u := x.producer / 256
  let c := x.consumer / 256
  (x.isInput || decide (0x18 ≤ u ∧ u < 0x24) || decide (0x30 ≤ u ∧ u < 0x48)) &&
    (decide (0x80 ≤ c ∧ c < 0xC0) || c == 0x09 || decide (0x48 ≤ c ∧ c < 0x59))

/-- A unit identifier: page index and sub-unit. -/
def unitId (page sub : Nat) : Nat := page * 256 + sub

/-- The location record of billet `b`. -/
def State.own (s : State) (b : Nat) : Option Own := (s.stock.own.find? fun x => x.1 == b).map (·.2)

/-- Billet `b`'s contents. -/
def State.billet (s : State) (b : Nat) : Billet := s.stock.mem.get {} b

/-- `s` with billet `b` holding `x`. -/
def State.setBillet (s : State) (b : Nat) (x : Billet) : State :=
  { s with stock := { s.stock with mem := s.stock.mem.set {} b x } }

/-- `s` with billet `b` located by `o`. -/
def State.setOwn (s : State) (b : Nat) (o : Own) : State :=
  { s with stock := { s.stock with own := Sparse.put s.stock.own b o } }

/-- `s` with no location record for billet `b`. -/
def State.dropOwn (s : State) (b : Nat) : State :=
  { s with stock := { s.stock with own := s.stock.own.filter fun x => x.1 != b } }

/-- Sum of the depths of all enabled queues: STOCK.BUDGET.COMMITTED (R139). -/
def State.committed (s : State) : Nat := s.stock.queues.foldl (fun a q => a + q.2.depth) 0

/-- Sum of the depths of the queues pinned to slab `sl`. -/
def State.pinned (s : State) (sl : Nat) : Nat :=
  s.stock.queues.foldl (fun a q => if q.2.pin && q.2.slab == sl then a + q.2.depth else a) 0

/-- Billet `b` is FREE (R144). -/
def State.isFree (s : State) (b : Nat) : Bool :=
  decide (b < 65536) && !(s.stock.own.any fun x => x.1 == b) && !s.stock.quar.contains b

/-- The lowest number from `b` on that is no key of `l`, whose keys rise. -/
def gapFrom : List (Nat × Own) → Nat → Nat
  | [], b => b
  | x :: l, b => if x.1 < b then gapFrom l b else if x.1 = b then gapFrom l (b + 1) else b

/-- The lowest-numbered FREE billet that queue `x` may draw (R139). (Log entry 35: DEDUCED.) -/
def State.freeFor (s : State) (x : Queue) : Option Nat :=
  let lo := if x.pin then x.slab * 4096 else 0
  let hi := if x.pin then lo + 4096 else 65536
  let lo := gapFrom s.stock.own lo
  ((List.range (s.stock.own.length + s.stock.quar.length + 1)).map (· + lo)).find? fun b => decide (b < hi) && s.isFree b

/-- The six terms of R144: FREE, queue-held, anvil-held, weld-staged, in transit, QUARANTINE. -/
structure Terms where
  free : Nat
  queue : Nat
  anvil : Nat
  weld : Nat
  link : Nat
  quar : Nat
  deriving DecidableEq, Repr

/-- How many location records satisfy `p`. -/
def State.countLoc (s : State) (p : Loc → Bool) : Nat := (s.stock.own.filter fun x => p x.2.loc).length

/-- The term a location counts in (R144): 0 queue-held, 1 anvil-held, 2 weld-staged, 3 in transit. -/
def Loc.term : Loc → Nat
  | .anvil _ _ => 1
  | .staged => 2
  | .played => 2
  | .transit => 3
  | _ => 0

/-- The six terms as the location records and QUARANTINE give them. -/
def State.terms (s : State) : Terms :=
  { free := 65536 - s.stock.own.length - s.stock.quar.length
    queue := s.countLoc fun l => l.term == 0
    anvil := s.countLoc fun l => l.term == 1
    weld := s.countLoc fun l => l.term == 2
    link := s.countLoc fun l => l.term == 3
    quar := s.stock.quar.length }

/-! ### Credits (R136 to R143) -/

/-- Draw a FREE billet for queue `q` at location `l`; ISSUED counts it. A refusal for want of a FREE billet counts in SHORT (R140). -/
def State.draw (s : State) (q : Nat) (l : Loc) : Option Nat × State :=
  let x := s.queue q
  match s.freeFor x with
  | none => (none, (s.incF Regs.STOCK_EVT 0 16).event 0x06 2)
  | some b => (some b, (s.setOwn b { queue := q, loc := l, gen := x.gen }).setQueue q { x with issued := x.issued + 1 })

/-- A credit for queue `q` (R137): granted only on an enabled STREAM queue while OUTSTANDING is below DEPTH, and never while the Stock is
being rebuilt. -/
def State.grant (s : State) (q : Nat) (l : Loc) : Option Nat × State :=
  let x := s.queue q
  if s.stock.rebuilding || x.isRing || decide (x.depth ≤ x.outstanding) then (none, s) else s.draw q l

/-- The location records of the stroke weld's output billets name numbers from here on, which are no queues (R144). -/
def noQueue : Nat := 1024

/-- RETURNED of queue `q` increments; an output billet of the stroke weld has no queue. -/
def State.creditBack (s : State) (q : Nat) : State :=
  if noQueue ≤ q then s else s.setQueue q { s.queue q with returned := (s.queue q).returned + 1 }

/-- A billet returns to FREE and RETURNED of its queue increments (R137). A billet with no location record is left alone. -/
def State.release (s : State) (b : Nat) : State :=
  match s.own b with
  | none => s
  | some o =>
    let t := (s.billet b).tag
    ((s.dropOwn b).creditBack o.queue).setBillet b { s.billet b with tag := { t with flags := t.flags &&& 0x2F } }

/-- Billet `b` is still held under the grant of queue `q` with generation `gen`. -/
def State.grantStands (s : State) (q b gen : Nat) : Bool :=
  match s.own b with
  | none => false
  | some o => o.queue == q && o.gen == gen

/-- A grant goes back unused: its billet returns to FREE where it is still held under that grant. -/
def State.returnGrant (s : State) (q b gen : Nat) : State := if s.grantStands q b gen then s.release b else s

/-- A refused put of billet `b`, granted for queue `q` with generation `gen`: the billet returns to FREE where it has not returned before,
and STALE_PUT counts (R142). A billet that has meanwhile been granted anew is left to its new grant. -/
def State.stalePut (s : State) (q b gen : Nat) : State := ((s.returnGrant q b gen).incF Regs.STOCK_EVT 16 16).event 0x06 3

/-- A put of billet `b`, granted for queue `q` with generation `gen`, is refused (R142, R148). -/
def State.putRefused (s : State) (q b gen : Nat) : Bool :=
  !s.grantStands q b gen || gen != (s.queue q).gen || !(s.queue q).on

/-- The words of a billet whose samples beyond COUNT read zero (R133). -/
def clipData (t : Tag) (data : List Word) : List Word :=
  if t.packed then
    (List.range (min data.length (min 16 ((t.count + 1) / 2)))).map fun j =>
      if 2 * j + 1 < t.count then data.getD j 0 else Word.of (bits (data.getD j 0) 0 16)
  else data.take (min 16 t.count)

/-- The put of billet `b`, granted with generation `gen`, on queue `q` with the producer's tag and samples (R137, R142, R143): DOMAIN and
PACKED come from the queue, samples beyond COUNT read zero. A put of a billet of the queue that has been put before is taken like any
other. (Log entry 86: DESIGN CHOICE.) -/
def State.put (s : State) (q b gen : Nat) (t : Tag) (data : List Word) : State :=
  let x := s.queue q
  match s.own b with
  | none => s.stalePut q b gen
  | some o =>
    if s.putRefused q b gen then s.stalePut q b gen
    else
      let t := { t with domain := x.domain, packed := x.packed, flags := t.flags &&& 0x0F, stamp := t.stamp % 2 ^ 32 }
      ((s.setBillet b { tag := t, data := clipData t data }).setOwn b { o with loc := .waiting }).setQueue q
        { x with waiting := x.waiting ++ [.billet b], lastTag := some t, fresh := x.fresh + (if x.gap && !x.isInput then 1 else 0) }

/-- Grant and put in one go, for a producer that fills a billet as it draws it; `none` when no credit is given. -/
def State.produce (s : State) (q : Nat) (t : Tag) (data : List Word) : Bool × State :=
  match s.grant q .producer with
  | (none, s) => (false, s)
  | (some b, s) => (true, s.put q b (s.queue q).gen t data)

/-- Samples of a billet as Q1.31 words, `COUNT` of them, the rest zero; a packed sample takes bits [31:16] (R131, R132). -/
def Billet.samples (b : Billet) : List Word :=
  if b.tag.packed then
    (List.range 32).map fun j =>
      if j < b.tag.count then Word.of (bits (b.data.getD (j / 2) 0) (16 * (j % 2)) 16 * 65536) else 0
  else (List.range 16).map fun j => if j < b.tag.count then b.data.getD j 0 else 0

/-- Words of a billet holding the given Q1.31 samples, packed or not. -/
def packSamples (packed : Bool) (l : List Word) : List Word :=
  if packed then
    (List.range ((l.length + 1) / 2)).map fun j =>
      Word.of (bits (l.getD (2 * j) 0) 16 16 + bits (l.getD (2 * j + 1) 0) 16 16 * 65536)
  else l

/-- Every billet of queue `q`. -/
def State.billetsOf (s : State) (q : Nat) : List Nat := (s.stock.own.filter fun x => x.2.queue == q).map (·.1)

/-- The billet at ring index `i` of queue `q` (R138). -/
def State.ringBillet (s : State) (q i : Nat) : Option Nat :=
  (s.stock.own.find? fun x => x.2.queue == q && x.2.loc == .ring i).map (·.1)

/-- A RING queue draws zero-filled billets for the ring indices of `l` (R138, R141); an index for which FREE is empty stays without one. -/
def State.drawRing (s : State) (q : Nat) (l : List Nat) : State :=
  l.foldl (fun s i =>
    match s.draw q (.ring i) with
    | (none, s) => s
    | (some b, s) => s.setBillet b {}) s

/-- Return every billet of `l` to FREE, counting them in DRAINED of queue `q` (R141). -/
def State.drain (s : State) (q : Nat) (l : List Nat) : State :=
  let s := l.foldl (fun s b => s.release b) s
  let x := s.queue q
  s.setQueue q { x with drained := satU 0xFFFF (x.drained + l.length) }

/-- DEPTH 0 disables a queue: every billet returns, the credit counters become equal and GEN increments (R141). -/
def State.disableQueue (s : State) (q : Nat) : State :=
  let s := s.drain q (s.billetsOf q)
  let x := s.queue q
  s.setQueue q { x with
    cfg := putBits x.cfg 0 16 0, returned := x.issued, waiting := [], placed := [], fresh := 0, place := {}, gen := (x.gen + 1) % 256,
    lastTag := none }

/-- The limit of R139 admits queue `q` with descriptor `cfg`. -/
def State.depthAdmitted (s : State) (q : Nat) (cfg : Word) : Bool :=
  let old := (s.queue q).depth
  let new := bits cfg 0 16
  decide (s.committed - old + new ≤ 65536 - s.stock.quar.length) &&
    (!bit cfg 27 || decide (s.pinned (bits cfg 23 4) - (if (s.queue q).pin then old else 0) + new ≤ 4096))

/-- A write of QD_CFG of queue `q` would be refused with RANGE (R139, R141). -/
def State.qdCfgRefused (s : State) (q : Nat) (v : Word) : Bool :=
  let x := s.queue q
  let new := bits v 0 16
  if x.on then
    (v.toNat - new != x.cfg.toNat - x.depth) || (decide (x.depth < new) && !s.depthAdmitted q v)
  else new != 0 && !s.depthAdmitted q v

/-- The effect of an accepted write of QD_CFG of queue `q` (R138, R141). -/
def State.writeQdCfg (s : State) (q : Nat) (v : Word) : State :=
  let x := s.queue q
  let old := x.depth
  let new := bits v 0 16
  if old = 0 then
    let s := s.setQueue q (if new = 0 then { x with cfg := v } else { x with cfg := v, recv := 0, deliv := 0, slag := 0, fill := 0 })
    if new ≠ 0 ∧ bit v 29 then s.drawRing q (List.range new) else s
  else if new = 0 then s.disableQueue q
  else
    let s := s.setQueue q { x with cfg := v }
    if x.isRing then
      if old < new then s.drawRing q ((List.range (new - old)).map (· + old))
      else
        s.drain q ((s.stock.own.filter fun e =>
          e.2.queue == q && (match e.2.loc with | .ring i => decide (new ≤ i) | _ => false)).map (·.1))
    else s

/-! ### Stamps (R134, R148) -/

/-- The full 64-bit stamp whose low 32 bits are `st` and that lies nearest to the present TB (R134). -/
def State.fullStamp (s : State) (st : Nat) : Nat :=
  let d := sext 32 (unsign 32 ((st : Int) - (s.tb : Int)))
  unsign 64 ((s.tb : Int) + d)

/-- Ticks of one sample at the frame rate that RATE encodes as `code`, without its fraction where it does not divide the tick rate. -/
def rateTicks (code : Nat) : Nat :=
  98304000 / [8000, 11025, 12000, 16000, 22050, 24000, 32000, 44100, 48000, 88200, 96000, 176400, 192000].getD code 48000

/-- Nominal RATE of SAPn's side: a sharing RX side has the TX side's (R199). -/
def State.sapRateCode (s : State) (n : Nat) (rx : Bool) : Nat :=
  s.f (if rx && !s.b (Regs.SAP_RX_CLK n) 16 then Regs.SAP_RX_CLK n else Regs.SAP_TX_CLK n) 4 4

/-- Ticks of one sample of queue `q` (R148): of its port's nominal frame rate where a serial port side or the receiver fills it, or where an
ASRC engine fills it for a TX side; of 16 kHz for an LP microphone path and the wake unit; of the hearth rate otherwise. -/
def State.queueSampleTicks (s : State) (q : Nat) : Nat :=
  let x := s.queue q
  let u := x.producer / 256
  let c := x.consumer / 256
  if 0x10 ≤ u ∧ u < 0x16 then rateTicks (s.sapRateCode (u - 0x10) true)
  else if u = 0x17 then rateTicks (s.f Regs.SPDIF_STAT 8 4)
  else if u = 0x24 ∧ 16 ≤ x.producer % 256 ∨ u = 0x25 then 6144
  else if 0x18 ≤ u ∧ u < 0x24 ∧ 0x10 ≤ c ∧ c < 0x16 then rateTicks (s.sapRateCode (c - 0x10) false)
  else s.sampleTicks

/-- The tag of the MISSING replacement of a lost billet (R148, item 4). -/
def State.missingTag (s : State) (q : Nat) (t : Tag) (readable : Bool) : Tag :=
  let x := s.queue q
  if readable then { t with flags := flMissing }
  else match x.lastTag with
    | none => { stamp := s.tb % 2 ^ 32, count := fullCount x.packed, offset := 0xFF, domain := x.domain, flags := flMissing, packed := x.packed }
    | some p =>
      { stamp := (p.stamp + p.count * s.queueSampleTicks q) % 2 ^ 32, count := fullCount x.packed,
        offset := if p.offset = 0xFF then 0xFF else (p.offset + p.count) % 32,
        domain := x.domain, flags := flMissing, packed := x.packed }

/-! ### ECC and QUARANTINE (R147, R148) -/

/-- A corrected single-bit error: STOCK.ECC.CE and cause CE (R147). -/
def State.stockCe (s : State) : State := (s.incF Regs.STOCK_ECC 0 16).event 0x06 0

/-- The counters of a stream whose item with `n` samples, `fl` of them filled, is lost from the queue: as for one that placement discards
(R246). -/
def Queue.loses (x : Queue) (n fl : Nat) : Queue :=
  { x with recv := (x.recv + (n - fl)) % 2 ^ 48, slag := (x.slag + n) % 2 ^ 48, fill := (x.fill + fl) % 2 ^ 48 }

/-- The half of an output's stroke that billet `b` with record `o` held reads zero (R148). -/
def State.loseOutput (s : State) (o : Own) : State :=
  let k := (o.queue - noQueue) / 2
  let h := (o.queue - noQueue) % 2
  let cut := fun (l : List Word) => (List.range 32).map fun i => if i / 16 = h then 0 else l.getD i 0
  if o.loc = .played then (if (s.pub.find k).isSome then { s with pub := s.pub.set [] k (cut (s.pub.get [] k)) } else s)
  else if (s.outs.find k).isSome then { s with outs := s.outs.put k (cut ((s.outs.find k).getD [])) } else s

/-- Billet `b` joins QUARANTINE, and its tag shows it (R148, step 1). -/
def State.joinQuarantine (s : State) (b : Nat) : State :=
  let marks : Sparse Unit := Sparse.put (s.stock.quar.map fun n => (n, ())) b ()
  let s : State := { s with stock := { s.stock with quar := marks.map (·.1) } }
  let bl := s.billet b
  (s.setBillet b { bl with tag := { bl.tag with flags := bl.tag.flags ||| flQuarantined } }).setW Regs.STOCK_QUAR_LAST
    (Word.of (0x80000000 + b))

/-- Steps 1 to 6 of R148 for billet `b`, but for the WARN faults; `readable` says that its tag could be read. A billet that waits on an
input stream counts as one that placement discards; the MISSING one in its place counts when placement meets it (R246). -/
def State.quarantine (s : State) (b : Nat) (readable : Bool) : State :=
  let t := (s.billet b).tag
  let s1 := s.joinQuarantine b
  let s2 := match s.own b with
    | none => s1
    | some o =>
      if noQueue ≤ o.queue then (s1.dropOwn b).loseOutput o
      else
        let x := s.queue o.queue
        let mt := s.missingTag o.queue t readable
        let swap := fun (i : QItem) => if i = QItem.billet b then QItem.made mt [] else i
        let y := { x with returned := x.returned + 1, waiting := x.waiting.map swap, placed := x.placed.map swap }
        let y := if x.isInput && x.waiting.contains (.billet b) then y.loses mt.count (min o.filled mt.count) else y
        let s := (s1.dropOwn b).setQueue o.queue y
        match o.loc with
        | .ring i => s.drawRing o.queue [i]
        | _ => s
  (s2.incF Regs.STOCK_ECC 16 16).event 0x06 1

/-- COMMITTED exceeds the limit that QUARANTINE leaves (R140). -/
def State.overcommitted (s : State) : Bool := decide (65536 - s.stock.quar.length < s.committed)

/-- STOCK_OVERCOMMIT stands while COMMITTED exceeds the limit (R140, R589). -/
def State.overcommitCheck (s : State) : State :=
  if s.overcommitted then (if s.faultActive 0x11 0x06 then s else (s.event 0x06 4).raiseLocal 0x11 0x06 0) else s.clearFault 0x11 0x06

/-- An uncorrectable error in billet `b` (R148): QUARANTINE, the replacement, and the WARN faults. -/
def State.stockUe (s : State) (b : Nat) (readable : Bool) : State :=
  ((s.quarantine b readable).raiseLocal 0x10 0x06 0).overcommitCheck

/-- Injected errors wait for the next billet read (R608): a single-bit error is corrected, a double one quarantines billet `b`. -/
def State.injectRead (s : State) (b : Nat) : State :=
  let s := if s.tst.injCe then { s with tst := { s.tst with injCe := false } }.stockCe else s
  if s.tst.injUe then { s with tst := { s.tst with injUe := false } }.stockUe b true else s

/-! ### Takes (R137) -/

/-- The items the consumer of a queue may take: of an input stream the placed ones (R234), of any other all that wait; but those of the
running placement stroke only where the consumer works in that stage too (R25). -/
def Queue.ready (x : Queue) : List QItem :=
  let l := if x.isInput then x.placed else x.waiting
  l.take (l.length - x.fresh)

/-- A boundary: what placement has handed on is input of the forging stroke that begins (R25). -/
def State.freshBoundary (s : State) : State :=
  s.stock.queues.foldl (fun s e => if e.2.fresh = 0 then s else s.setQueue e.1 { s.queue e.1 with fresh := 0 }) s

/-- The consumer takes the oldest item of queue `q` (R137). -/
def State.take (s : State) (q : Nat) (l : Loc) : Option QItem × State :=
  let s := match (s.queue q).ready with
    | .billet b :: _ => s.injectRead b
    | _ => s
  let x := s.queue q
  match x.ready with
  | [] => (none, s)
  | i :: _ =>
    let s := s.setQueue q (if x.isInput then { x with placed := x.placed.drop 1 } else { x with waiting := x.waiting.drop 1 })
    match i with
    | .made _ _ => (some i, s)
    | .billet b =>
      match s.own b with
      | none => (some i, s)
      | some o => (some i, s.setOwn b { o with loc := l })

/-- Tag and samples of what a take returned: a MISSING replacement holds zeros (R148). -/
def State.itemBillet (s : State) : QItem → Billet
  | .billet b => s.billet b
  | .made t d => { tag := t, data := d }

/-- Release of what a take returned. -/
def State.releaseItem (s : State) : QItem → State
  | .billet b => s.release b
  | .made _ _ => s

/-- Take, look and release in one go: the item's contents. -/
def State.consume (s : State) (q : Nat) : Option Billet × State :=
  match s.take q .consumer with
  | (none, s) => (none, s)
  | (some i, s) => (some (s.itemBillet i), s.releaseItem i)

/-! ### Retention and rebuild (R146, R150, R155) -/

/-- Slab of a billet (R130). -/
def slabOf (b : Nat) : Nat := b / 4096

/-- Entry to BANKED or EMBER: steps 1 to 4 of R146. -/
def State.stockSleep (s : State) : State :=
  let keep := fun b => (s.w Regs.STOCK_RETAIN).toNat.testBit (slabOf b)
  let drop := s.stock.own.filter fun x => !keep x.1 || !(x.2.loc == .waiting || (match x.2.loc with | .ring _ => true | _ => false))
  let s := drop.foldl (fun s x =>
    let q := s.queue x.2.queue
    (s.setQueue x.2.queue { q with waiting := q.waiting.filter fun i => !(i == .billet x.1) }).release x.1) s
  let off := s.stock.queues.filter fun q => q.2.on && !(q.2.pin && (s.w Regs.STOCK_RETAIN).toNat.testBit q.2.slab)
  let s := off.foldl (fun s q => s.disableQueue q.1) s
  s.stock.own.foldl (fun s x =>
    let bl := s.billet x.1
    s.setBillet x.1 { bl with tag := { bl.tag with flags := bl.tag.flags ||| flRetained } }) s

/-- A soft reset of STOCK begins: every queue is disabled (R150, step 1), and the Stock is being written and checked. -/
def State.stockClear (s : State) : State :=
  let s := (s.stock.queues.filter fun q => q.2.on).foldl (fun s q => s.disableQueue q.1) s
  { s with stock := { s.stock with mem := [], own := [], rebuilding := true } }

/-- How many samples of an item are filled. -/
def State.itemFilled (s : State) : QItem → Nat
  | .billet b => match s.own b with | some o => o.filled | none => 0
  | .made t _ => t.count

/-- The samples that wait on an input stream are lost in a rebuild (R155, R246). -/
def State.losesWaiting (s : State) (x : Queue) : Queue :=
  if x.isInput then x.waiting.foldl (fun x i => let n := (s.itemBillet i).tag.count; x.loses n (min n (s.itemFilled i))) x else x

/-- The rebuild of R155 begins: queues keep their configuration, are emptied, their counters become 0 and GEN increments. -/
def State.stockEmpty (s : State) : State :=
  let qs := s.stock.queues.map fun q =>
    (q.1, { s.losesWaiting q.2 with
      issued := 0, returned := 0, waiting := [], placed := [], fresh := 0, gen := (q.2.gen + 1) % 256, lastTag := none })
  { s with stock := { s.stock with mem := [], own := [], queues := qs, rebuilding := true } }

/-- A soft reset or rebuild of the Stock ends: the billets of `bad` have failed and join QUARANTINE, every other is FREE, and the RING
queues that a rebuild kept draw fresh zero-filled billets (R150, R155). -/
def State.stockFill (s : State) (bad : List Nat) : State :=
  let s := { s with stock := { s.stock with quar := [], rebuilding := false } }
  let s := bad.foldl (fun s b => s.joinQuarantine b) s
  (s.stock.queues.filter fun q => q.2.on && q.2.isRing).foldl (fun s q => s.drawRing q.1 (List.range q.2.depth)) s

end Sys2Proof.Machine
end

