-- ==== Sys2Proof/Machine/Patch.lean ====
section
/-!
DEFINITION. The patch table (chapter 08): entries and their checks, the units' cached copies and their invalidation, copy and swap, and
the stream counters' window.
-/

namespace Sys2Proof.Machine

/-- PATCH's page. -/
def pgPatch : Nat := 0x08

/-! ### Entries (R247 to R250) -/

/-- Key of the LO word of entry `e`, 0 to 511; the HI word follows. -/
def entryKey (e : Nat) : Nat := 0x14000 + 2 * e

/-- The entry whose words stand at key `k`. -/
def entryOfKey (k : Nat) : Nat := (k - 0x14000) / 2

/-- The key is a patch entry's. -/
def isEntryKey (k : Nat) : Bool := decide (0x14000 ≤ k) && decide (k < 0x14400)

/-- LO word of entry `e`: SRC and SINK. -/
def State.entryLo (s : State) (e : Nat) : Word := s.w (entryKey e)

/-- HI word of entry `e`: VALID, OWN_LK, GEN and QUEUE. -/
def State.entryHi (s : State) (e : Nat) : Word := s.w (entryKey e + 1)

/-- First entry of the active bank. -/
def State.bankBase (s : State) : Nat := if s.b Regs.PATCH_STAT 0 then 256 else 0

/-- The entry belongs to the active bank. -/
def State.entryActive (s : State) (e : Nat) : Bool := e / 256 * 256 == s.bankBase

/-- The 256 entries of a bank. -/
def bankEntries (base : Nat) : List Nat := (List.range 256).map (· + base)

/-- VALID of a HI word. -/
def entryValid (hi : Word) : Bool := bit hi 31

/-- The unit code is a mixer node's output: 0x09 in [15:8], 0x80 + n in [7:0]. -/
def isMixNode (u : Nat) : Bool := decide (0x0980 ≤ u) && decide (u < 0x09A0)

/-- The unit code is a mixer input port's: 0x09 in [15:8], p in [7:0]. -/
def isMixPort (u : Nat) : Bool := decide (0x0900 ≤ u) && decide (u < 0x0940)

/-- The checks of R248 and R257 for words `lo` and `hi` in entry `e`. -/
def State.entryOk (s : State) (e : Nat) (lo hi : Word) : Bool :=
  !entryValid hi ||
    (let q := bits hi 0 10
     let x := s.queue q
     !(isMixNode (bits lo 16 16) && isMixPort (bits lo 0 16)) && x.on && !x.isRing && x.producer == bits lo 16 16 && x.consumer == bits lo 0 16 &&
       !((bankEntries (e / 256 * 256)).any fun j =>
          j != e && entryValid (s.entryHi j) && (bits (s.entryLo j) 0 16 == bits lo 0 16 || bits (s.entryHi j) 0 10 == q)))

/-- The first entry of the bank at `base` that fails R248. -/
def State.bankFail (s : State) (base : Nat) : Option Nat :=
  (bankEntries base).find? fun e => !s.entryOk e (s.entryLo e) (s.entryHi e)

/-- An applied write of entry `e` (R249): its words with GEN incremented. -/
def State.applyEntry (s : State) (e : Nat) (lo hi : Word) : State :=
  let g := (bits (s.entryHi e) 24 4 + 1) % 16
  let s := (s.setW (entryKey e) lo).setW (entryKey e + 1) (putBits hi 24 4 g)
  { s with patch := { s.patch with writes := s.patch.writes.set 0 e (s.patch.writes.get 0 e + 1) } }

/-- A write of entry `e` breaks R250: OWN_LK is set in the table, or the write would set it. -/
def State.entryOwnerOnly (s : State) (e : Nat) (hi : Word) : Bool := bit (s.entryHi e) 30 || bit hi 30

/-- A direct write of entry `e` is refused with RANGE: a copy runs into its bank (R254), it is the sixteenth applied write in the stroke
(R249), or it fails the checks of R248; the last two hold of the active bank only. -/
def State.entryRefused (s : State) (e : Nat) (lo hi : Word) : Bool :=
  if s.entryActive e then decide (15 ≤ s.patch.writes.get 0 e) || !s.entryOk e lo hi
  else s.b Regs.PATCH_STAT 2

/-! ### Lookups and caches (R251 to R253) -/

/-- An entry names unit `u` as its SINK, or, with `sink` false, as its SRC. -/
def entryNames (u : Nat) (sink : Bool) (lo : Word) : Bool := if sink then bits lo 0 16 == u else bits lo 16 16 == u

/-- The queue that unit `u` reads (`sink`) or fills: from its cached copy, or by a lookup that the unit then caches (R251). -/
def State.route (s : State) (u : Nat) (sink : Bool) : Option Nat × State :=
  match s.patch.cache.find? fun l => l.unit == u && entryNames u sink l.lo with
  | some l => (some (bits l.hi 0 10), s)
  | none =>
    match (bankEntries s.bankBase).find? fun e => entryValid (s.entryHi e) && entryNames u sink (s.entryLo e) with
    | none => (none, s)
    | some e =>
      let l : CacheLine := { unit := u, entry := e, gen := bits (s.entryHi e) 24 4, lo := s.entryLo e, hi := s.entryHi e }
      (some (bits l.hi 0 10), { s with patch := { s.patch with cache := s.patch.cache ++ [l] } })

/-- The queue that unit `u` would read or fill, without taking a cached copy. -/
def State.peekRoute (s : State) (u : Nat) (sink : Bool) : Option Nat := (s.route u sink).1

/-- Units that have latched STALE (R251). -/
def State.staleUnits (s : State) : Nat := ((s.patch.cache.filter (·.stale)).map (·.unit)).eraseDups.length

/-- Every cached copy whose entry satisfies `p` is dropped, with its STALE latch (R252, R253). -/
def State.dropCached (s : State) (p : Nat → Bool) : State :=
  let s := { s with patch := { s.patch with cache := s.patch.cache.filter fun l => !p l.entry } }
  s.setF Regs.PATCH_STAT 16 16 s.staleUnits

/-- The invalidations that writes of PATCH.INVAL have named, at a boundary after step 2 of R28 (R252). -/
def State.patchInvalidate (s : State) : State :=
  if s.patch.inval.isEmpty then s
  else
    let named := s.patch.inval
    { s.dropCached (fun e => named.contains e) with patch := { (s.dropCached (fun e => named.contains e)).patch with inval := [] } }

/-- A stroke begins: its count of applied writes starts from zero (R249). -/
def State.patchStroke (s : State) : State := { s with patch := { s.patch with writes := [] } }

/-- The entries with keys `ks`, written by a weld, are invalidated in every cache at this boundary (R253). -/
def State.weldInval (s : State) (ks : List Nat) : State :=
  let l := ((ks.filter isEntryKey).map entryOfKey).eraseDups
  if l.isEmpty then s else { s with patch := { s.patch with inval := s.patch.inval ++ l.filter fun e => !s.patch.inval.contains e } }

/-- Every unit compares the GEN of its cached copies with the table's (R251, item 3). -/
def State.patchBoundary (s : State) : State :=
  let cache := s.patch.cache.map fun l =>
    { l with stale := l.stale || l.gen != bits (s.entryHi l.entry) 24 4 }
  let newly := cache != s.patch.cache
  let s := { s with patch := { s.patch with cache := cache } }
  let s := s.setF Regs.PATCH_STAT 16 16 s.staleUnits
  if newly then s.event pgPatch 0 else s

/-- The effect of an accepted write of PATCH.INVAL (R252): one entry of the active bank, or all. -/
def State.writeInval (s : State) (v : Word) : State :=
  let l := if bit v 31 then List.range 512 else [s.bankBase + bits v 0 8]
  { s with patch := { s.patch with inval := s.patch.inval ++ l.filter fun e => !s.patch.inval.contains e } }

/-! ### Copy and swap (R254, R255) -/

/-- STAT.REBUILD_BUSY follows a running copy and HOLD (R254). -/
def State.rebuildBusy (s : State) : State := s.setB Regs.PATCH_STAT 1 (s.b Regs.PATCH_STAT 2 || s.b Regs.PATCH_CTRL 1)

/-- A COPY is accepted: no copy runs. -/
def State.copyOk (s : State) : Bool := !s.b Regs.PATCH_STAT 2

/-- CTRL.COPY starts a copy (R254). -/
def State.copyStart (s : State) : State := (s.setB Regs.PATCH_STAT 2 true).rebuildBusy

/-- The copy completes: every entry of the active bank is an applied write of the other bank's entry (R254). -/
def State.copyDone (s : State) : State :=
  if s.b Regs.PATCH_STAT 2 then
    let from_ := s.bankBase
    let dest := 256 - from_
    let s := (List.range 256).foldl (fun s i => s.applyEntry (dest + i) (s.entryLo (from_ + i)) (s.entryHi (from_ + i))) s
    (s.setB Regs.PATCH_STAT 2 false).rebuildBusy
  else s

/-- A swap at its boundary: the other bank becomes active and every cached copy is dropped (R255). -/
def State.patchSwap (s : State) : State :=
  ((s.setB Regs.PATCH_STAT 0 (!s.b Regs.PATCH_STAT 0)).dropCached fun _ => true).event pgPatch 2

/-- A refused swap records its first failing entry (R255). -/
def State.swapErr (s : State) (e : Nat) : State := s.setW Regs.PATCH_SWAP_ERR (Word.of (0x80000000 + e % 256))

/-! ### Stream counters (R246) -/

/-- Word `i` of the stream window for queue `q`: RECEIVED, DELIVERED, SLAG and FILL, LO then HI; 0 for a queue that is no input stream. -/
def State.streamWord (s : State) (q i : Nat) : Word :=
  let x := s.queue q
  if x.isInput then
    let c := [x.recv, x.deliv, x.slag, x.fill].getD (i / 2) 0
    Word.of (if i % 2 = 0 then c % 2 ^ 32 else c / 2 ^ 32 % 2 ^ 16)
  else 0

/-- A stream's counters move by the given numbers of samples, modulo 2^48. -/
def Queue.account (x : Queue) (recv deliv slag fill : Nat) : Queue :=
  { x with
    recv := (x.recv + recv) % 2 ^ 48, deliv := (x.deliv + deliv) % 2 ^ 48
    slag := (x.slag + slag) % 2 ^ 48, fill := (x.fill + fill) % 2 ^ 48 }

/-- The counters of queue `q` move. -/
def State.account (s : State) (q recv deliv slag fill : Nat) : State := s.setQueue q ((s.queue q).account recv deliv slag fill)

/-- A capture unit puts the billet it was granted, with `fl` filled samples among its COUNT. The samples of a refused put are lost: they
count as discarded (R148, R246). -/
def State.capturePut (s : State) (q b gen fl : Nat) (t : Tag) (data : List Word) : State :=
  if s.putRefused q b gen then
    let s := s.stalePut q b gen
    if (s.queue q).isInput then s.account q (t.count - fl) 0 t.count fl else s
  else
    match s.own b with
    | none => s
    | some o => (s.setOwn b { o with filled := fl }).put q b gen t data

end Sys2Proof.Machine
end

