-- ==== Sys2Proof/Machine/AnvilOps.lean ====
section
/-!
DEFINITION. An anvil as hardware (chapters 10 to 12): registers, memories, handles and copies, taking an exception, the commands GO, HALT
and STEP, release, the deadline and the stop at a boundary. Running an instruction is in `Machine.AnvilRun`.
-/

namespace Sys2Proof.Machine

/-- STATE codes of R296: EMPTY. -/
def anEmpty : Nat := 0
/-- HALTED. -/
def anHalted : Nat := 1
/-- WAIT. -/
def anWait : Nat := 2
/-- RUN. -/
def anRun : Nat := 3
/-- LATE. -/
def anLate : Nat := 4

/-- Page of anvil `n`. -/
def anvPage (n : Nat) : Nat := 0x80 + n

/-- Page of the bench of anvil `n` (R285). -/
def benchPage (n : Nat) : Nat := 0xC0 + n / 8

/-- Anvil `n`. -/
def State.anv (s : State) (n : Nat) : Anv := s.anvs.get {} n

/-- `s` with anvil `n` replaced. -/
def State.setAnv (s : State) (n : Nat) (a : Anv) : State := { s with anvs := s.anvs.set {} n a }

/-- STAT.STATE of anvil `n`. -/
def State.anvState (s : State) (n : Nat) : Nat := s.f (Regs.ANV_STAT n) 0 3

/-- Anvil `n` enters a state; PG_STAT.STATE is read from the same field. -/
def State.setAnvState (s : State) (n st : Nat) : State := s.setF (Regs.ANV_STAT n) 0 3 st

/-- The anvil executes: RUN or LATE. -/
def State.anvRuns (s : State) (n : Nat) : Bool := decide (n < 64) && (s.anvState n == anRun || s.anvState n == anLate)

/-- MODE.FREE as it took effect at the last boundary. -/
def State.anvFree (s : State) (n : Nat) : Bool := s.b (Regs.ANV_MODE n) 0

/-! ### Registers (R311, R317) -/

/-- Data register `r`. -/
def Anv.reg (a : Anv) (r : Nat) : Nat := (a.d.get 0 r).toNat

/-- `a` with data register `r` holding `v`. -/
def Anv.setReg (a : Anv) (r v : Nat) : Anv := { a with d := a.d.set 0 r (BitVec.ofNat 16 v) }

/-- The pair whose low register is `r`, high half first (R311). -/
def Anv.pair (a : Anv) (r : Nat) : Nat := a.reg r + 65536 * a.reg (r + 1)

/-- `a` with that pair holding `v`. -/
def Anv.setPair (a : Anv) (r v : Nat) : Anv := (a.setReg r v).setReg (r + 1) (v / 65536)

/-- Accumulator `i` as a signed number. -/
def Anv.accv (a : Anv) (i : Nat) : Int := (a.acc.get 0 i).toInt

/-- `a` with accumulator `i` holding `v`. -/
def Anv.setAcc (a : Anv) (i : Nat) (v : Int) : Anv := { a with acc := a.acc.set 0 i (BitVec.ofInt 40 v) }

/-- Reset value of control register `i`. (Log entry 7: DESIGN CHOICE.) -/
def crReset (i : Nat) : Word := if i = 0x11 then 2 else 0

/-- Control register `i` as it is kept. -/
def Anv.crv (a : Anv) (i : Nat) : Nat := (a.cr.get (crReset i) i).toNat

/-- The bits of control register `i` that can be written: reserved bits read 0 (R314 to R316, R359, R360). -/
def crMask (i : Nat) : Nat :=
  if i = 0x10 ∨ i = 0x11 ∨ i = 0x12 then 0x1F
  else if i = 0x20 then 0x7FF
  else if i = 0x21 then 0xFBFF
  else if i = 0x22 then 0x7F0
  else if 0x08 ≤ i ∧ i < 0x10 then 0xFFFFFFFF
  else 0xFFFF

/-- `a` with control register `i` holding the writable bits of `v`. -/
def Anv.setCr (a : Anv) (i v : Nat) : Anv := { a with cr := a.cr.set (crReset i) i (Word.of (v &&& crMask i)) }

/-- st. -/
def Anv.st (a : Anv) : Nat := a.crv 0x10
/-- md as it is kept; the mode an instruction runs under is `Anv.mode`. -/
def Anv.md (a : Anv) : Nat := a.crv 0x11
/-- sx. -/
def Anv.sx (a : Anv) : Nat := a.crv 0x12
/-- The mode of the next instruction: the old one in an MVC md's shadow and for the first instruction after an RTE with SHD (R354, R365). -/
def Anv.mode (a : Anv) : Nat := a.shadow.getD a.md
/-- EXL (R360). -/
def Anv.exl (a : Anv) : Bool := (a.crv 0x21).testBit 7

/-- The ring codes of R344: bst with its running bit. -/
def Anv.bst (a : Anv) : Nat :=
  a.crv 0x23 % 16 + (if a.copies.any fun c => match c with | .ringRead _ _ _ => true | .ringWrite _ _ _ => true | _ => false then 32768 else 0)

/-- A control register as a program or DBG.RDATA reads it; cyc is a free value, since the model counts no anvil cycles. -/
def State.readCr (s : State) (n i : Nat) : Nat :=
  if i = 0x24 then (Config.freeWord s.free).toNat
  else if i = 0x23 then (s.anv n).bst
  else (s.anv n).crv i

/-- The active loop whose end is at `idx` (R340). -/
def Anv.loopAt (a : Anv) (idx : Nat) : Option Nat :=
  [0, 1, 2].find? fun l => a.crv (0x14 + l) != 0 && a.crv (0x1C + l) == idx

/-! ### Memories (R282, R283) -/

/-- Key of word `w` of anvil `n`'s data memory. -/
def dataKey (n w : Nat) : Nat := 0x200000 + n * 0x8000 + w

/-- Key of word `w` of its instruction memory. -/
def codeKey (n w : Nat) : Nat := 0x200000 + n * 0x8000 + 0x4000 + w

/-- The 16-bit word at byte address `a`. -/
def State.read16 (s : State) (n a : Nat) : Nat := s.f (dataKey n (a / 4)) (8 * (a % 4)) 16

/-- The 32-bit word at byte address `a`. -/
def State.read32 (s : State) (n a : Nat) : Nat := (s.w (dataKey n (a / 4))).toNat

/-- A 16-bit store. -/
def State.write16 (s : State) (n a v : Nat) : State := s.setF (dataKey n (a / 4)) (8 * (a % 4)) 16 v

/-- A 32-bit store. -/
def State.write32 (s : State) (n a v : Nat) : State := s.setW (dataKey n (a / 4)) (Word.of v)

/-- The fault of a data access of `size` bytes at address `a` (R283, R356): MISALIGN before DOMAIN. -/
def memFault (size a : Nat) : Option Nat := if a % size ≠ 0 then some 2 else if 0x4000 ≤ a then some 3 else none

/-- The sixteen words at byte address `a`. -/
def State.readSpan (s : State) (n a : Nat) : List Word := (List.range 16).map fun j => s.w (dataKey n (a / 4 + j))

/-- Sixteen words written at byte address `a`; missing ones are 0. -/
def State.writeSpan (s : State) (n a : Nat) (l : List Word) : State :=
  (List.range 16).foldl (fun s j => s.setW (dataKey n (a / 4 + j)) (l.getD j 0)) s

/-- The copy writes data memory at its span (R343). -/
def CopyOp.writes : CopyOp → Option Nat
  | .take _ a => some a
  | .ringRead _ _ a => some a
  | _ => none

/-- The copy reads data memory at its span. -/
def CopyOp.reads : CopyOp → Option Nat
  | .put _ a => some a
  | .ringWrite _ _ a => some a
  | _ => none

/-- The access of `size` bytes at `a` touches the span of 64 bytes at `b`. -/
def touches (a size : Nat) : Option Nat → Bool
  | none => false
  | some b => decide (a < b + 64) && decide (b < a + size)

/-- A load or store at `a` stalls on a copy (R343). -/
def Anv.spanBusy (x : Anv) (a size : Nat) (store : Bool) : Bool :=
  x.copies.any fun c => touches a size c.writes || (store && touches a size c.reads)

/-! ### Handles (R290 to R292, R344) -/

/-- Handle `h`. -/
def Anv.handle (a : Anv) (h : Nat) : Handle := a.handles.get {} h

/-- `s` with handle `h` of anvil `n` replaced; STAT.HANDLES shows which hold a billet or wait. -/
def State.setHandle (s : State) (n h : Nat) (x : Handle) : State :=
  let a := s.anv n
  (s.setAnv n { a with handles := a.handles.set {} h x }).setB (Regs.ANV_STAT n) (8 + h) (x.st != .empty)

/-- The handle is PENDING (R344). -/
def Handle.pending (x : Handle) : Bool :=
  match x.st with
  | .take _ _ => true
  | .grant _ => true
  | .busy => true
  | _ => false

/-- The queue that stream `t` of anvil `n` reaches (R287): an output stream named as SRC by more than one valid entry has no route. -/
def State.anvRoute (s : State) (n t : Nat) : Option Nat × State :=
  let u := unitId (anvPage n) t
  if t < 32 then s.route u true
  else if 1 < ((bankEntries s.bankBase).filter fun e => entryValid (s.entryHi e) && bits (s.entryLo e) 16 16 == u).length then (none, s)
  else s.route u false

/-- The anvil runs an OWNER image. -/
def State.anvOwner (s : State) (n : Nat) : Bool := s.f (Regs.ANV_STAT n) 30 2 == 0

/-- The anvil may take a billet of domain `d` (R571). -/
def State.anvMayTake (s : State) (n d : Nat) : Bool := s.anvOwner n || d != 0

/-- The anvil may grant on a queue of domain `d` (R571). -/
def State.anvMayGrant (s : State) (n d : Nat) : Bool := s.anvOwner n || d == 1

/-- Every billet in a handle returns to FREE and every pending operation is cancelled; `drop` counts the returns in EVT.HANDLE_DROP
(R298). -/
def State.emptyHandles (s : State) (n : Nat) (drop : Bool) : State :=
  (List.range 8).foldl (fun s h =>
    let x := (s.anv n).handle h
    let s := match x.item with | none => s | some i => s.releaseItem i
    let s := if drop && x.item.isSome then s.incF (Regs.ANV_EVT n) 16 8 else s
    s.setHandle n h {}) s

/-! ### Coprocessor results (R295, R346, R366, R367) -/

/-- The oldest result is written to its pair; an error case is recorded in BENCHn.CP_ERR. -/
def State.writeCop (s : State) (n : Nat) (e : CopEntry) : State :=
  let a := (s.anv n).setPair e.dest e.val.toNat
  let a := if e.sat then a.setCr 0x10 (putBit a.st 4 true) else a
  let s := s.setAnv n a
  if e.err then
    let k := Regs.BENCH_CP_ERR (n / 8)
    ((((s.incF k 16 16).setF k 8 3 e.op).setF k 0 3 (n % 8))).event (benchPage n) 0
  else s

/-- Every issued result is written in issue order (R358, step 2). -/
def State.flushCops (s : State) (n : Nat) : State :=
  match (s.anv n).cops with
  | [] => s
  | e :: t =>
    let s := (e :: t).foldl (fun s e => s.writeCop n e) s
    s.setAnv n { s.anv n with cops := [] }

/-- `k` squashed operations are counted (R366). (Log entry 60: DESIGN CHOICE.) -/
def State.cancelled (s : State) (n k : Nat) : State := s.addF (Regs.BENCH_CANCEL (n / 8)) 0 32 k

/-- The instructions at `l` may have issued a coprocessor operation before they were squashed: how many did depends on the pipeline's
cycles, so each counts or not by a free value. (Log entry 60: DESIGN CHOICE.) -/
def State.squash (s : State) (n : Nat) (l : List Nat) : State :=
  l.foldl (fun s i =>
    match decodeAnvil (if i < 2048 then (s.w (codeKey n i)).toNat else 0) with
    | some (.cop _ _ _ _) => (s.cancelled n ((Config.freeWord s.free).toNat % 2)).tickFree
    | _ => s) s

/-! ### Exceptions (R355 to R370) -/

/-- Where an exception finds the anvil: epc, the flags DS, SHD and LOOP with LN, and OMD (R357, R361 to R364). -/
structure Place where
  epc  : Nat
  ds   : Bool := false
  shd  : Bool := false
  loop : Option Nat := none
  omd  : Nat
  deriving DecidableEq, Repr

/-- The place of the instruction about to run. (Log entry 55: DEDUCED.) -/
def Anv.place (a : Anv) : Place :=
  match a.slot with
  | some (b, _, m) => { epc := b, ds := true, omd := m }
  | none => { epc := a.pc, shd := a.shadow.isSome, loop := a.loopAt a.pc, omd := a.mode }

/-- estat as an exception entry writes it (R360). -/
def Place.estat (p : Place) (cause : Nat) : Nat :=
  p.omd % 32 * 2048 + (p.loop.getD 0) * 256 + 128 + b2n p.loop.isSome * 64 + b2n p.shd * 32 + b2n p.ds * 16 + cause % 16

/-- EXC_LAST's word. -/
def excWord (cause src epc : Nat) (dbl : Bool) : Word :=
  Word.of (cause % 16 * 0x10000000 + b2n dbl * 0x8000000 + src % 2048 * 0x10000 + epc % 2048)

/-- The anvil enters HALTED: PC names the next instruction and cause HALT is raised. (Log entry 58: DEDUCED.) -/
def State.anvHalt (s : State) (n : Nat) (inprog : Bool) : State :=
  let a := s.anv n
  let s := s.setAnv n { a with haltReq := false, stepReq := false, passed := false }
  (((s.setAnvState n anHalted).setB (Regs.ANV_STAT n) 29 inprog).setW (Regs.ANV_PC n) (Word.of (a.pc % 2048))).event (anvPage n) 2

/-- TAKING AN EXCEPTION (R358, R369): cause, the index that raised it and the place it found. The older coprocessor operations write their
results first; an erring one turns the exception into COPROC. (Log entry 55: DEDUCED.) -/
def State.anvExcept (s : State) (n cause src : Nat) (p : Place) : State :=
  let bad := (s.anv n).cops.find? fun e => e.err
  let s := s.flushCops n
  let cause := if bad.isSome then 6 else cause
  let src := match bad with | some e => e.src | none => src
  let a := s.anv n
  if a.exl && cause != 4 then
    let s := (s.setW (Regs.ANV_EXC_LAST n) (excWord cause src a.pc true)).incF (Regs.ANV_EXC_CNT n) 0 8
    (s.event (anvPage n) 1).anvHalt n true
  else
    let a := { (a.setCr 0x20 p.epc).setCr 0x21 (p.estat cause) with slot := none, shadow := none }
    let s := s.setAnv n { a with pc := a.crv 0x22 + 2 * cause }
    let s := (s.setW (Regs.ANV_EXC_LAST n) (excWord cause src p.epc false)).incF (Regs.ANV_EXC_CNT n) 16 16
    let s := if cause = 4 then s.incF (Regs.ANV_EXC_CNT n) 8 8 else s
    s.event (anvPage n) 1

/-- A fault of the instruction about to run, which has been fetched. (Log entry 55: DEDUCED.) -/
def State.anvFault (s : State) (n cause : Nat) : State :=
  let a := s.anv n
  let nx := match a.slot with | some (_, t, _) => t | none => a.pc + 1
  ((s.setAnv n { a with skipBp := false }).squash n [nx]).anvExcept n cause a.pc a.place

/-- The oldest coprocessor operation ends: its result is written, and its error case raises COPROC at the oldest instruction not yet
completed (R346, R357, R367). -/
def State.copResultDone (s : State) (n : Nat) : State :=
  match (s.anv n).cops with
  | [] => s
  | e :: rest =>
    let a := s.anv n
    let s := (s.setAnv n { a with cops := rest }).writeCop n e
    if e.err then (s.squash n [a.pc, a.pc + 1, a.pc + 2]).anvExcept n 6 e.src (s.anv n).place else s

/-! ### Billet operations in the background (R286, R289, R292) -/

/-- The anvil of bench `b` that its port comes to first, from anvil `i` of it onwards: one with a copy to make (R286). -/
def State.portFrom (s : State) (b i : Nat) : Nat :=
  (((List.range 8).map fun j => (i + j) % 8).find? fun j => !(s.anv (8 * b + j)).copies.isEmpty).getD (i % 8)

/-- The port of bench `b` goes on to the next anvil with a copy to make, from anvil `i` of the bench. -/
def State.turnPort (s : State) (b i : Nat) : State := { s with portTurn := s.portTurn.set 0 b (s.portFrom b i) }

/-- Anvil `n` issues a copy; an idle port serves it at once (R286). -/
def State.issueCopy (s : State) (n : Nat) (c : CopyOp) : State :=
  let idle := (List.range 8).all fun j => (s.anv (8 * (n / 8) + j)).copies.isEmpty
  let s := s.setAnv n { s.anv n with copies := (s.anv n).copies ++ [c] }
  if idle then s.turnPort (n / 8) (n % 8) else s

/-- The port of its bench serves anvil `n`: one copy at a time, round-robin from the anvil after the one it served last (R286). -/
def State.portServes (s : State) (n : Nat) : Bool :=
  !(s.anv n).copies.isEmpty && s.portTurn.get 0 (n / 8) == n % 8

/-- The copies of anvil `n` are given up; the port goes on with another anvil's if it served one of them. -/
def State.dropCopies (s : State) (n : Nat) : State :=
  let served := s.portServes n
  let s := s.setAnv n { s.anv n with copies := [] }
  if served then s.turnPort (n / 8) (n % 8 + 1) else s

/-- What copy `c` of anvil `n` has done when it is complete (R289). (Log entry 57: DEDUCED.) -/
def State.copyMade (s : State) (n : Nat) (c : CopyOp) : State :=
    let a := s.anv n
    match c with
    | .take h addr =>
      let x := a.handle h
      match x.item with
      | none => s
      | some i =>
        let bl := s.itemBillet i
        (s.writeSpan n addr bl.data).setHandle n h { x with st := .held, code := 0, tag := bl.tag }
    | .put h addr =>
      let x := a.handle h
      match x.item with
      | some (.billet b) =>
        let stale := s.putRefused x.queue b x.gen
        (s.put x.queue b x.gen x.tag (s.readSpan n addr)).setHandle n h { code := if stale then 3 else 0 }
      | _ => s.setHandle n h {}
    | .ringRead q i addr =>
      let s := match s.ringBillet q i with | none => s.writeSpan n addr [] | some b => s.writeSpan n addr (s.billet b).data
      s.setAnv n ((s.anv n).setCr 0x23 0)
    | .ringWrite q i addr =>
      let s := match s.ringBillet q i with
        | none => s
        | some b => s.setBillet b { s.billet b with data := s.readSpan n addr }
      s.setAnv n ((s.anv n).setCr 0x23 0)

/-- The copy that the port makes for anvil `n`, the oldest of its own, completes (R286). -/
def State.copyComplete (s : State) (n : Nat) : State :=
  match (s.anv n).copies with
  | [] => s
  | c :: rest =>
    if s.portServes n then
      ((s.setAnv n { s.anv n with copies := rest }).copyMade n c).turnPort (n / 8) (n % 8 + 1)
    else s

/-- The take of the head of queue `q` into handle `h` begins (R289). (Log entry 57: DEDUCED.) -/
def State.beginTake (s : State) (n h q addr : Nat) : State :=
  match s.take q (.anvil n h) with
  | (none, s) => s
  | (some i, s) =>
    (s.setHandle n h { st := .busy, code := 8, item := some i, queue := q }).issueCopy n (.take h addr)

/-- A granted billet is held in handle `h` (R289). -/
def State.heldGrant (s : State) (n h q b : Nat) : State :=
  let x := s.queue q
  s.setHandle n h { st := .held, code := 0, item := some (.billet b), queue := q, gen := x.gen, granted := true,
                    tag := { stamp := 0, count := fullCount x.packed, offset := 0xFF, domain := x.domain, packed := x.packed } }

/-- A pending take or grant completes as a billet or credit arrives (R292); one refused for its domain empties the handle and raises a
domain violation (R291). A take's copy runs at once where the port is free for it, and else waits its turn (R286). -/
def State.opComplete (s : State) (n h : Nat) : State :=
  let x := (s.anv n).handle h
  match x.st with
  | .take t addr =>
    match s.anvRoute n t with
    | (none, s) => s
    | (some q, s) =>
      match (s.queue q).ready with
      | [] => s
      | i :: _ =>
        if s.anvMayTake n (s.itemBillet i).tag.domain then
          let s := s.beginTake n h q addr
          if (s.anv n).copies = [.take h addr] then s.copyComplete n else s
        else
          let s := s.setHandle n h { code := 2 }
          if s.anvRuns n then s.anvFault n 3 else s
  | .grant t =>
    match s.anvRoute n t with
    | (none, s) => s
    | (some q, s) =>
      if s.anvMayGrant n (s.queue q).domain then
        match s.grant q (.anvil n h) with
        | (none, s) => s
        | (some b, s) => s.heldGrant n h q b
      else
        let s := s.setHandle n h { code := 2 }
        if s.anvRuns n then s.anvFault n 3 else s
  | _ => s

/-! ### Commands, release and stop (R297 to R301, R306 to R308, R368, R371) -/

/-- GO's condition and the others of R306; more than one command bit is refused. -/
def State.anvCmdOk (s : State) (n v : Nat) : Bool :=
  let st := s.anvState n
  match v % 8 with
  | 0 => true
  | 1 => st == anHalted
  | 2 => st == anWait || st == anRun || st == anLate
  | 4 => st == anHalted
  | _ => false

/-- A halted program goes on in RUN; OVERRUN comes first where a boundary has passed in stroke mode (R300, R306, R307). -/
def State.anvResume (s : State) (n : Nat) : State :=
  let a := s.anv n
  let ovf := a.passed && !s.anvFree n
  let s := (s.setAnv n { a with passed := false, skipBp := true }).setAnvState n anRun
  if ovf then s.anvExcept n 4 a.pc a.place else s

/-- GO; the first instruction fetched after it matches no breakpoint (R373). -/
def State.anvGo (s : State) (n : Nat) : State :=
  if s.b (Regs.ANV_STAT n) 29 then s.anvResume n else (s.setAnv n { s.anv n with skipBp := true }).setAnvState n anWait

/-- HALT: a waiting anvil halts at once, a running one at a clean boundary. -/
def State.anvHaltCmd (s : State) (n : Nat) : State :=
  if s.anvState n = anWait then s.anvHalt n false else s.setAnv n { s.anv n with haltReq := true }

/-- The anvil stands at a clean boundary (R371): not between a branch and its delay slot, nor before a shadow instruction.
(Log entry 61: DEDUCED.) -/
def Anv.clean (a : Anv) : Bool := a.slot.isNone && a.shadow.isNone

/-- A requested halt completes: every issued coprocessor operation ends first, and an erring one enters its handler before the halt
(R356, R371). (Log entry 58: DEDUCED.) -/
def State.haltDone (s : State) (n : Nat) : State :=
  let a := s.anv n
  if s.anvRuns n ∧ a.haltReq ∧ a.clean then
    match a.cops.find? fun e => e.err with
    | some e => (s.anvExcept n 6 e.src a.place).anvHalt n true
    | none => (s.flushCops n).anvHalt n true
  else s

/-- STEP: the program enters RUN for one instruction (R306, R372); the instruction itself runs in `Machine.AnvilRun`. -/
def State.anvStepCmd (s : State) (n : Nat) : State :=
  let a := s.anv n
  let a := if s.b (Regs.ANV_STAT n) 29 then a else { a with pc := s.f (Regs.ANV_ENTRY n) 0 11, slot := none, shadow := none }
  s.setAnv n { a with stepReq := true }

/-- Step 5 of R28 for one anvil: released from WAIT into RUN at ENTRY (R297, R318); a stopped one takes OVERRUN in stroke mode (R300, R368). (Log entry 92: DESIGN CHOICE.) -/
def State.anvRelease (s : State) (n : Nat) : State :=
  if s.anvState n = anWait ∧ s.pageOff (anvPage n) = false then
    let a := s.anv n
    let e := s.f (Regs.ANV_ENTRY n) 0 11
    let hs := (List.range 8).foldl (fun (m : Sparse Handle) h =>
      let x := m.get {} h
      if x.st = .empty then m.set {} h { x with code := 9 } else m) a.handles
    let a := { ((a.setCr 0x14 0).setCr 0x15 0).setCr 0x16 0 with
      pc := e, slot := none, shadow := none, handles := hs, overrun := false, passed := false }
    let s' := (s.setAnv n a).setAnvState n anRun
    if (s.anv n).overrun && !s.anvFree n then s'.anvExcept n 4 (s.f (Regs.ANV_EXC_LAST n) 16 11) { epc := e, omd := a.md } else s'
  else s

/-- The anvil counts as late at the deadline (R175, R299, R307): in stroke mode and in RUN, or HALTED while its page is enabled. -/
def State.anvLateAt (s : State) (n : Nat) : Bool :=
  !s.anvFree n && (s.anvState n == anRun || s.anvState n == anLate || (s.anvState n == anHalted && !s.pageOff (anvPage n)))

/-- The deadline finds the anvil late: LATE, EVT.LATE and cause LATE. (Log entry 58: DEDUCED.) -/
def State.anvJudge (s : State) (n : Nat) : State :=
  if s.anvLateAt n then
    let s := (s.incF (Regs.ANV_EVT n) 24 8).event (anvPage n) 0
    if s.anvState n = anRun then s.setAnvState n anLate else s
  else s

/-- A boundary passes for the anvil: one in LATE is stopped (R299, R368), and halts
in WAIT where a HALT stood open (R306); a halted one remembers it (R307). -/
def State.anvBoundary (s : State) (n : Nat) : State :=
  if s.anvState n = anLate then
    let a := s.anv n
    let s := (s.cancelled n a.cops.length).squash n [a.pc]
    let s := s.emptyHandles n false
    let s := (s.setF (Regs.ANV_EXC_LAST n) 16 11 a.pc)
    let s := s.dropCopies n
    let s := (s.setAnv n { s.anv n with cops := [], slot := none, shadow := none, overrun := true, haltReq := false, skipBp := false }).setAnvState n anWait
    if a.haltReq then s.anvHalt n false else s
  else if s.anvState n = anHalted then s.setAnv n { s.anv n with passed := true }
  else s

/-- The anvil is loaded. -/
def State.anvLoaded (s : State) (n : Nat) : Bool := s.anvState n != anEmpty

/-- SRST or EN = 0 stops the anvil (R308): handles emptied, registers at their reset values, memories kept. (Log entry 59: DEDUCED.) -/
def State.anvStop (s : State) (n : Nat) : State :=
  let s := s.emptyHandles n true
  let s := ((s.cancelled n (s.anv n).cops.length).dropCopies n).setAnv n {}
  let s := if s.anvLoaded n then s.setAnvState n anHalted else s
  (s.setB (Regs.ANV_STAT n) 29 false).setW (Regs.ANV_PC n) 0

end Sys2Proof.Machine
end

