-- ==== Sys2Proof/Machine/Pll.lean ====
section
/-!
DEFINITION. PLLB, which makes the hearth clock follow an external frame clock (R90 to R93): its reference, its lock, the limit on its pull,
and holdover.
-/

namespace Sys2Proof.Machine

/-- CLK's page. -/
def pgClk : Nat := 0x01

/-- REF = FOLLOW. -/
def State.following (s : State) : Bool := s.f Regs.CLK_HEARTH 4 2 == 1

/-- PLLB's pull in 1/16 ppm. -/
def State.pllbPull (s : State) : Int := sext 16 (s.f Regs.CLK_STAT 16 16)

/-- The RATE code of the frame clock that REF_PORT names: an RX side's nominal rate, or the rate the receiver shows (R90). -/
def State.refRate (s : State) : Nat :=
  let p := s.f Regs.CLK_HEARTH 8 4
  if p < 6 then bits (s.w (if s.b (Regs.SAP_RX_CLK p) 16 then Regs.SAP_TX_CLK p else Regs.SAP_RX_CLK p)) 4 4 else s.f Regs.SPDIF_STAT 8 4

/-- REF_PORT's own side is declared in STALL or LOSS (R92). -/
def State.refLost (s : State) : Bool :=
  let p := s.f Regs.CLK_HEARTH 8 4
  [3, 4].contains (if p < 6 then s.f (Regs.SAP_STAT p) 4 4 else s.f Regs.SPDIF_STAT 0 4)

/-- The source runs at a nominal rate that PLLB can follow: 16, 24, 32, 48, 96 or 192 kHz (R91). -/
def State.refOk (s : State) : Bool := [3, 5, 6, 8, 0xA, 0xC].contains s.refRate && !s.refLost

/-- Strokes that a move of PLLB's pull by `d` sixteenths of a ppm takes, at 1 ppm per stroke (R91). -/
def pullStrokes (d : Int) : Nat := (d.natAbs + 15) / 16

/-- The followed source returns: tracking resumes from the held fraction (R92). -/
def State.pllbResume (s : State) : State :=
  if s.following ∧ s.b Regs.CLK_STAT 4 then
    ({ s with power := { s.power with pllbAt := s.tb } }.setB Regs.CLK_STAT 4 false).clearFault 0x02 pgClk
  else s

/-- The tracking error has stayed within 2 ppm for 64 strokes: PLLB_LOCK; `pull` is the pull that the source needs, in 1/16 ppm. A source
beyond the limit of 1,000 ppm takes the pull to the limit and no lock (R91, R92). (Log entry 28: DEDUCED.) -/
def State.pllbLock (s : State) (pull : Int) : State :=
  if s.awake ∧ s.following ∧ s.refOk then
    let p := if pull > 16000 then 16000 else if pull < -16000 then -16000 else pull
    let s := s.pllbResume
    let n := pullStrokes (p - s.pllbPull) + (64 - s.power.pllbRun)
    let s := s.reach (s.power.pllbAt + n * s.strokeLen)
    let s := s.setF Regs.CLK_STAT 16 16 (unsign 16 p)
    let ok := decide ((pull - p).natAbs ≤ 32)
    { s with power := { s.power with pllbAt := s.tb, pllbRun := if ok then 64 else 0 } }.setB Regs.CLK_STAT 3 ok
  else s

/-- The error leaves 20 ppm: PLLB_LOCK clears (R92). -/
def State.pllbUnlock (s : State) : State :=
  { s with power := { s.power with pllbAt := s.tb, pllbRun := 0 } }.setB Regs.CLK_STAT 3 false

/-- The followed source stalls, is lost or removed: holdover, with the last fraction held (R92). The lock ends with the source.
(Log entry 87: DESIGN CHOICE.) -/
def State.pllbHoldover (s : State) : State :=
  if s.awake ∧ s.following ∧ s.b Regs.CLK_STAT 4 = false then
    (s.pllbUnlock.setB Regs.CLK_STAT 4 true).raiseLocal 0x02 pgClk 0
  else s

/-- A side of port `p` is declared STALL or LOSS: holdover where REF_PORT names it (R92). -/
def State.refStalled (s : State) (p : Nat) : State := if s.f Regs.CLK_HEARTH 8 4 = p then s.pllbHoldover else s

/-- The source on port `p` returns (R92). -/
def State.refReturned (s : State) (p : Nat) : State := if s.f Regs.CLK_HEARTH 8 4 = p then s.pllbResume else s

/-- A changed reference (R90): the lock ends; PLLA follows the fast source alone under LOCAL, without a pull and without holdover.
(Log entry 28: DEDUCED.) -/
def State.refChanged (s : State) : State :=
  let s := s.pllbUnlock
  if s.following then s else ((s.setB Regs.CLK_STAT 4 false).setF Regs.CLK_STAT 16 16 0).clearFault 0x02 pgClk

end Sys2Proof.Machine
end

