-- ==== Sys2Proof/Machine/Ports.lean ====
section
/-!
DEFINITION. The serial audio ports and the IEC 60958 receiver (chapter 07): formats, starts and their checks, frames received and sent,
abnormal frames, stalls, shared lines and the receiver's subframes. Sides are numbered SAPn TX 2n, SAPn RX 2n + 1, the receiver 12.
-/

namespace Sys2Proof.Machine

/-! ### Geometry and clocking (R190 to R199) -/

/-- The record of side `i`. -/
def State.side (s : State) (i : Nat) : Side := s.sides.get {} i

/-- `s` with the record of side `i` replaced. -/
def State.setSide (s : State) (i : Nat) (x : Side) : State := { s with sides := s.sides.set {} i x }

/-- Side number of SAPn's TX or RX side. -/
def sapSide (n : Nat) (rx : Bool) : Nat := 2 * n + b2n rx

/-- Page of SAPn. -/
def pgSap (n : Nat) : Nat := 0x10 + n

/-- The receiver's page and side. -/
def pgSpdif : Nat := 0x17
/-- The receiver's side number. -/
def sideSpdif : Nat := 12

/-- Format word of a side. -/
def State.sapFmt (s : State) (n : Nat) (rx : Bool) : Word := s.w (if rx then Regs.SAP_RX_FMT n else Regs.SAP_TX_FMT n)

/-- Clocking word of a side; a sharing RX side uses the TX side's (R199). -/
def State.sapClk (s : State) (n : Nat) (rx : Bool) : Word :=
  if rx && !s.b (Regs.SAP_RX_CLK n) 16 then s.w (Regs.SAP_RX_CLK n) else s.w (Regs.SAP_TX_CLK n)

/-- Map word of a side. -/
def State.sapMap (s : State) (n : Nat) (rx : Bool) : Word := s.w (if rx then Regs.SAP_RX_MAP n else Regs.SAP_TX_MAP n)

/-- FORMAT is PDM (R219). -/
def fmtPdm (f : Word) : Bool := bits f 0 2 == 3

/-- Slot width W in bits. -/
def fmtSlotBits (f : Word) : Nat := [16, 24, 32].getD (bits f 2 2) 32

/-- Word width WW in bits; PDM ignores the field and fills the sample (R219). -/
def fmtWordBits (f : Word) : Nat := if fmtPdm f then 32 else [16, 20, 24, 32].getD (bits f 4 2) 32

/-- Slots of a frame. -/
def fmtSlots (f : Word) : Nat := if bits f 0 2 = 2 then bits f 16 5 else 2

/-- Bits of a frame (R194); 64 clocks make a PDM frame (R219). -/
def fmtFrameBits (f : Word) : Nat := if fmtPdm f then 64 else fmtSlots f * fmtSlotBits f

/-- The bit at which slot `i` begins (R194). -/
def fmtSlotStart (f : Word) (i : Nat) : Nat :=
  i * fmtSlotBits f + (match bits f 0 2 with | 0 => 1 | 2 => bits f 8 1 | _ => 0)

/-- Frame rates in Hz as RATE encodes them. -/
def rateHz (code : Nat) : Nat :=
  [8000, 11025, 12000, 16000, 22050, 24000, 32000, 44100, 48000, 88200, 96000, 176400, 192000].getD code 48000

/-- Nominal frame rate of a side. -/
def State.sapRate (s : State) (n : Nat) (rx : Bool) : Nat := bits (s.sapClk n rx) 4 4

/-- The RATE code of the hearth rate. -/
def State.hearthRate (s : State) : Nat := if s.b Regs.CLK_HEARTH 0 then 0xA else 0x8

/-- REF = FOLLOW with REF_PORT `p` and PLLB_LOCK (R198). (Log entry 46: DEDUCED.) -/
def State.follows (s : State) (p : Nat) : Bool :=
  s.f Regs.CLK_HEARTH 4 2 == 1 && s.f Regs.CLK_HEARTH 8 4 == p && s.b Regs.CLK_STAT 3

/-- The side's conditions of R198. Its frame edges come from SAPn's RX frame clock when it is the RX side or when its own pin is followed;
REF_PORT names RX frame clocks, so only an RX side that does not share can follow. A PDM side uses no frame clock (R219).
(Log entry 46: DEDUCED.) -/
def State.sapLockedCond (s : State) (n : Nat) (rx : Bool) : Bool :=
  let c := s.sapClk n rx
  bits c 4 4 == s.hearthRate &&
    (bit c 0 || (rx && !s.b (Regs.SAP_RX_CLK n) 16 && !bit c 1 && !fmtPdm (s.sapFmt n rx) && s.follows n))

/-- The enabled slots of a map word, rising: channel c is the c-th (R191). -/
def mapSlots (m : Word) : List Nat := setBitsOf 16 (bits m 0 16)

/-- Channels of a side with their queues. -/
def State.sapQueues (s : State) (n : Nat) (rx : Bool) : List Nat :=
  let m := s.sapMap n rx
  (List.range (mapSlots m).length).map (· + bits m 16 10)

/-- Unit identifier of channel `c` of a side (R191). -/
def sapUnit (n : Nat) (rx : Bool) (c : Nat) : Nat := unitId (pgSap n) (if rx then 0x10 + c else c)

/-- State code of a side: 0 STOPPED, 1 WAIT, 2 RUN, 3 STALL, 4 LOSS. -/
def State.sapState (s : State) (n : Nat) (rx : Bool) : Nat := s.f (Regs.SAP_STAT n) (if rx then 4 else 0) 4

/-- The side enters a state. -/
def State.setSapState (s : State) (n : Nat) (rx : Bool) (st : Nat) : State := s.setF (Regs.SAP_STAT n) (if rx then 4 else 0) 4 st

/-- The side is a master of both clocks, which never stalls (R210). A PDM side has no frame clock. -/
def State.sapNeverStalls (s : State) (n : Nat) (rx : Bool) : Bool :=
  let c := s.sapClk n rx
  bit c 0 && (bit c 1 || fmtPdm (s.sapFmt n rx))

/-- The side places its own frame edges: frame-clock master, or PDM on its own clock (R200). -/
def State.sapEdgesOwn (s : State) (n : Nat) (rx : Bool) : Bool :=
  let c := s.sapClk n rx
  if fmtPdm (s.sapFmt n rx) then bit c 0 else bit c 1

/-- Ticks of a frame of a side whose bit clock the device makes: 4 (BDIV + 1) ticks a bit (R87, R197). -/
def State.frameTicks (s : State) (n : Nat) (rx : Bool) : Nat := fmtFrameBits (s.sapFmt n rx) * (4 * (bits (s.sapClk n rx) 8 8 + 1))

/-- The first frame edge of a side that places its own: at its start sample, or on shared clocks that the other side has started the first
edge from then on (R199, R200). -/
def State.firstEdge (s : State) (n : Nat) (rx : Bool) : Nat :=
  let t := (s.side (sapSide n rx)).startAt
  let o := s.side (sapSide n !rx)
  let l := s.frameTicks n rx
  if s.b (Regs.SAP_RX_CLK n) 16 && s.sapState n (!rx) != 0 && o.began && decide (o.lastEdge < t) then
    o.lastEdge + (t - o.lastEdge + l - 1) / l * l
  else t

/-- The tick of the side's next frame edge, where `tick` is the one at the pin: a side that places its own edges begins at its start sample,
and goes on every F bits of the device's bit clock, or of the pin's (R197, R200). -/
def State.frameEdge (s : State) (n : Nat) (rx : Bool) (tick : Nat) : Nat :=
  let d := s.side (sapSide n rx)
  if s.sapEdgesOwn n rx then
    (if !d.began then s.firstEdge n rx else if bit (s.sapClk n rx) 0 then tbWrap (d.lastEdge + s.frameTicks n rx) else tick)
  else tick

/-- The bits of the frame that begins there: F where the side places its own edges, else as many as came up to the next edge. -/
def State.frameBits (s : State) (n : Nat) (rx : Bool) (nbits : Nat) : Nat :=
  if s.sapEdgesOwn n rx then fmtFrameBits (s.sapFmt n rx) else nbits

/-! ### Start checks (R192, R219, R225) -/

/-- Queue `q` is an enabled unpacked STREAM queue with unit `u` at the side's end. -/
def State.queueFits (s : State) (q u : Nat) (rx : Bool) : Bool :=
  let x := s.queue q
  x.on && !x.isRing && !x.packed && (if rx then x.producer else x.consumer) == u

/-- A start of the side passes R192 and R219. (Log entry 42: DEDUCED.) -/
def State.sapStartOk (s : State) (n : Nat) (rx : Bool) : Bool :=
  let f := s.sapFmt n rx
  let c := s.sapClk n rx
  let m := s.sapMap n rx
  let slots := mapSlots m
  let rate := rateHz (bits c 4 4)
  let pdm := fmtPdm f
  let ff := fmtFrameBits f
  s.sapState n rx == 0 && s.en (pgSap n) && !slots.isEmpty && slots.all (fun i => decide (i < fmtSlots f)) &&
    decide (bits m 16 10 + slots.length - 1 ≤ 1023) &&
    ((List.range slots.length).all fun i => s.queueFits (bits m 16 10 + i) (sapUnit n rx i) rx) &&
    decide (rate * ff ≤ 24576000) &&
    (if pdm then
        [3, 6, 7, 8, 9, 0xA].contains (bits c 4 4) && (!bit c 0 || 64 * rate * (bits c 8 8 + 1) == 24576000)
     else
        (!(bit c 0 && bit c 1) || rate * ff * (bits c 8 8 + 1) == 24576000) &&
        (rx || !bit f 10 || bits f 0 2 == 2)) &&
    (!s.b (Regs.SAP_RX_CLK n) 16 || fmtFrameBits (s.sapFmt n false) == fmtFrameBits (s.sapFmt n true))

/-- The bits of a start that PORT_START and SAPn.CMD name: side numbers that are not STOPPED, or fail R192, refuse. -/
def State.sapStart (s : State) (n : Nat) (rx : Bool) : State :=
  let t := s.sampleFrom s.tb
  let s := s.setSide (sapSide n rx) { startAt := t, lastEdge := t }
  s.setSapState n rx (if s.sapEdgesOwn n rx then 2 else 1)

/-! ### The RX side: billets (R201, R202, R205) -/

/-- The streams of these queues stall: placement fades them (R203, R211). -/
def State.stallStreams (s : State) (qs : List Nat) (v : Bool) : State :=
  qs.foldl (fun s q => let x := s.queue q; s.setQueue q { x with place := { x.place with stalled := v } }) s

/-- The open billets of a capture side are put, one per channel, with the samples collected (R201, R202). -/
def State.closeBillets (s : State) (i : Nat) (qs : List Nat) : State :=
  let d := s.side i
  let s := (List.range d.grants.length).foldl (fun s c =>
    let g := d.grants.getD c (0, 0)
    let smp := d.samples.getD c []
    let fl := d.filled.getD c 0
    s.capturePut (qs.getD c 0) g.1 g.2 fl
      { stamp := d.stamp % 2 ^ 32, count := smp.length, offset := 0xFF, flags := if fl = 0 then 0 else flFilled } smp) s
  s.setSide i { s.side i with grants := [], samples := [], filled := [] }

/-- Credits for the next billets of the queues `qs`: those already kept count; `true` when every channel has one (R205). -/
def State.sideCredits (s : State) (i : Nat) (qs : List Nat) : Bool × State :=
  let r := (List.range qs.length).foldl (fun (a : List (Nat × Nat × Nat) × State) c =>
    if a.1.any (fun x => x.1 == c) then a
    else match a.2.grant (qs.getD c 0) .producer with
      | (none, s) => (a.1, s)
      | (some b, s) => (a.1 ++ [(c, b, (s.queue (qs.getD c 0)).gen)], s)) ((s.side i).kept, s)
  if r.1.length = qs.length then
    let grants := (List.range qs.length).map fun c => ((r.1.find? fun x => x.1 == c).map (·.2)).getD (0, 0)
    (true, r.2.setSide i { r.2.side i with kept := [], grants := grants, samples := qs.map fun _ => [], filled := qs.map fun _ => 0 })
  else (false, r.2.setSide i { r.2.side i with kept := r.1 })

/-- One frame of samples for every channel of a capture side; a filled sample is marked (R206). An open billet is begun where none is
open; `ovf` happens where a credit is refused. -/
def State.acceptFrame (s : State) (i : Nat) (qs : List Nat) (stamp : Nat) (smp : List (Word × Bool)) (ovf : State → State) : State :=
  let r := if (s.side i).grants.isEmpty then s.sideCredits i qs else (true, s)
  if r.1 then
    let s := r.2
    let d := s.side i
    let stamp := if d.samples.all (·.isEmpty) then stamp else d.stamp
    s.setSide i { d with
      stamp := stamp
      samples := (List.range qs.length).map fun c => d.samples.getD c [] ++ [(smp.getD c (0, true)).1]
      filled := (List.range qs.length).map fun c => d.filled.getD c 0 + b2n (smp.getD c (0, true)).2 }
  else ovf (qs.foldl (fun s q => s.account q 1 0 1 0) r.2)

/-- Frames in the open billets. -/
def State.openFrames (s : State) (i : Nat) : Nat := ((s.side i).samples.getD 0 []).length

/-- The billets close after a frame whose edge falls at `tick`: a locked side at hearth-sample offset 15 or 31, any other after 16
frames (R202). -/
def State.closesAfter (s : State) (i : Nat) (locked : Bool) (tick : Nat) : Bool :=
  decide (16 ≤ s.openFrames i) ||
    (locked && (let o := (tick + s.sampleTicks / 2) / s.sampleTicks % 32; o == 15 || o == 31))

/-- Every grant a capture side holds returns to FREE unused: a stop with no open billet. -/
def State.dropKept (s : State) (i : Nat) (qs : List Nat) : State :=
  let s := (s.side i).kept.foldl (fun s x => s.returnGrant (qs.getD x.1 0) x.2.1 x.2.2) s
  s.setSide i { s.side i with kept := [] }

/-- A soft reset ends side `i` with a billet open: its granted billets return unput, and their samples count in RECEIVED and SLAG, as R654
gives for a line pair; placement meets the streams as those of a capture that has stopped. (Log entry 95: DEDUCED.) -/
def State.sideDrop (s : State) (i : Nat) (qs : List Nat) : State :=
  let d := s.side i
  let s := (List.range d.grants.length).foldl (fun (s : State) (c : Nat) =>
    let g := d.grants.getD c (0, 0)
    let n := (d.samples.getD c []).length
    let fl := d.filled.getD c 0
    (s.returnGrant (qs.getD c 0) g.1 g.2).account (qs.getD c 0) (n - fl) 0 n fl) s
  (s.dropKept i qs).stallStreams (if d.grants.isEmpty ∧ d.began = false then [] else qs) true

/-! ### The RX side: frames (R205 to R212) -/

/-- The group delay by which the stamps of a PDM side are corrected (R219, R234). (Log entry 45: DEDUCED.) -/
def pdmDelay : Nat := 98304

/-- The samples of a frame of `nbits` bits with the given slot words, lowest slot first: a slot is kept when its word arrived in full
(R196, R206); RX mute delivers zero (R204). -/
def State.rxSamples (s : State) (n nbits : Nat) (words : List Word) : List (Word × Bool) :=
  let f := s.sapFmt n true
  let mute := s.b (Regs.SAP_MUTE n) 1
  (mapSlots (s.sapMap n true)).map fun i =>
    if fmtSlotStart f i + fmtWordBits f ≤ nbits ∨ fmtFrameBits f ≤ nbits ∨ fmtPdm f then
      (if mute then 0 else Word.of (bits (words.getD i 0) 0 (fmtWordBits f) * 2 ^ (32 - fmtWordBits f)), false)
    else (0, true)

/-- The RX side stops: billets close, its streams fade (R203). -/
def State.rxStopNow (s : State) (n : Nat) : State :=
  let i := sapSide n true
  let qs := s.sapQueues n true
  (((s.closeBillets i qs).dropKept i qs).stallStreams qs true).setSapState n true 0

/-- The counts and causes of an abnormal frame; three in a row declare LOSS once the frame has been handled (R206 to R208). -/
def State.judgeFrame (s : State) (n nbits : Nat) : State :=
  let f := s.sapFmt n true
  let ff := fmtFrameBits f
  let i := sapSide n true
  if fmtPdm f ∨ nbits = ff then s.setSide i { s.side i with abnormal := 0 }
  else
    let s := s.setSide i { s.side i with abnormal := (s.side i).abnormal + 1 }
    if nbits < ff then (s.incF (Regs.SAP_RX_EVT n) 16 16).event (pgSap n) 1
    else (s.incF (Regs.SAP_RX_EVT n) 0 16).event (pgSap n) 2

/-- A declaration of LOSS (R208). -/
def State.rxLoss (s : State) (n : Nat) : State :=
  let i := sapSide n true
  let qs := s.sapQueues n true
  let s := ((s.closeBillets i qs).dropKept i qs).stallStreams qs true
  let s := s.setSide i { s.side i with abnormal := 0, exact := 0 }
  (((s.incF (Regs.SAP_RX_CNT n) 8 8).event (pgSap n) 3).setSapState n true 4).refStalled n

/-- A frame in LOSS is discarded; the second exact one in a row ends LOSS (R208). -/
def State.rxLossFrame (s : State) (n nbits : Nat) : State :=
  let i := sapSide n true
  let s := (s.sapQueues n true).foldl (fun s q => s.account q 1 0 1 0) s
  let d := s.side i
  if nbits = fmtFrameBits (s.sapFmt n true) then
    if d.exact = 1 then (s.setSide i { d with exact := 2 }).setSapState n true 2 else s.setSide i { d with exact := 1 }
  else s.setSide i { d with exact := 0 }

/-- A first accepted frame after STALL or LOSS: RESUMED (R212). -/
def State.rxResume (s : State) (n : Nat) : State :=
  let i := sapSide n true
  (((s.setSide i { s.side i with exact := 0, abnormal := 0 }).stallStreams (s.sapQueues n true) false).event (pgSap n) 9).refReturned n

/-- A frame is received by a running RX side (R201 to R209). -/
def State.rxRunFrame (s : State) (n tick nbits : Nat) (words : List Word) : State :=
  let i := sapSide n true
  let qs := s.sapQueues n true
  let s := s.stallStreams qs false
  let stamp := if fmtPdm (s.sapFmt n true) then unsign 64 ((tick : Int) - pdmDelay) else tick
  let s := s.acceptFrame i qs stamp (s.rxSamples n nbits words) fun s => (s.incF (Regs.SAP_RX_CNT n) 16 16).event (pgSap n) 0
  let s := s.judgeFrame n nbits
  let s := if s.closesAfter i (s.sapLockedCond n true) tick then s.closeBillets i qs else s
  let s := if 3 ≤ (s.side i).abnormal then s.rxLoss n else s
  if (s.side i).stopReq then s.rxStopNow n else s

/-- SAPn's RX side receives one frame whole: its edge at `tick`, `nbits` bits long, with the word of every slot (R194 to R212). Where the
side places its own edges, they follow from its start (R200). (Log entry 11: DESIGN CHOICE.) -/
def State.rxFrame (s : State) (n tick nbits : Nat) (words : List Word) : State :=
  let i := sapSide n true
  let st := s.sapState n true
  if s.audioOn (pgSap n) = false ∨ st = 0 ∨ (st = 1 ∧ tick < (s.side i).startAt) then s
  else
    let tick := s.frameEdge n true tick
    let nbits := s.frameBits n true nbits
    let s := s.reach tick
    let s := s.setSide i { s.side i with lastEdge := tick, began := true }
    if st = 4 then s.rxLossFrame n nbits
    else
      let s := if st = 3 ∨ (s.side i).exact = 2 then s.rxResume n else s
      (s.setSapState n true 2).rxRunFrame n tick nbits words

/-! ### The TX side (R196, R203, R204, R213, R214) -/

/-- Every billet waiting on queue `q` is released unplayed; how many samples that were. -/
def State.releaseWaiting (s : State) (q : Nat) : Nat × State :=
  (List.range (s.queue q).held).foldl (fun (a : Nat × State) _ =>
    match a.2.consume q with
    | (none, s) => (a.1, s)
    | (some b, s) => (a.1 + b.tag.count, s)) ((0 : Nat), s)

/-- Samples waiting on the queues of a TX side, and its FIFO, are released unplayed. DISCARD counts frames: a frame counts once, with the
first of its channels that is released (R203, R214). -/
def State.txDiscard (s : State) (n : Nat) : State :=
  let i := sapSide n false
  let r := (s.sapQueues n false).foldl (fun (a : List Nat × State) q => let x := a.2.releaseWaiting q; (a.1 ++ [x.1], x.2)) (([] : List Nat), s)
  let d := r.2.side i
  let dropped := (List.range r.1.length).map fun c => d.dropped.getD c 0 + (d.fifo.getD c []).length + r.1.getD c 0
  (r.2.setSide i { d with fifo := [], dropped := dropped }).addF (Regs.SAP_TX_EVT n) 0 16 (dropped.foldl max 0 - d.dropped.foldl max 0)

/-- The TX side stops (R203). -/
def State.txStopNow (s : State) (n : Nat) : State :=
  let s := s.txDiscard n
  (s.setSide (sapSide n false) {}).setSapState n false 0 |>.setF (Regs.SAP_LINE n) 0 16 0

/-- Channel `c` of SAPn's TX side has a sample waiting: in its FIFO, or in the next billet of its queue. -/
def State.txHas (s : State) (n c : Nat) : Bool :=
  !((s.side (sapSide n false)).fifo.getD c []).isEmpty ||
    (match (s.queue ((s.sapQueues n false).getD c 0)).ready with
     | [] => false
     | i :: _ => (s.itemBillet i).tag.count != 0)

/-- Where channel `c`'s FIFO is empty, the next billet of its queue is taken; `only` an empty billet, which holds no sample.
(Log entry 45: DEDUCED.) -/
def State.txRefill (s : State) (n : Nat) (only : Bool) : State :=
  let i := sapSide n false
  let qs := s.sapQueues n false
  (List.range qs.length).foldl (fun s c =>
    let d := s.side i
    let fifo := (List.range qs.length).map fun j => d.fifo.getD j []
    if (fifo.getD c []).isEmpty && (!only || !s.txHas n c) then
      match s.consume (qs.getD c 0) with
      | (none, s) => s.setSide i { s.side i with fifo := fifo }
      | (some b, s) => s.setSide i { s.side i with fifo := fifo.set c (b.samples.take b.tag.count) }
    else s.setSide i { d with fifo := fifo }) s

/-- A sample rounded convergently to `ww` bits, saturating, in the low bits of a word (R196). (Log entry 41: DEDUCED.) -/
def txRound (ww : Nat) (x : Word) : Word := Word.of (unsign ww (satS ww (roundConv (sext 32 x.toNat) (32 - ww))))

/-- One fade step: (i + 1) / 32 of a sample, rounded convergently (R176, R212, R214). (Log entry 41: DEDUCED.) -/
def fadeIn (i : Nat) (x : Word) : Word := Word.of (unsign 32 (roundConv (sext 32 x.toNat * (i + 1)) 5))

/-- One fade-out step: (31 - i) / 32 of a sample. (Log entry 41: DEDUCED.) -/
def fadeOut (i : Nat) (x : Word) : Word := Word.of (unsign 32 (roundConv (sext 32 x.toNat * (31 - (i : Int))) 5))

/-- The TX side's frame is sent where every channel has a sample waiting, else zeros, and nothing is consumed (R213); the missing samples of
a side outside the stroke weld count in FILL (R32, R178). The words sent stand in the side's record. -/
def State.txSend (s : State) (n : Nat) : State :=
  let i := sapSide n false
  let s := s.txRefill n true
  let qs := s.sapQueues n false
  let ww := fmtWordBits (s.sapFmt n false)
  if (List.range qs.length).all fun c => s.txHas n c then
    let s := s.txRefill n false
    let d := s.side i
    let smp := d.fifo.map fun l => l.headD 0
    let smp := if d.fade < 32 then smp.map (fadeIn d.fade) else smp
    let smp := if s.b (Regs.SAP_MUTE n) 0 then smp.map fun _ => 0 else smp
    s.setSide i { d with
      fifo := d.fifo.map (·.tail), prev := d.sent, sent := smp.map (txRound ww), fade := if d.fade < 32 then d.fade + 1 else 32 }
  else
    let d := s.side i
    let s := if s.sapLockedCond n false then s else qs.foldl (fun s q => s.account q 0 1 0 1) s
    ((s.setSide i { d with prev := d.sent, sent := qs.map fun _ => 0 }).incF (Regs.SAP_TX_EVT n) 16 16).event (pgSap n) 5

/-! ### Shared line (R215 to R217) -/

/-- A disagreement of read-back on an owned slot: kind 0 at the quarter point of its first bit, 1 at the three-quarter point of its last
bit, 2 at the half point of either (R216, R217). Kinds 3 and 4, the three-quarter point of the first bit and the quarter point of the last,
release the driver for the rest of that bit as the others do (R215), and nothing more. -/
def State.lineDisagree (s : State) (n slot kind : Nat) : State :=
  let i := sapSide n false
  let d := s.side i
  let d := { d with cut := d.cut ++ [(slot, kind)] }
  if !(mapSlots (s.sapMap n false)).contains slot ∨ s.b (Regs.SAP_LINE n) slot then s
  else if 2 < kind then s.setSide i d
  else if kind = 2 then
    ((s.setSide i { d with clean := d.clean.set 0 slot 0 }).setB (Regs.SAP_LINE n) slot true).incF (Regs.SAP_TX_CNT n) 0 8 |>.event (pgSap n) 8
  else
    ((s.setSide i { d with guards := if d.guards.contains (slot, kind == 1) then d.guards else d.guards ++ [(slot, kind == 1)] }).incF
      (Regs.SAP_LINE n) 16 16).event (pgSap n) 7

/-- A frame of every released slot: clean where its half-point reading agrees (R217). -/
def State.lineClean (s : State) (n : Nat) (bad : List Nat) : State :=
  let i := sapSide n false
  (mapSlots (s.sapMap n false)).foldl (fun s slot =>
    if s.b (Regs.SAP_LINE n) slot then
      let d := s.side i
      s.setSide i { d with clean := d.clean.set 0 slot (if bad.contains slot then 0 else d.clean.get 0 slot + 1) }
    else s) s

/-- After 16 consecutive clean frames a released slot resumes full drive (R217). -/
def State.slotResume (s : State) (n slot : Nat) : State :=
  let d := s.side (sapSide n false)
  if s.b (Regs.SAP_LINE n) slot ∧ 16 ≤ d.clean.get 0 slot ∧ slot < 16 then
    (s.setSide (sapSide n false) { d with clean := d.clean.set 0 slot 0 }).setB (Regs.SAP_LINE n) slot false
  else s

/-- The frame edge of SAPn's TX side at `tick`; the frame lasts `nbits` bits; `line` lists read-back disagreements: slot and kind
(R213 to R217). -/
def State.txFrame (s : State) (n tick nbits : Nat) (line : List (Nat × Nat)) : State :=
  let i := sapSide n false
  let st := s.sapState n false
  if s.audioOn (pgSap n) = false ∨ st = 0 ∨ (st = 1 ∧ tick < (s.side i).startAt) then s
  else
    let tick := s.frameEdge n false tick
    let nbits := s.frameBits n false nbits
    let s := s.reach tick
    if (s.side i).stopReq then s.txStopNow n
    else
      let s := if st = 3 then let s := s.txDiscard n; s.setSide i { s.side i with fade := 0 } else s
      let s := s.setSide i { s.side i with lastEdge := tick, began := true, dropped := [], cut := [] }
      let s := (s.setSapState n false 2).txSend n
      let f := s.sapFmt n false
      let s :=
        if fmtPdm f ∨ nbits = fmtFrameBits f then s
        else if nbits < fmtFrameBits f then s.incF (Regs.SAP_TX_CNT n) 24 8
        else s.incF (Regs.SAP_TX_CNT n) 16 8
      if bit f 10 && !fmtPdm f then
        let bad := (line.filter fun x => x.2 == 2).map (·.1)
        line.foldl (fun s x => s.lineDisagree n x.1 x.2) (s.lineClean n bad)
      else s

/-! ### Stall, stop and soft reset (R203, R210) -/

/-- The tick at which a side stalls: two frame periods after its last edge (R210). -/
def State.stallTick (s : State) (n : Nat) (rx : Bool) : Nat :=
  (s.side (sapSide n rx)).lastEdge + (2 * 98304000 + rateHz (s.sapRate n rx) - 1) / rateHz (s.sapRate n rx)

/-- No frame edge, or no target bit clock, for two frame periods: STALL (R210). -/
def State.sapStall (s : State) (n : Nat) (rx : Bool) : State :=
  let st := s.sapState n rx
  if s.audioOn (pgSap n) ∧ (st = 2 ∨ st = 4) ∧ s.sapNeverStalls n rx = false then
    let s := s.reach (s.stallTick n rx)
    if rx then
      let i := sapSide n true
      let qs := s.sapQueues n true
      let s := ((s.closeBillets i qs).dropKept i qs).stallStreams qs true
      let s := (((s.incF (Regs.SAP_RX_CNT n) 0 8).event (pgSap n) 4).setSapState n true 3).refStalled n
      let s := s.setSide i { s.side i with abnormal := 0, exact := 0 }
      if (s.side i).stopReq then s.rxStopNow n else s
    else
      let s := (((s.incF (Regs.SAP_TX_CNT n) 8 8).event (pgSap n) 6).setSapState n false 3).txDiscard n
      if (s.side (sapSide n false)).stopReq then s.txStopNow n else s
  else s

/-- A stop of a side: at the end of the current frame, or at once in WAIT, STALL or LOSS; a STOPPED side ignores it (R193, R203). -/
def State.sapStop (s : State) (n : Nat) (rx : Bool) : State :=
  let st := s.sapState n rx
  let i := sapSide n rx
  if st = 0 then s
  else if st = 2 then s.setSide i { s.side i with stopReq := true }
  else if rx then s.rxStopNow n else s.txStopNow n

/-- A stalled TX side releases what it receives (R214). -/
def State.txStalledDrain (s : State) : State :=
  (List.range 6).foldl (fun s n => if s.sapState n false = 3 then s.txDiscard n else s) s

/-- A write of SAPn.CMD sets both the start and the stop bit of a side, or starts a side that may not start (R192, R193). -/
def State.sapCmdRefused (s : State) (n : Nat) (v : Word) : Bool :=
  (bit v 0 && !s.sapStartOk n false) || (bit v 1 && !s.sapStartOk n true)

/-- A write of SAPn.CMD: each side named starts when it passes its checks, and stops; a refused start is recorded with RANGE while the
other side's command acts (R192, R193, R200). -/
def State.writeSapCmd (s : State) (n : Nat) (v : Word) : State :=
  let bad := s.sapCmdRefused n v
  let one := fun (s : State) (rx ok : Bool) => if ok && s.sapStartOk n rx then s.sapStart n rx else s
  let s := one (one s false (bit v 0)) true (bit v 1)
  let s := if bit v 2 then s.sapStop n false else s
  let s := if bit v 3 then s.sapStop n true else s
  if bad then s.range (pgSap n) 0x05C else s

/-! ### The IEC 60958 receiver (R223 to R230) -/

/-- Queues of subframes A and B. -/
def State.spdifQueues (s : State) : List Nat :=
  let q := s.f Regs.SPDIF_CTRL 16 10
  [q, q + 1]

/-- The receiver's state code. -/
def State.spdifState (s : State) : Nat := s.f Regs.SPDIF_STAT 0 4

/-- The receiver's condition of R225 for being locked. -/
def State.spdifLockedCond (s : State) : Bool := s.follows 6 && s.f Regs.SPDIF_STAT 8 4 == s.hearthRate

/-- A start of the receiver passes the checks of R192 that concern it. -/
def State.spdifStartOk (s : State) : Bool :=
  let q := s.f Regs.SPDIF_CTRL 16 10
  s.spdifState == 0 && s.en pgSpdif && decide (q + 1 ≤ 1023) && s.queueFits q 0x1700 true && s.queueFits (q + 1) 0x1701 true

/-- The receiver starts: WAIT (R225). -/
def State.spdifStart (s : State) : State :=
  ((s.setSide sideSpdif { startAt := s.sampleFrom s.tb }).setF Regs.SPDIF_STAT 0 4 1).setF Regs.SPDIF_STAT 8 4 0xF

/-- Non-PCM holds: the channel status says so, or a burst preamble lies within 8,192 frames (R228). -/
def State.spdifNonpcm (s : State) : Bool := (s.side sideSpdif).csBad || (s.side sideSpdif).burst.isSome

/-- STAT.NONPCM follows, and is raised on a change. -/
def State.spdifFlags (s : State) : State :=
  let np := s.spdifNonpcm
  if s.b Regs.SPDIF_STAT 5 = np then s else (s.setB Regs.SPDIF_STAT 5 np).event pgSpdif 1

/-- The oldest held frame is released to the queues (R226); under non-PCM its samples are zeros flagged FILLED that count in SLAG and in
FILL (R228), as the samples replaced under R227 do: a replaced sample was received, discarded, and filled. -/
def State.spdifRelease (s : State) : State :=
  match (s.side sideSpdif).hold with
  | [] => s
  | (stamp, smp) :: rest =>
    let s := s.setSide sideSpdif { s.side sideSpdif with hold := rest }
    let qs := s.spdifQueues
    if smp.isEmpty then s else
    let np := s.b Regs.SPDIF_STAT 5
    let smp := smp.map fun x => if np then ((0 : Word), true) else x
    let opens := !(s.side sideSpdif).grants.isEmpty
    let s := s.acceptFrame sideSpdif qs stamp smp id
    let s := if opens || !(s.side sideSpdif).grants.isEmpty then
        (List.range 2).foldl (fun s c => if (smp.getD c (0, false)).2 then s.account (qs.getD c 0) 1 0 1 0 else s) s
      else s
    if s.closesAfter sideSpdif s.spdifLockedCond stamp then s.closeBillets sideSpdif qs else s

/-- Every held frame is released and the billets close. (Log entry 44: DEDUCED.) -/
def State.spdifFlush (s : State) : State :=
  let s := s.spdifRelease.spdifRelease.spdifRelease
  (s.closeBillets sideSpdif s.spdifQueues).dropKept sideSpdif s.spdifQueues

/-- The receiver stops (R203, R225). -/
def State.spdifStopNow (s : State) : State :=
  let s := s.spdifFlush.stallStreams s.spdifQueues true
  ((s.setSide sideSpdif {}).setF Regs.SPDIF_STAT 0 4 0).setF Regs.SPDIF_STAT 4 8 0xF0 |>.spdifFlags

/-- A stop of the receiver: at the end of the current frame in RUN, else at once. -/
def State.spdifStop (s : State) : State :=
  if s.spdifState = 0 then s
  else if s.spdifState = 2 then s.setSide sideSpdif { s.side sideSpdif with stopReq := true }
  else s.spdifStopNow

/-- The subframe's sample and whether it was replaced (R224, R227); PARITY and VBIT count. -/
def State.spdifSample (s : State) (c : Nat) (x : Subframe) : (Word × Bool) × State :=
  let d := s.side sideSpdif
  let short := match d.block with | some b => !b.testBit 32 && !b.testBit 0 | none => false
  let w := Word.of (bits x.word 0 24 * 256)
  let w := if short then w &&& 0xFFFFF000 else w
  if x.parity = false then
    ((d.good.getD c 0, true), (s.incF Regs.SPDIF_EVT 16 16).event pgSpdif 3)
  else
    let s := s.setSide sideSpdif { d with good := d.good.set c w }
    if x.vbit then
      let s := s.incF Regs.SPDIF_EVT 0 16
      if s.b Regs.SPDIF_CTRL 2 then ((0, true), s) else ((w, false), s)
    else ((w, false), s)

/-- The burst preamble of R228: Pa in A and Pb in B. -/
def burstSeen (a b : Subframe) : Bool := bits a.word 8 16 == 0xF872 && bits b.word 8 16 == 0x4E1F

/-- A frame whose channel-status bits are lost: the block being assembled is given up, and the next one follows no complete one (R230). -/
def State.spdifCsLost (s : State) : State := s.setSide sideSpdif { s.side sideSpdif with csN := 192, csNext := false }

/-- Channel-status bits of a frame; `first` marks the first frame of a block (R230). A block that begins early, or a frame past the 192nd of
one, breaks the sequence of blocks. (Log entry 43: PRESUMED.) -/
def State.spdifCs (s : State) (first : Bool) (a b : Bool) : State :=
  let d := s.side sideSpdif
  let d := if first && d.csN != 192 then { d with csNext := false } else d
  let k := if first then 0 else d.csN
  if 192 ≤ k then s.spdifCsLost
  else
    let ca := (if first then 0 else d.csA) + b2n a * 2 ^ k
    let cb := (if first then 0 else d.csB) + b2n b * 2 ^ k
    let s := s.setSide sideSpdif { d with csA := ca, csB := cb, csN := k + 1 }
    if k = 191 then
      let same := d.csNext && d.block == some ca
      let s := s.setSide sideSpdif { s.side sideSpdif with csNext := true, block := some ca, blockB := some cb, csBad := ca.testBit 0 || ca.testBit 1 }
      let s := (s.setB Regs.SPDIF_STAT 6 (ca != cb)).setB Regs.SPDIF_STAT 7 (ca.testBit 0)
      if same then
        ((List.range 6).foldl (fun s i => s.setW (Regs.SPDIF_CS i) (Word.of (ca / 2 ^ (32 * i)))) s).event pgSpdif 2
      else s
    else s

/-- One frame at the receiver: the tick of its first preamble's leading transition, whether preambles and coding are valid, whether it
begins a block, and its two subframes (R225 to R230). (Log entry 44: DEDUCED.) -/
def State.spdifFrame (s : State) (tick : Nat) (good first : Bool) (a b : Subframe) : State :=
  let st := s.spdifState
  if s.audioOn pgSpdif = false ∨ st = 0 ∨ tick < (s.side sideSpdif).startAt then s
  else
    let s := s.reach tick
    let d := s.side sideSpdif
    let s := s.setSide sideSpdif { d with
      lastEdge := if good then tick else d.lastEdge
      abnormal := if good then 0 else d.abnormal + 1
      exact := if good then d.exact + 1 else 0
      burst := if good && burstSeen a b then some 0 else match d.burst with | some k => if k + 1 < 8192 then some (k + 1) else none | none => none }
    let s := if good then s.spdifCs first a.cs b.cs else s.spdifCsLost
    let s := s.spdifFlags
    if st = 2 then
      let s :=
        if good then
          let ra := s.spdifSample 0 a
          let rb := ra.2.spdifSample 1 b
          let s := rb.2
          let s := s.setSide sideSpdif { s.side sideSpdif with hold := (s.side sideSpdif).hold ++ [(tick, [ra.1, rb.1])] }
          if 2 < (s.side sideSpdif).hold.length then s.spdifRelease else s
        else
          let s := s.spdifQueues.foldl (fun s q => s.account q 1 0 1 0) s
          let s := s.setSide sideSpdif { s.side sideSpdif with hold := (s.side sideSpdif).hold ++ [(tick, [])] }
          if 2 < (s.side sideSpdif).hold.length then s.spdifRelease else s
      let s :=
        if 3 ≤ (s.side sideSpdif).abnormal then
          let s := s.spdifFlush.stallStreams s.spdifQueues true
          (((s.incF Regs.SPDIF_EVT2 8 8).event pgSpdif 4).setF Regs.SPDIF_STAT 0 4 4).refStalled 6
        else s
      if (s.side sideSpdif).stopReq then s.spdifStopNow else s
    else s

/-- After 16 consecutive valid frames the receiver enters RUN and shows the nominal rate measured, a code of R224 (R225, R229). -/
def State.spdifLock (s : State) (rate : Nat) : State :=
  let st := s.spdifState
  if s.audioOn pgSpdif ∧ (st = 1 ∨ st = 3 ∨ st = 4) ∧ 16 ≤ (s.side sideSpdif).exact ∧ [6, 7, 8, 9, 0xA, 0xB, 0xC].contains rate then
    let s := (((s.setF Regs.SPDIF_STAT 0 4 2).setF Regs.SPDIF_STAT 8 4 rate).event pgSpdif 0).stallStreams s.spdifQueues false
    (s.refReturned 6).spdifFlags
  else s

/-- Two frame periods without a valid preamble at the last rate shown: STALL (R229). -/
def State.spdifStall (s : State) : State :=
  if s.audioOn pgSpdif ∧ (s.spdifState = 2 ∨ s.spdifState = 4) then
    let r := rateHz (s.f Regs.SPDIF_STAT 8 4)
    let s := s.reach ((s.side sideSpdif).lastEdge + (2 * 98304000 + r - 1) / r)
    let s := s.spdifFlush.stallStreams s.spdifQueues true
    let s := (s.setSide sideSpdif { s.side sideSpdif with exact := 0, abnormal := 0 }).spdifCsLost
    let s := (((s.incF Regs.SPDIF_EVT2 0 8).event pgSpdif 5).setF Regs.SPDIF_STAT 0 4 3).refStalled 6
    if (s.side sideSpdif).stopReq then s.spdifStopNow else s
  else s

/-- A write of SPDIF.CTRL: START and STOP; a refused start is recorded with RANGE (R192, R193, R225). -/
def State.writeSpdifCtrl (s : State) (v : Word) : State :=
  if bit v 3 then (if s.spdifStartOk then s.spdifStart else s.range pgSpdif 0x040)
  else if bit v 4 then s.spdifStop
  else s

end Sys2Proof.Machine
end

