-- ==== Sys2Proof/Machine/Placement.lean ====
section
/-!
DEFINITION. The placement stage (chapter 08): the three ways onto the hearth grid, stale and missing billets, fades, path changes and the
stream counters.
-/

namespace Sys2Proof.Machine

/-- Page of the capture unit that fills queue `q`. -/
def State.capturePage (s : State) (q : Nat) : Nat := (s.queue q).producer / 256

/-- The stream is locked: under R198 for a SAP side, under R225 for the receiver; an on-chip channel always is (R233). -/
def State.streamLocked (s : State) (q : Nat) : Bool :=
  let u := s.capturePage q
  if 0x10 ≤ u ∧ u < 0x16 then s.sapLockedCond (u - 0x10) true
  else if u = 0x17 then s.spdifLockedCond
  else true

/-- The whole-stroke capture delay g (R234). -/
def State.captureStrokes (s : State) (q : Nat) : Nat :=
  let u := s.capturePage q
  let fast := s.b Regs.CLK_HEARTH 0
  if 0x10 ≤ u ∧ u < 0x16 then (if fmtPdm (s.sapFmt (u - 0x10) true) then (if fast then 3 else 2) else 0)
  else if u = 0x24 then (if fast then 3 else 2)
  else if u = 0x26 then (if fast then 2 else 1)
  else 0

/-- The nominal rate of a stream in Hz (R246). -/
def State.streamRate (s : State) (q : Nat) : Nat :=
  let u := s.capturePage q
  if 0x10 ≤ u ∧ u < 0x16 then rateHz (s.sapRate (u - 0x10) true)
  else if u = 0x17 then rateHz (s.f Regs.SPDIF_STAT 8 4)
  else rateHz s.hearthRate

/-- Page of ASRC engine `n`. -/
def pgAsrc (n : Nat) : Nat := 0x18 + n

/-- The channels of engine `n` in use: channel 0, and channel 1 with CH1_EN (R238). -/
def State.asrcChans (s : State) (n : Nat) : List Nat := if s.b (Regs.ASRC_CFG n) 1 then [0, 1] else [0]

/-- Source queue of channel `c` of engine `n`. -/
def State.asrcSrc (s : State) (n c : Nat) : Nat := s.f (if c = 0 then Regs.ASRC_CH0_Q n else Regs.ASRC_CH1_Q n) 16 10

/-- Destination queue of channel `c` of engine `n`. -/
def State.asrcDst (s : State) (n c : Nat) : Nat := s.f (if c = 0 then Regs.ASRC_CH0_Q n else Regs.ASRC_CH1_Q n) 0 10

/-- The engine and channel that bind stream `q` (R233). -/
def State.boundBy (s : State) (q : Nat) : Option (Nat × Nat) :=
  (((List.range 12).filter fun n => s.en (pgAsrc n) && !s.b (Regs.ASRC_CFG n) 0).flatMap fun n =>
    ((s.asrcChans n).filter fun c => s.asrcSrc n c == q).map fun c => (n, c)).head?

/-- The way of R233 that the stream takes now. -/
def State.streamPath (s : State) (q : Nat) : Nat :=
  if s.streamLocked q then 0 else if (s.boundBy q).isSome then 1 else 2

/-- The patch table names the stream's consumer, or an engine binds it. -/
def State.streamServed (s : State) (q : Nat) : Bool :=
  let x := s.queue q
  x.on && x.isInput && !x.isRing && (s.peekRoute x.consumer true == some q || (s.boundBy q).isSome)

/-- Latency difference between conversion and bypass in hearth samples: A + FD - 32 (1 + g) (R236). -/
def State.pathDelta (s : State) (q : Nat) : Int :=
  match s.boundBy q with
  | none => 0
  | some (n, _) =>
    (s.f (Regs.ASRC_STAT n) 8 8 : Int) + (if s.b (Regs.ASRC_CFG n) 4 then 4 else 8) - 32 * (1 + s.captureStrokes q)

/-- The accounting of a path change: zeros inserted count in FILL and are handed on, samples discarded count in SLAG (R236).
(Log entry 47: DEDUCED.) -/
def State.changeAccount (s : State) (q : Nat) (toConv : Bool) : State :=
  let d := if toConv then s.pathDelta q else -s.pathDelta q
  if d ≥ 0 then s.account q 0 d.toNat 0 d.toNat else s.account q (-d).toNat 0 (-d).toNat 0

/-- A record of the stream's placement replaced. -/
def State.setPlace (s : State) (q : Nat) (p : Placement) : State := s.setQueue q { s.queue q with place := p }

/-- The record of the engine that binds stream `q` changed by `f`. -/
def State.atEngine (s : State) (q : Nat) (f : Asrc → Asrc) : State :=
  match s.boundBy q with
  | none => s
  | some (n, _) => { s with asrc := s.asrc.set {} n (f (s.asrc.get {} n)) }

/-- ASRCn.STAT.BYPASS of the engine that binds stream `q` (R239). -/
def State.showBypass (s : State) (q : Nat) (v : Bool) : State :=
  match s.boundBy q with
  | none => s
  | some (n, _) => if s.b (Regs.ASRC_STAT n) 4 = v then s else s.setB (Regs.ASRC_STAT n) 4 v

/-- The boundary of a change between bypass (0) and conversion (1), whose new path is `c` (R236): the path fades in, after the zeros that
the longer way inserts. The engine's grid begins with the stroke. (Log entry 47: DEDUCED.) -/
def State.changePath (s : State) (q : Nat) (c : Nat) : State :=
  let p := (s.queue q).place
  let d := if c = 1 then s.pathDelta q else -s.pathDelta q
  let t := s.boundaryTick s.strokeNo
  let s := s.setPlace q { p with path := c, change := none, inPos := 0, outPos := none, spill := 0, hush := if c = 0 then d.toNat else 0 }
  let s := s.atEngine q fun e =>
    if c = 1 then { e with next := t, fade := 0, fadeOut := false, skip := d.toNat, acc := [[], []], filled := false, late := false }
    else { e with fade := 32, fadeOut := false, skip := 0, acc := [[], []], filled := false }
  (s.showBypass q (c == 0)).changeAccount q (c == 1)

/-- The paths of the served streams at a boundary (R233, R235, R236, R650). A change between bypass and conversion comes a stroke after the
lock that causes it, and what the stream plays fades to zero before it. (Log entry 47: DEDUCED.) -/
def State.placePath (s : State) (q : Nat) : State :=
  if s.streamServed q then
    let p := (s.queue q).place
    let w := s.streamPath q
    if p.path = 3 then
      let s := (s.setPlace q { p with path := w, next := s.strokeNo, spill := 0 }).showBypass q (w == 0)
      if w = 2 then s.event pgPatch 1 else s
    else if p.change.isSome then s.changePath q (p.change.getD 0)
    else if p.path = w then s
    else if w = 1 ∧ p.path = 0 then s.setPlace q { p with change := some 1 }
    else if w = 0 ∧ p.path = 1 then (s.setPlace q { p with change := some 0 }).atEngine q fun e => { e with fade := 0, fadeOut := true }
    else if w = 2 then ((s.setPlace q { p with path := 2 }).showBypass q false).event pgPatch 1
    else (s.setPlace q { p with path := w, inPos := 0 }).showBypass q (w == 0)
  else s

/-- Every enabled input stream's path at a boundary. -/
def State.placePaths (s : State) : State := (s.stock.queues.map (·.1)).foldl (fun s q => s.placePath q) s

/-! ### Placing one stroke (R234, R650) -/

/-- The hearth-grid index of an item: the sample nearest its stamp. (Log entry 47: DEDUCED.) -/
def State.gridIndex (s : State) (t : Tag) : Nat := (s.fullStamp t.stamp + s.sampleTicks / 2) / s.sampleTicks

/-- An item that placement discards: its samples count as R246 gives and its billet returns to FREE. -/
def State.discardItem (s : State) (q : Nat) (i : QItem) : State :=
  let n := (s.itemBillet i).tag.count
  let f := s.itemFilled i
  (s.releaseItem i).account q (n - f) 0 n f

/-- The samples of a placed span under the running fade-in, with the fade's new position. (Log entry 41: DEDUCED.) -/
def fadeSpan (pos : Nat) (l : List Word) : List Word × Nat :=
  if 32 ≤ pos then (l, pos)
  else ((List.range l.length).map fun j => if pos + j < 32 then fadeIn (pos + j) (l.getD j 0) else l.getD j 0, min 32 (pos + l.length))

/-- An item of the placement stroke is placed at its OFFSET and handed on. -/
def State.placeItem (s : State) (q : Nat) (i : QItem) : State :=
  let x := s.queue q
  let p := x.place
  let off := s.gridIndex (s.itemBillet i).tag % 32
  let n := (s.itemBillet i).tag.count
  let fl := s.itemFilled i
  let l := ((List.range n).zip ((s.itemBillet i).samples.take n)).map fun v => if v.1 < p.hush then 0 else v.2
  let r := fadeSpan (if p.outPos.isSome then 0 else p.inPos) l
  let p := { p with inPos := r.2, outPos := none, last := r.1.getLastD p.last, hush := p.hush - n }
  let y := { (x.account (n - fl) n 0 fl) with place := p, fresh := x.fresh + b2n x.gap }
  match i with
  | .billet b =>
    let bl := s.billet b
    let s := s.setBillet b { tag := { bl.tag with offset := off }, data := packSamples bl.tag.packed r.1 }
    s.setQueue q { y with placed := x.placed ++ [i] }
  | .made t _ => s.setQueue q { y with placed := x.placed ++ [.made { t with offset := off } (packSamples t.packed r.1)] }

/-- Samples at a nominal rate of `rate` Hz that offsets `off` to `off + n - 1` of a stroke span, one per period (R246). -/
def State.nominalSpan (s : State) (rate off n : Nat) : Nat :=
  let h := rateHz s.hearthRate
  (off + n) * rate / h - off * rate / h

/-- FILLED samples at offsets `off` to `off + n - 1` of stroke `k`: the fade from the last placed sample, then zeros (R211, R650). They count
in FILL at the stream's nominal rate (R246). -/
def State.placeFill (s : State) (q k off n : Nat) : State :=
  let x := s.queue q
  let p := x.place
  let pos := p.outPos.getD 0
  let data := (List.range n).map fun j => if pos + j < 32 then fadeOut (pos + j) p.last else 0
  let t : Tag := { stamp := (s.boundaryTick k + off * s.sampleTicks) % 2 ^ 32, count := n, offset := off, domain := x.domain, flags := flFilled, packed := x.packed }
  let pos := min 32 (pos + n)
  let c := s.nominalSpan (s.streamRate q) off n
  s.setQueue q { (x.account 0 c 0 c) with
    place := { p with outPos := some pos, inPos := 0, last := if pos = 32 then 0 else p.last }
    placed := x.placed ++ [.made t (packSamples x.packed data)]
    fresh := x.fresh + b2n x.gap }

/-- FILLED samples at offsets `a` to `b - 1` of stroke `k`, each item within one half of the stroke. -/
def State.placeGap (s : State) (q k a b : Nat) : State :=
  let s := if a < min b 16 then s.placeFill q k a (min b 16 - a) else s
  if max a 16 < b then s.placeFill q k (max a 16) (b - max a 16) else s

/-- The items of placement stroke `k` in order, each placed at its offset with the gaps filled; one that begins before the end of the item
before it is discarded. The stroke's first samples may belong to the last item of the stroke before. (Log entry 47: DEDUCED.) -/
def State.placeStroke (s : State) (q k : Nat) (items : List QItem) : State :=
  let r := items.foldl (fun (a : Nat × State) i =>
    let off := a.2.gridIndex (a.2.itemBillet i).tag % 32
    if off < a.1 then (a.1, a.2.discardItem q i)
    else
      let n := (a.2.itemBillet i).tag.count
      (off + n, (a.2.placeGap q k a.1 off).placeItem q i)) ((s.queue q).place.spill, s)
  let s := r.2.placeGap q k r.1 32
  s.setPlace q { (s.queue q).place with spill := r.1 - 32 }

/-- The placement stroke `p` of a stream in bypass: stale billets are discarded, those of stroke p - 1 - g placed (R234, R650). -/
def State.placeBypass (s : State) (q p : Nat) : State :=
  let g := s.captureStrokes q
  let k := p - (1 + g)
  let items := (s.queue q).waiting
  let at_ := fun i => s.gridIndex (s.itemBillet i).tag / 32
  let stale := items.filter fun i => decide (at_ i < k)
  let now := items.filter fun i => at_ i == k
  let s := s.setQueue q { s.queue q with waiting := items.filter fun i => decide (k < at_ i) }
  let s := stale.foldl (fun s i => s.discardItem q i) s
  s.placeStroke q k now

/-- A stroke of a stream that places nothing but a fade and FILLED zeros while everything received is discarded (R235). -/
def State.placeHeld (s : State) (q p : Nat) : State :=
  let items := (s.queue q).waiting
  let s := s.setQueue q { s.queue q with waiting := [] }
  let s := items.foldl (fun s i => s.discardItem q i) s
  s.placeGap q (p - (1 + s.captureStrokes q)) 0 32

/-- A stroke before a path change: the placed audio fades to zero (R236). -/
def State.fadeStroke (s : State) (q : Nat) (from_ : Nat) : State :=
  let x := s.queue q
  let r := (x.placed.drop from_).foldl (fun (a : Nat × List QItem × State) i =>
    let bl := a.2.2.itemBillet i
    let smp := bl.samples.take bl.tag.count
    let out := packSamples bl.tag.packed ((List.range smp.length).map fun j => if a.1 + j < 32 then fadeOut (a.1 + j) (smp.getD j 0) else 0)
    match i with
    | .billet b => (a.1 + smp.length, a.2.1 ++ [i], a.2.2.setBillet b { bl with data := out })
    | .made t _ => (a.1 + smp.length, a.2.1 ++ [.made t out], a.2.2)) (0, [], s)
  r.2.2.setQueue q { r.2.2.queue q with placed := x.placed.take from_ ++ r.2.1 }

/-- The placement stage serves stream `q` in the current stroke, once (R234, R235, R650). A stream that is converted is placed by its
engine. -/
def State.bypassPlace (s : State) (q : Nat) : State :=
  let x := s.queue q
  let p := s.strokeNo
  if s.forging && s.streamServed q && x.place.path != 3 && decide (x.place.next ≤ p) then
    let s := (s.route x.consumer true).2
    let done := x.placed.length
    let s :=
      if x.place.path = 0 then s.placeBypass q p
      else if x.place.path = 2 then s.placeHeld q p
      else s
    let s := if x.place.change.isSome ∧ x.place.path = 0 then s.fadeStroke q done else s
    s.setPlace q { (s.queue q).place with next := p + 1 }
  else s

end Sys2Proof.Machine
end

