-- ==== Sys2Proof/Machine/Asrc.lean ====
section
/-!
DEFINITION. The rate converters (chapter 08): enable checks, the lock states, input billets and grid samples. The rate estimate and the
placement error, whose estimator the specification does not give, are operands of the input command; the interpolation is `Config`'s.
-/

namespace Sys2Proof.Machine

/-- The record of engine `n`. -/
def State.asrcEng (s : State) (n : Nat) : Asrc := s.asrc.get {} n

/-- `s` with the record of engine `n` replaced. -/
def State.setAsrc (s : State) (n : Nat) (x : Asrc) : State := { s with asrc := s.asrc.set {} n x }

/-- STAT.STATE: 0 IDLE, 1 ACQUIRE, 2 VALID, 3 LOCKED, 4 HOLD (R243). -/
def State.asrcState (s : State) (n : Nat) : Nat := s.f (Regs.ASRC_STAT n) 0 3

/-- The engine enters a state; STATE_CHG on a change. -/
def State.setAsrcState (s : State) (n st : Nat) : State :=
  if s.asrcState n = st then s else (s.setF (Regs.ASRC_STAT n) 0 3 st).event (pgAsrc n) 0

/-- Unit identifier of channel `c` of engine `n` (R237). -/
def asrcUnit (n c : Nat) : Nat := unitId (pgAsrc n) c

/-- DIR is OUT. -/
def State.asrcOut (s : State) (n : Nat) : Bool := s.b (Regs.ASRC_CFG n) 0

/-- Hearth rate in Hz. -/
def State.hearthHz (s : State) : Nat := rateHz s.hearthRate

/-- The nominal rate at the engine's foreign end. -/
def State.asrcNominal (s : State) (n : Nat) : Nat :=
  if s.asrcOut n then
    let u := (s.queue (s.asrcDst n 0)).consumer / 256
    if 0x10 ≤ u ∧ u < 0x16 then rateHz (s.sapRate (u - 0x10) false) else s.hearthHz
  else s.streamRate (s.asrcSrc n 0)

/-- A_min = 24 + ceil(12 Fh / Fi) (R240). -/
def State.asrcMin (s : State) (n : Nat) : Nat := 24 + (12 * s.hearthHz + s.asrcNominal n - 1) / s.asrcNominal n

/-- FD in hearth samples (R239). -/
def State.asrcFd (s : State) (n : Nat) : Nat := if s.b (Regs.ASRC_CFG n) 4 then 4 else 8

/-- (A + FD) S in ticks, A the latency in use. -/
def State.asrcDelay (s : State) (n : Nat) : Nat := (s.f (Regs.ASRC_STAT n) 8 8 + s.asrcFd n) * s.sampleTicks

/-- Queue `x`'s producer works on the hearth grid: placement for an input stream's forge side, a converter onto the grid, a chain, the mixer,
an anvil, or an RX slot of the link (R25, R238, R542). -/
def State.onGrid (s : State) (x : Queue) : Bool :=
  let u := x.producer / 256
  let c := x.producer % 256
  (decide (0x18 ≤ u ∧ u < 0x24) && !s.asrcOut (u - 0x18)) || decide (0x30 ≤ u ∧ u < 0x59) || (u == 0x09 && decide (0x80 ≤ c)) ||
    decide (0x80 ≤ u ∧ u < 0xC0) || (u == 0x7C && decide (0x10 ≤ c))

/-- One channel passes the checks of R238. -/
def State.asrcChanOk (s : State) (n c : Nat) : Bool :=
  let src := s.queue (s.asrcSrc n c)
  let dst := s.queue (s.asrcDst n c)
  let u := asrcUnit n c
  if s.asrcOut n then
    let p := dst.consumer / 256
    src.on && !src.isRing && src.consumer == u && s.onGrid src &&
      dst.on && !dst.isRing && !dst.packed && dst.producer == u &&
      decide (0x10 ≤ p ∧ p < 0x16) && decide (dst.consumer % 256 < 16) && !s.sapLockedCond (p - 0x10) false
  else
    src.on && !src.isRing && src.isInput && src.consumer == u && s.capturePage (s.asrcSrc n c) == s.capturePage (s.asrcSrc n 0) &&
      dst.on && !dst.isRing && !dst.packed && dst.producer == u

/-- Setting EN passes R238 and R242. -/
def State.asrcEnableOk (s : State) (n : Nat) : Bool :=
  let g := s.f (Regs.ASRC_CFG n) 16 4
  (s.asrcChans n).all (fun c => s.asrcChanOk n c) &&
    (!s.b (Regs.ASRC_CFG n) 20 ||
      (s.en (pgAsrc g) && g != n && !s.asrcOut g && !s.asrcOut n && s.capturePage (s.asrcSrc g 0) == s.capturePage (s.asrcSrc n 0)))

/-- The latency in use: A, or A_min with LAT_RAISED (R240). -/
def State.asrcLatency (s : State) (n : Nat) : State :=
  let a := s.f (Regs.ASRC_LAT n) 0 8
  let m := s.asrcMin n
  if a < m then ((s.setF (Regs.ASRC_STAT n) 8 8 m).setB (Regs.ASRC_STAT n) 3 true).event (pgAsrc n) 2
  else (s.setF (Regs.ASRC_STAT n) 8 8 a).setB (Regs.ASRC_STAT n) 3 false

/-- The engine starts in ACQUIRE (R238, R243). -/
def State.asrcStart (s : State) (n : Nat) : State :=
  let s := s.setAsrc n { next := s.sampleFrom s.tb }
  ((s.setAsrcState n 1).setW (Regs.ASRC_RATE n) 0).asrcLatency n

/-- EN = 0: IDLE. -/
def State.asrcStop (s : State) (n : Nat) : State :=
  ((s.setAsrc n {}).setAsrcState n 0).setF (Regs.ASRC_STAT n) 3 13 0

/-- Every enabled engine returns to ACQUIRE, at a change of the hearth rate (R232). -/
def State.asrcReacquire (s : State) : State :=
  (List.range 12).foldl (fun s n => if s.en (pgAsrc n) then s.asrcStart n else s) s

/-- The output fades to zero over one stroke and the engine enters ACQUIRE (R243). -/
def State.asrcAcquire (s : State) (n : Nat) : State :=
  (s.setAsrc n { s.asrcEng n with fade := 0, fadeOut := true, hist := [[], []] }).setAsrcState n 1

/-- A relock (R243): RELOCK counts it. -/
def State.asrcRelock (s : State) (n : Nat) : State := ((s.asrcAcquire n).incF (Regs.ASRC_EVT n) 16 16).event (pgAsrc n) 1

/-- The output of an engine that goes on is faded in over one stroke (R243). -/
def State.asrcFadeIn (s : State) (n : Nat) : State := s.setAsrc n { s.asrcEng n with fade := 0, fadeOut := false }

/-- Engine `n` follows another one. -/
def State.asrcGanged (s : State) (n : Nat) : Bool := s.b (Regs.ASRC_CFG n) 20

/-- A ganged engine has the lock state and the rate estimate of engine GANG, and fades with it (R242). -/
def State.asrcGang (s : State) (n : Nat) : State :=
  if s.asrcGanged n then
    let g := s.f (Regs.ASRC_CFG n) 16 4
    let valid := fun (st : Nat) => st == 2 || st == 3
    let was := valid (s.asrcState n)
    let is := valid (s.asrcState g)
    let s := if was && !is then s.setAsrc n { s.asrcEng n with fade := 0, fadeOut := true, hist := [[], []] }
      else if is && !was then s.asrcFadeIn n else s
    let s := s.setAsrcState n (s.asrcState g)
    if s.w (Regs.ASRC_RATE n) = s.w (Regs.ASRC_RATE g) then s else s.setW (Regs.ASRC_RATE n) (s.w (Regs.ASRC_RATE g))
  else s

/-- Ticks of `k` input samples at the estimate `fi` in 1/64 Hz. (Log entry 48: DESIGN CHOICE.) -/
def estTicks (fi k : Nat) : Nat := if fi = 0 then 0 else k * 98304000 * 64 / fi

/-- A measured input period that differs from the estimate `fi` by more than 500 ppm, or a stamp more than 2 hearth samples off its predicted
tick (R243): `last` is the previous tag's stamp and COUNT, `t` this one's stamp. Both sides are taken `fi` times, which keeps them whole. -/
def asrcJump (fi sample : Nat) (last : Nat × Nat) (t : Nat) : Bool :=
  let est : Int := last.2 * 98304000 * 64
  let diff := (((t : Int) - last.1) * fi - est).natAbs
  fi != 0 && (decide (500 * est.natAbs < 1000000 * diff) || decide (2 * sample * fi < diff))

/-- The measured rate lies outside the span that an engine accepts (R241). -/
def rateOut (fi : Nat) : Bool := decide (fi < 7920 * 64) || decide (193920 * 64 < fi)

/-- The errors that R243 and R244 grant: 0.5 hearth sample in VALID, 0.05 in LOCKED, in thousandths of a hearth sample. -/
def lockError (st : Nat) : Nat := if st = 3 then 50 else 500

/-- An input billet of channel `c` with tag stamp `t` moves the engine through its states, with the estimate `fi` after it and the placement
error `err`; the result counts the samples that conversion has in time (R239, R241 to R245). (Log entry 48: DESIGN CHOICE.) -/
def State.asrcTrack (s : State) (n c fi : Nat) (err : Int) (bl : Billet) : Nat × State :=
  let e := s.asrcEng n
  let g := s.asrcGanged n
  let t := s.fullStamp bl.tag.stamp
  let cnt := bl.tag.count
  let st := s.asrcState n
  let old := (s.w (Regs.ASRC_RATE n)).toNat
  let fi := if g then old else fi
  let jump := match e.lastIn.getD c none with | some l => asrcJump old s.sampleTicks l t | none => false
  let s := s.setAsrc n { e with lastIn := e.lastIn.set c (some (t, cnt)) }
  if st = 2 ∨ st = 3 then
    if jump && !g then (0, s.asrcRelock n)
    else if rateOut fi && !g then (0, (s.asrcAcquire n).event (pgAsrc n) 3)
    else
      let next := if s.b (Regs.ASRC_STAT n) 4 then s.sampleFrom s.tb else e.next
      let need := next - s.asrcDelay n
      let pts := (List.range cnt).map fun j => (t + estTicks fi j, bl.samples.getD j 0)
      let fresh := pts.filter fun p => decide (need ≤ p.1 + estTicks fi 1)
      let e := s.asrcEng n
      let s := s.setAsrc n { e with next := next, hist := e.hist.set c ((e.hist.getD c []).filter (fun p => decide (need ≤ p.1 + 64 * max 1 (estTicks fi 1))) ++ fresh) }
      if g then (fresh.length, s)
      else
        let s := s.setW (Regs.ASRC_RATE n) (Word.of fi)
        (fresh.length, if st = 2 ∧ err.natAbs ≤ 50 then s.setAsrcState n 3 else s)
  else if g then (0, s)
  else
    let s := if st = 4 then s.setAsrcState n 1 else s
    if rateOut fi then (0, s.event (pgAsrc n) 3)
    else
      let s := s.setW (Regs.ASRC_RATE n) (Word.of fi)
      (0, if err.natAbs ≤ 500 then (s.asrcFadeIn n).setAsrcState n 2 else s)

/-- The oldest input of channel `c` waits for the engine: not what a change to bypass leaves to placement (R236). -/
def State.asrcNextInput (s : State) (n c : Nat) : Option QItem :=
  let q := s.asrcSrc n c
  let x := s.queue q
  match if x.isInput then x.waiting else x.ready with
  | [] => none
  | i :: _ =>
    if x.isInput && x.place.change == some 0 && decide (s.strokeNo ≤ s.gridIndex (s.itemBillet i).tag / 32 + s.captureStrokes q) then none
    else some i

/-- The engine takes the oldest input of channel `c` (R239, R243): `fi` is the rate estimate in 1/64 Hz after it, and `err` the placement
error in thousandths of a hearth sample, within what R243 grants the state. In bypass the input goes to DST unchanged, and the engine keeps
its estimate by it. A held engine discards while its source is in STALL or LOSS. (Log entry 48: DESIGN CHOICE.) -/
def State.asrcInput (s : State) (n c fi : Nat) (err : Int) : State :=
  let st := s.asrcState n
  if !s.audioOn (pgAsrc n) || !s.en (pgAsrc n) || !(s.asrcChans n).contains c || ((st == 2 || st == 3) && decide (lockError st < err.natAbs)) then s
  else
    let q := s.asrcSrc n c
    let x := s.queue q
    if x.isInput && x.place.path == 0 && !s.asrcOut n then
      match s.consume q with
      | (none, s) => s
      | (some bl, s) => ((s.produce (s.asrcDst n c) bl.tag (bl.samples.take bl.tag.count)).2.asrcTrack n c fi err bl).2
    else
      match s.asrcNextInput n c with
      | none => s
      | some i =>
        let bl := s.itemBillet i
        let fl := s.itemFilled i
        let cnt := bl.tag.count
        let s := (s.setQueue q { x with waiting := x.waiting.drop 1 }).releaseItem i
        let r := if st = 4 ∧ x.place.stalled then (0, s) else s.asrcTrack n c fi err bl
        if x.isInput then r.2.account q (cnt - fl) r.1 (cnt - r.1) fl else r.2

/-- FILL samples of the grid sample at tick `t`: one per period at the nominal rate (R246). (Log entry 47: DEDUCED.) -/
def State.nominalFill (s : State) (n t : Nat) : Nat :=
  let i := t / s.sampleTicks
  (i + 1) * s.asrcNominal n / s.hearthHz - i * s.asrcNominal n / s.hearthHz

/-- A sample under the engine's running fade. -/
def Asrc.faded (e : Asrc) (v : Word) : Word :=
  if e.fadeOut then (if e.fade < 32 then Sys2Proof.Machine.fadeOut e.fade v else 0) else if e.fade < 32 then fadeIn e.fade v else v

/-- One grid sample of channel `c`: its value and whether it is filled, and missing input found (R236, R239, R245).
(Log entry 48: DESIGN CHOICE.) -/
def State.asrcValue (s : State) (n c : Nat) : Word × Bool × Bool :=
  let e := s.asrcEng n
  let st := s.asrcState n
  if 0 < e.skip then (0, false, false)
  else if st = 2 ∨ st = 3 then
    let need := e.next - s.asrcDelay n
    let h := e.hist.getD c []
    if h.any fun p => decide (need ≤ p.1) then
      (e.faded (Config.interpolate (s.b (Regs.ASRC_CFG n) 4) (s.w (Regs.ASRC_RATE n)).toNat need h), false, false)
    else (0, true, true)
  else if e.fadeOut then (e.faded (e.last.getD c 0), true, false)
  else (0, true, false)

/-- The engine's billets are put on its destination queues (R202 on the grid: offsets 15 and 31 close). -/
def State.asrcFlush (s : State) (n : Nat) : State :=
  let e := s.asrcEng n
  let off := if s.asrcOut n then 0xFF else e.stamp / s.sampleTicks % 32
  let s := (s.asrcChans n).foldl (fun s c =>
    let l := e.acc.getD c []
    (s.produce (s.asrcDst n c)
      { stamp := e.stamp % 2 ^ 32, count := l.length, offset := off, flags := if e.filled then flFilled else 0 } l).2) s
  s.setAsrc n { s.asrcEng n with acc := [[], []], filled := false }

/-- A source in STALL or LOSS holds the engine: the output fades to zero (R211, R243). -/
def State.asrcHold (s : State) (n : Nat) : State :=
  if s.en (pgAsrc n) ∧ s.asrcOut n = false ∧ (s.asrcState n = 2 ∨ s.asrcState n = 3) ∧ (s.queue (s.asrcSrc n 0)).place.stalled then
    (s.setAsrc n { s.asrcEng n with fade := 0, fadeOut := true, hist := [[], []], lastIn := [none, none] }).setAsrcState n 4
  else s

/-- What an enabled engine shows and does at once: HOLD, the gang's state, and the latency in use after a change of the nominal rate
(R240, R242, R243). -/
def State.asrcFollow (s : State) (n : Nat) : State :=
  if s.en (pgAsrc n) then
    let s := (s.asrcHold n).asrcGang n
    if s.f (Regs.ASRC_STAT n) 8 8 = max (s.f (Regs.ASRC_LAT n) 0 8) (s.asrcMin n) then s else s.asrcLatency n
  else s

/-- The tick of the TX frame edge whose frame will carry the next sample that engine `n` computes: as many frames after the side's last edge
as samples stand before it (R239); `none` while the side is STOPPED. -/
def State.asrcOutTick (s : State) (n : Nat) : Option Nat :=
  let x := s.queue (s.asrcDst n 0)
  let p := x.consumer / 256 - 0x10
  let d := s.side (sapSide p false)
  let ahead := (d.fifo.getD (x.consumer % 256) []).length + x.waiting.foldl (fun a i => a + (s.itemBillet i).tag.count) 0 +
    ((s.asrcEng n).acc.getD 0 []).length
  let fi := (s.w (Regs.ASRC_RATE n)).toNat
  if s.sapState p false = 0 then none
  else some (if d.began then d.lastEdge + estTicks fi (ahead + 1) else s.firstEdge p false + estTicks fi ahead)

/-- The engine may compute now, and the tick that its next sample is placed at, or sent at: a converter onto the grid goes from grid sample
to grid sample, one to a TX side follows that side's frame edges. -/
def State.asrcDue (s : State) (n : Nat) : Option Nat :=
  if !s.audioOn (pgAsrc n) || !s.en (pgAsrc n) || s.b (Regs.ASRC_STAT n) 4 then none
  else if s.asrcOut n then (if s.asrcState n = 1 then none else s.asrcOutTick n)
  else some (s.asrcEng n).next

/-- The engine computes its next sample on every channel (R239, R245), with the missing ones counted in FILL (R178, R246). -/
def State.asrcGrid (s : State) (n : Nat) : State :=
  let s := s.asrcHold n
  match s.asrcDue n with
  | none => s
  | some t =>
    let s := s.setAsrc n { s.asrcEng n with next := t }
    let s := if s.asrcOut n then s else s.reach t
    let e := s.asrcEng n
    let vals := (s.asrcChans n).map fun c => s.asrcValue n c
    let missing := vals.any fun v => v.2.2
    let s := (s.asrcChans n).foldl (fun s c =>
      if (vals.getD c (0, false, false)).2.1 then
        let k := if s.asrcOut n then 1 else s.nominalFill n t
        s.account (s.asrcSrc n c) 0 k 0 k
      else s) s
    let s := if missing ∧ e.late = false then s.incF (Regs.ASRC_EVT n) 0 16 else s
    let fi := (s.w (Regs.ASRC_RATE n)).toNat
    let need := t - s.asrcDelay n
    let keep := 64 * max 1 (estTicks fi 1)
    let s := s.setAsrc n { e with
      acc := (List.range 2).map fun c => if c < vals.length then e.acc.getD c [] ++ [(vals.getD c (0, false, false)).1] else []
      filled := e.filled || vals.any fun v => v.2.1
      stamp := if (e.acc.getD 0 []).isEmpty then t else e.stamp
      next := t + s.sampleTicks
      fade := min 32 (e.fade + 1)
      late := missing
      last := if e.fadeOut then e.last else (List.range 2).map fun c => (vals.getD c (0, false, false)).1
      skip := e.skip - 1
      hist := e.hist.map fun h => h.filter fun p => decide (need ≤ p.1 + keep) }
    let o := t / s.sampleTicks % 32
    if (!s.asrcOut n && (o == 15 || o == 31)) || decide (16 ≤ ((s.asrcEng n).acc.getD 0 []).length) then s.asrcFlush n else s

end Sys2Proof.Machine
end

