-- ==== Sys2Proof/Machine/Stages.lean ====
section
/-!
DEFINITION. The driver channels (chapter 13): states, start and stop sequences, mute ramps, trips and retries, the conditions of a whole
die and the PVDD pauses. Channel c below 8 is STGc, otherwise XST(c-8) (R402).
-/

namespace Sys2Proof.Machine

/-! ### States (R381) -/

/-- STOPPED. -/
def chStopped : Nat := 0
/-- INRUSH. -/
def chInrush : Nat := 1
/-- PAUSED. -/
def chPaused : Nat := 2
/-- SETTLE. -/
def chSettle : Nat := 3
/-- RUN. -/
def chRun : Nat := 4
/-- STOPPING. -/
def chStopping : Nat := 5
/-- TRIPPED. -/
def chTripped : Nat := 6
/-- LATCHED. -/
def chLatched : Nat := 7
/-- HELD. -/
def chHeld : Nat := 8
/-- SLAVE. -/
def chSlave : Nat := 9

/-- All sixteen channels. -/
def allChans : List Nat := List.range 16

/-- Page of channel `c`. -/
def chPage (c : Nat) : Nat := 0x60 + c

/-- Channel `c` is an integrated stage. -/
def isStg (c : Nat) : Bool := decide (c < 8)

/-- Channel `c` sits on stage die A (R20). -/
def onDieA (c : Nat) : Bool := decide (c % 8 < 4)

/-- Source page of the faults of `c`'s die: STG0 or STG4 (R589). -/
def dieSrc (a : Bool) : Nat := if a then 0x60 else 0x64

/-- The channels of a die. -/
def dieChans (a : Bool) : List Nat := allChans.filter fun c => onDieA c == a

/-- The channel's state code. -/
def State.chState (s : State) (c : Nat) : Nat := s.f (Regs.CH_STAT c) 0 4

/-- The channel's own record. -/
def State.chan (s : State) (c : Nat) : Chan := s.chans.get {} c

/-- `s` with the channel's record replaced. -/
def State.setChan (s : State) (c : Nat) (x : Chan) : State := { s with chans := s.chans.set {} c x }

/-- The channel enters a state; STATE_CHG is raised on a change (R401). -/
def State.setChState (s : State) (c st : Nat) : State :=
  if s.chState c = st then s else (s.setF (Regs.CH_STAT c) 0 4 st).event (chPage c) 5

/-- Inrush time I in ticks. -/
def State.inrush (s : State) (c : Nat) : Nat := s.f (Regs.CH_CFG c) 16 6 * tickMs

/-- A die of the device. -/
def State.die (s : State) (a : Bool) : Die := if a then s.dieA else s.dieB

/-- `s` with a die replaced. -/
def State.setDie (s : State) (a : Bool) (d : Die) : State := if a then { s with dieA := d } else { s with dieB := d }

/-- A condition of its die, or its fault input in follow mode, holds channel `c` (R390, R391). -/
def State.heldCond (s : State) (c : Nat) : Bool :=
  let d := s.die (onDieA c)
  d.pvddUv || d.pvddOv || d.ots || (!isStg c && (s.chan c).fltIn && s.b (Regs.CH_CFG c) 4)

/-- Stage `c` is the even half of a PBTL pair (R379). -/
def State.pbtl (s : State) (c : Nat) : Bool := isStg c && c % 2 == 0 && s.b (Regs.CH_CFG c) 1

/-! ### The end of a ring test, whatever ended it (R440) -/

/-- The ring test planned or running on channel `c`. -/
def State.test (s : State) (c : Nat) : Option RingTest := s.ring.find c

/-- Key of word `off` of channel `c`'s ring-test results (R441). -/
def diagKey (c off : Nat) : Nat := 0x13000 + c * 256 + off / 4

/-- A ring test ends without its results: END code `code`, class `cls`; DONE and ABORT are raised (R440). -/
def State.testEnd (s : State) (c code cls : Nat) : State :=
  match s.test c with
  | none => s
  | some _ =>
    let s := { s with ring := s.ring.del c }
    let s := s.setWs [(diagKey c 0x068, Word.of (cls * 0x10000000 + code * 0x1000000)), (diagKey c 0x06C, 0), (diagKey c 0x070, 0),
      (diagKey c 0x074, 0), (diagKey c 0x078, 0)]
    let s := (s.setB Regs.DIAG_STAT (16 + c) false).setB Regs.DIAG_STAT c true
    (s.event 0x73 0).event 0x73 2

/-- The test of channel `c` was requested through DIAG.RUN. -/
def State.testRequested (s : State) (c : Nat) : Bool := match s.test c with | some t => !t.auto | none => false

/-! ### Start (R383) -/

/-- Step 1 of R383 from tick `t0`; an integrated stage begins PAUSED while PVDD is below the warning level (R393). -/
def State.beginStart (s : State) (c t0 : Nat) (retry : Bool) (aborts : Nat) : State :=
  let x := { s.chan c with
    began := t0, done := 0, due := t0 + s.inrush c, retry := retry, aborts := aborts, pausedAt := t0, isOpen := false,
    ramp := none, after := .stopped }
  let s := s.setChan c x
  if isStg c && s.trk.low then (s.setChState c chPaused).event (chPage c) 2 else s.setChState c chInrush

/-- Key of word `off` of channel `c`'s copy of a TONGS register (R428). -/
def tongsKey (c off : Nat) : Nat := 0x12000 + c * 256 + off / 4

/-- START's condition: STOPPED, in FORGING, page enabled, no fault of class QUENCH active, not quenched by the Tongs (R382, R418, R587,
R652). (Log entry 62: DEDUCED.) -/
def State.startOk (s : State) (c : Nat) : Bool :=
  s.chState c == chStopped && s.forging && s.en (chPage c) && !s.quenchActive && !s.b (tongsKey c 0x08C) 30

/-- Step 2 of the stop from the level reached in INRUSH or PAUSED, at the slope of the inrush ramp (R384); `full` starts from common mode. -/
def State.beginLower (s : State) (c t : Nat) (after : AfterStop) (full : Bool) : State :=
  let x := s.chan c
  let level :=
    if full then s.inrush c
    else if s.chState c = chInrush then min (s.inrush c) (x.done + (t - x.began))
    else x.done
  (s.setChan c { x with phase := .lowering, due := t + level, after := after, isOpen := false, ramp := none }).setChState c chStopping

/-- STOP's condition (R382). -/
def State.stopOk (s : State) (c : Nat) : Bool := [chInrush, chPaused, chSettle, chRun, chTripped].contains (s.chState c)

/-- The stop sequence (R384). -/
def State.stopChan (s : State) (c : Nat) : State :=
  let st := s.chState c
  let s := s.testEnd c 3 0
  if st = chTripped then s.setChState c chStopped
  else if st = chInrush ∨ st = chPaused then s.beginLower c s.tb .stopped false
  else if st = chSettle ∨ st = chRun then
    (s.setChan c { s.chan c with phase := .waiting, after := .stopped }).setChState c chStopping
  else s

/-- CLEAR of a latched channel: STOPPED, retries 0, its contained faults cleared (R382, R388, R589). -/
def State.clearChan (s : State) (c : Nat) : State :=
  ((((s.setChState c chStopped).setF (Regs.CH_STAT c) 16 4 0).clearSub 0x21 (chPage c) c).clearSub 0x22 (chPage c) c).clearSub
    0x24 (chPage c) c

/-! ### Trips and retries (R387 to R389) -/

/-- A trip: high impedance, TRIPPED or, with the retries spent, LATCHED (R387, R388). (Log entry 66: DEDUCED.) -/
def State.trip (s : State) (c : Nat) : State :=
  let requested := s.testRequested c
  let s := s.testEnd c 4 2
  let s := ((s.incF (Regs.CH_EVT c) 24 8).event (chPage c) 0).raiseLocal 0x21 (chPage c) c
  let x := { s.chan c with isOpen := false, ramp := none }
  if requested then (s.setChan c x).setChState c chStopped
  else if s.f (Regs.CH_CFG c) 12 4 ≤ s.f (Regs.CH_STAT c) 16 4 then
    (((s.setChan c x).setChState c chLatched).event (chPage c) 1).raiseLocal 0x22 (chPage c) c
  else
    (s.setChan c { x with due := s.tb + 500 * tickMs }).setChState c chTripped

/-- The end check of R389: each output between 40 % and 60 % of PVDD and the differential within 0.5 V, voltages in millivolts. -/
def endCheck (outP outN pvdd : Nat) : Bool :=
  decide (40 * pvdd ≤ 100 * outP) && decide (100 * outP ≤ 60 * pvdd) && decide (40 * pvdd ≤ 100 * outN) &&
    decide (100 * outN ≤ 60 * pvdd) && decide (outP ≤ outN + 500) && decide (outN ≤ outP + 500)

/-- Step 2 of R383 at the end of INRUSH: SETTLE, or a trip where the end check of an integrated stage fails; SETTLE begins
a new offset calibration (R404). (Log entry 11: DESIGN CHOICE.) -/
def State.inrushEnd (s : State) (c : Nat) (ok : Bool) : State :=
  if s.chState c = chInrush then
    let t := (s.chan c).due
    let s := s.reach t
    if ok || !isStg c then
      ({ s with tongs := { s.tongs with cal := (s.tongs.cal.del (2 * c)).del (2 * c + 1) } }.setChan c
        { s.chan c with due := t + tickMs, calEnd := t + tickMs }).setChState c chSettle
    else s.trip c
  else s

/-- Step 3 of R383: RUN at zero output; STG_OC clears (R388). -/
def State.settleEnd (s : State) (c : Nat) : State :=
  if s.chState c = chSettle then
    let s := s.reach (s.chan c).due
    ((s.setChan c { s.chan c with runAt := (s.chan c).due, isOpen := false }).setChState c chRun).clearSub 0x21 (chPage c) c
  else s

/-- 500 ms after a trip the stage runs its start again and RETRIES increments (R388). -/
def State.retryChan (s : State) (c : Nat) : State :=
  if s.chState c = chTripped then
    let s := s.reach (s.chan c).due
    (s.setF (Regs.CH_STAT c) 16 4 (s.f (Regs.CH_STAT c) 16 4 + 1)).beginStart c (s.sampleFrom s.tb) true 0
  else s

/-- 10 s in RUN without a trip: RETRIES returns to 0 (R388). -/
def State.retriesReset (s : State) (c : Nat) : State :=
  if s.chState c = chRun then (s.reach ((s.chan c).runAt + 10000 * tickMs)).setF (Regs.CH_STAT c) 16 4 0 else s

/-- The outputs are down: high impedance or both low (R384, R393). An aborted start begins again once PVDD has recovered; until then the
channel stays in STOPPING. (Log entry 66: DEDUCED.) -/
def State.lowered (s : State) (c : Nat) : State :=
  let x := s.chan c
  if s.chState c = chStopping ∧ (x.phase = .lowering ∨ x.phase = .tempering) then
    let s := s.reach x.due
    match x.after with
    | .stopped => s.setChState c chStopped
    | .tripped => (s.setChan c { x with due := x.due + 500 * tickMs }).setChState c chTripped
    | .restart => if s.trk.low then s else s.beginStart c (s.sampleFrom x.due) x.retry 1
  else s

/-! ### Pauses (R393) -/

/-- PVDD falls below the warning level: every integrated stage in INRUSH is PAUSED. -/
def State.pauseAll (s : State) : State :=
  (List.range 8).foldl (fun s c =>
    if s.chState c = chInrush then
      let x := s.chan c
      ((s.setChan c { x with done := min (s.inrush c) (x.done + (s.tb - x.began)), pausedAt := s.tb }).setChState c chPaused).event (chPage c) 2
    else s) s

/-- PVDD has recovered: every PAUSED stage continues its ramp over the inrush time that remains, and an aborted start whose outputs are
down begins again. -/
def State.resumeAll (s : State) : State :=
  (List.range 8).foldl (fun s c =>
    if s.chState c = chPaused then
      let x := s.chan c
      (s.setChan c { x with began := s.tb, due := s.tb + (s.inrush c - x.done) }).setChState c chInrush
    else if s.chState c = chStopping ∧ (s.chan c).phase = .lowering ∧ (s.chan c).after = .restart ∧ (s.chan c).due ≤ s.tb then
      s.beginStart c (s.sampleFrom s.tb) (s.chan c).retry 1
    else s) s

/-- A stage PAUSED for 50 ms aborts its start once; the second time its start ends (R393). -/
def State.pauseTimeout (s : State) (c : Nat) : State :=
  if s.chState c = chPaused then
    let x := s.chan c
    let s := s.reach (x.pausedAt + 50 * tickMs)
    if x.aborts = 0 then s.beginLower c s.tb .restart false
    else if x.retry then s.beginLower c s.tb .tripped false
    else ((((s.testEnd c 2 0).beginLower c s.tb .stopped false).incF (Regs.CH_EVT c) 16 8).event (chPage c) 3).raiseLocal 0x23 (chPage c) c
  else s

/-! ### Conditions of a die (R22, R390, R391) -/

/-- Channel `c` becomes HELD, or, where it is HELD already, stays so; a ring test ends (R440). -/
def State.hold (s : State) (c : Nat) : State :=
  if s.chState c = chHeld then s
  else ((s.testEnd c 5 0).setChan c
    { s.chan c with heldFrom := s.chState c, heldTest := s.testRequested c, isOpen := false, ramp := none }).setChState c chHeld

/-- A seen XSTn_FLT fault (R390); in a requested ring test the channel is STOPPED at once (R440). -/
def State.xstFault (s : State) (c : Nat) : State :=
  let requested := s.testRequested c
  let s := (s.incF (Regs.CH_EVT c) 24 8).event (chPage c) 0
  let s := (s.testEnd c 4 2).setChan c { s.chan c with fltIn := true }
  if requested then ((s.setChan c { s.chan c with isOpen := false, ramp := none }).setChState c chStopped).raiseLocal 0x24 (chPage c) c
  else if s.b (Regs.CH_CFG c) 4 then (s.hold c).raiseLocal 0x24 (chPage c) c
  else
    (((s.setChan c { s.chan c with isOpen := false, ramp := none }).setChState c chLatched).event (chPage c) 1).raiseLocal 0x24 (chPage c) c

/-- A starting XST channel whose fault input is asserted sees the fault (R390). (Log entry 66: DEDUCED.) -/
def State.seeInput (s : State) (c : Nat) : State := if !isStg c && (s.chan c).fltIn then s.xstFault c else s

/-- A channel is made high-impedance or low and STOPPED at once; LATCHED and SLAVE channels stay so (R22). (Log entry 75: DEDUCED.) -/
def State.safeChan (s : State) (c : Nat) : State :=
  if s.chState c = chLatched ∨ s.chState c = chSlave then s
  else ((s.testEnd c 3 0).setChan c { s.chan c with isOpen := false, ramp := none }).setChState c chStopped

/-- A starting channel meets a lost link of its die, which stops it (R22), what holds its die, or its own fault input (R390, R391).
(Log entries 66: DEDUCED, 75: DEDUCED.) -/
def State.meetConds (s : State) (c : Nat) : State :=
  let d := s.die (onDieA c)
  if d.linkLost then s.safeChan c
  else if d.pvddUv || d.pvddOv || d.ots then s.hold c else s.seeInput c

/-- No condition holds the channel any more: one that was starting, running or tripped runs R383 from step 1, a requested ring test with it
where DIAG is enabled (R440, R653); any other returns to what it was (a channel that was STOPPING is STOPPED). (Log entry 67: DESIGN CHOICE.) -/
def State.unhold (s : State) (c : Nat) : State :=
  if s.chState c = chHeld ∧ s.heldCond c = false then
    let h := (s.chan c).heldFrom
    if (s.chan c).heldTest then
      if s.en 0x73 then
        (({ s with ring := s.ring.put c { auto := false } }).setB Regs.DIAG_STAT (16 + c) true).beginStart c (s.sampleFrom s.tb) false 0
      else s.setChState c chStopped
    else if [chInrush, chPaused, chSettle, chRun, chTripped].contains h then (s.beginStart c (s.sampleFrom s.tb) false 0).seeInput c
    else s.setChState c (if h = chStopping then chStopped else h)
  else s

/-- Every channel of a die is HELD (R391). -/
def State.holdDie (s : State) (a : Bool) : State := (dieChans a).foldl (fun s c => s.hold c) s

/-- Every channel of a die that no condition holds is released (R391). -/
def State.unholdDie (s : State) (a : Bool) : State := (dieChans a).foldl (fun s c => s.unhold c) s

/-! ### Boundary work (R383 step 4, R384, R385) -/

/-- The mute that governs a channel: its MUTE bit, STG_JMUTE (R478), the adoption mute or the orphan mute (R557, R564). -/
def State.muteWanted (s : State) (c : Nat) : Bool :=
  s.b (Regs.CH_MUTE c) 0 || s.b Regs.JACK_STAT 8 || s.pair.orphanMute || s.pair.adoptMute

/-- What boundary work a channel has at tick `b`: a waiting stop begins its ramp, a ramped one lowers its outputs, a channel in RUN opens,
mutes or unmutes, and a ramp of the stroke that ended is done. -/
def State.chanBoundary (s : State) (b c : Nat) : State :=
  let x := s.chan c
  let st := s.chState c
  if st = chStopping then
    match x.phase with
    | .waiting => s.setChan c { x with phase := .ramping, ramp := if x.isOpen then some true else none, isOpen := false }
    | .ramping => s.setChan c { x with phase := .lowering, ramp := none, due := b + s.inrush c }
    | _ => s
  else if st = chRun ∧ x.runAt ≤ b then
    let m := s.muteWanted c
    if x.isOpen ∧ m then s.setChan c { x with isOpen := false, muted := true, ramp := some true }
    else if x.isOpen = false ∧ m = false then s.setChan c { x with isOpen := true, muted := false, ramp := some false }
    else s.setChan c { x with muted := m, ramp := none }
  else s

/-- Boundary work of every channel. -/
def State.chansBoundary (s : State) (b : Nat) : State := allChans.foldl (fun s c => s.chanBoundary b c) s

/-- The factor of sample `i` of a stroke with a mute or unmute ramp, as 32nds (R385). -/
def rampFactor (mute : Bool) (i : Nat) : Nat := if mute then 31 - i else i + 1

/-! ### Commands of a channel's page (R382, R652) -/

/-- A START, STOP or CLEAR whose condition does not hold is ignored and recorded with RANGE (R382). The channels of a PBTL pair take
commands on the even page only (R379). -/
def State.chanCmdOk (s : State) (c : Nat) (v : Word) : Bool :=
  match bits v 0 3 with
  | 1 => s.startOk c
  | 2 => s.stopOk c
  | 4 => s.chState c == chLatched
  | 0 => true
  | _ => false

/-- START_FAIL, LOAD_SHORT and LOAD_MISMATCH clear at the next START accepted (R589). -/
def State.startClears (s : State) (c : Nat) : State :=
  ((s.clearSub 0x23 (chPage c) c).clearSub 0x3E 0x73 c).clearSub 0x3F 0x73 c

/-- START acts at the first hearth sample at or after now (R648); a condition of the die or an asserted fault input meets the channel as
it starts (R390, R391). (Log entry 66: DEDUCED.) -/
def State.startChan (s : State) (c : Nat) : State :=
  ((s.startClears c).beginStart c (s.sampleFrom s.tb) false 0).meetConds c

/-- A write of CMD (R382). -/
def State.writeChCmd (s : State) (c : Nat) (v : Word) : State :=
  match bits v 0 3 with
  | 1 => s.startChan c
  | 2 => s.stopChan c
  | 4 => s.clearChan c
  | _ => s

/-- Writing EN = 0 to a channel (R652): no retry, restart or aborted start begins again. -/
def State.disableChan (s : State) (c : Nat) : State :=
  let st := s.chState c
  if [chInrush, chPaused, chSettle, chRun].contains st then s.stopChan c
  else if st = chTripped then s.setChState c chStopped
  else if st = chHeld then s.setChState c (if (s.chan c).heldFrom = chLatched then chLatched else chStopped)
  else if st = chStopping then s.setChan c { s.chan c with after := .stopped }
  else s

/-- A write of CFG over the word `old`: setting or clearing PBTL makes the odd stage a SLAVE or releases it (R379), and a change of FLT_POL
turns the sense of the level at the fault input (R390). -/
def State.afterChCfg (s : State) (c : Nat) (old : Word) : State :=
  if !isStg c then
    if s.b (Regs.CH_CFG c) 6 = bit old 6 then s else s.setChan c { s.chan c with fltIn := !(s.chan c).fltIn }
  else if c % 2 = 0 then
    if s.b (Regs.CH_CFG c) 1 then s.setChState (c + 1) chSlave
    else if s.chState (c + 1) = chSlave then s.setChState (c + 1) chStopped
    else s
  else s

/-- A write of CFG is refused outside STOPPED, and a change of PBTL unless both stages are STOPPED (R379, R401). -/
def State.chCfgRefused (s : State) (c : Nat) (v : Word) : Bool :=
  s.chState c != chStopped ||
    (isStg c && c % 2 == 0 && bit v 1 && !s.b (Regs.CH_CFG c) 1 && s.chState (c + 1) != chStopped)

end Sys2Proof.Machine
end

