-- ==== Sys2Proof/Machine/Diag.lean ====
section
/-!
DEFINITION. Load diagnostics (chapter 15): requesting, running, classifying and ending ring tests.
-/

namespace Sys2Proof.Machine

/-- DIAG's page. -/
def pgDiag : Nat := 0x73

/-- TONGS.STAT.STATE is RUN (0x1): a test needs running Tongs (R430). -/
def State.tongsRun (s : State) : Bool := s.f Regs.TONGS_STAT 0 4 == 1

/-- Channel `c` is the odd half of a PBTL pair (R438, R439). -/
def State.oddHalf (s : State) (c : Nat) : Bool := isStg c && c % 2 == 1 && s.pbtl (c - 1)

/-- Strokes of a span given at 48 kHz: every count doubles at 96 kHz (R433). -/
def State.spanTicks (_s : State) (strokes48 : Nat) : Nat := strokes48 * 65536

/-- Ticks of a whole test under TESTS: DC 46, each of four AC frequencies 58 strokes at 48 kHz (R433). -/
def State.testTicks (s : State) : Nat :=
  let t := s.f Regs.DIAG_CFG 0 2
  s.spanTicks ((if t % 2 = 1 then 46 else 0) + (if t / 2 = 1 then 232 else 0))

/-- A start of channel `c` includes an automatic test (R437, R439, R652, R653). -/
def State.autoTest (s : State) (c : Nat) : Bool :=
  s.en pgDiag && s.b Regs.DIAG_CFG (16 + c) && s.tongsRun && !s.oddHalf c && s.en (chPage c)

/-- A requested test of channel `c` is accepted (R438). -/
def State.diagRunOk (s : State) (c : Nat) : Bool := s.chState c == chStopped && !s.oddHalf c && s.en (chPage c)

/-- A write of DIAG.RUN is refused whole: outside FORGING, with DIAG disabled, without running Tongs, or with a fault of class QUENCH
active (R430, R438, R587, R653). -/
def State.diagRunRefused (s : State) : Bool := !s.forging || !s.en pgDiag || !s.tongsRun || s.quenchActive

/-- A write of DIAG.RUN naming the channels of `mask` (R438). -/
def State.diagRun (s : State) (mask : Nat) : State :=
  if s.diagRunRefused then s.range pgDiag 0x05C
  else
    (setBitsOf 16 mask).foldl (fun s c =>
      if s.diagRunOk c then
        let s := { s with ring := s.ring.put c { auto := false } }
        (((((s.setB Regs.DIAG_STAT (16 + c) true).clearSub 0x3E pgDiag c).clearSub 0x3F pgDiag c)).beginStart c (s.sampleFrom s.tb) false 0).meetConds c
      else s.range pgDiag 0x05C) s

/-- The end of SETTLE: RUN, or, where a test is due, the channel stays in SETTLE until the first boundary (R383, R437). -/
def State.settleDone (s : State) (c : Nat) : State :=
  if s.chState c = chSettle then
    if (s.test c).isSome then s.reach (s.chan c).due
    else if s.autoTest c then
      ({ s with ring := s.ring.put c { auto := true } }.setB Regs.DIAG_STAT (16 + c) true).reach (s.chan c).due
    else s.settleEnd c
  else s

/-- The tests that are due begin at boundary `b` (R437). -/
def State.testsBegin (s : State) (b : Nat) : State :=
  s.ring.foldl (fun s e =>
    if e.2.began.isNone ∧ s.chState e.1 = chSettle ∧ (s.chan e.1).due ≤ b then
      { s with ring := s.ring.put e.1 { e.2 with began := some b, stop := b + s.testTicks } }
    else s) s

/-- R_dc of the DC test in mΩ (R431, R434): v in µV over i in µA; open below 0.1 mA. -/
def RingTest.rdc (t : RingTest) : Nat :=
  if t.cnt = 0 ∨ t.sumI.natAbs < 100 * t.cnt then 0xFFFF
  else satU 0xFFFF ((2000 * t.sumV.natAbs + t.sumI.natAbs) / (2 * t.sumI.natAbs))

/-- MAG and PHASE of AC frequency `f` as the result register's word (R432, R434). -/
def RingTest.zWord (t : RingTest) (f : Nat) : Word :=
  let l := (t.ac.filter fun x => x.1 == f).map (·.2)
  if Config.correlatedCurrent f l < 100 then 0xFFFF
  else
    let r := Config.correlate f l
    Word.of (satU 0xFFFF r.1 + unsign 16 (max (-23040) (min 23040 r.2)) * 65536)

/-- The decision table of R435. -/
def State.classify (s : State) (c rdc z1 z4 z20 : Nat) : Nat :=
  let shortR := s.f (Regs.DIAG_THR 0) 16 16
  let openR := s.f (Regs.DIAG_THR 0) 0 16
  let reHi := s.f (Regs.DIAG_THR 1) 16 16
  let reLo := s.f (Regs.DIAG_THR 1) 0 16
  let cap := s.b Regs.DIAG_EXPECT c
  if rdc < shortR then 2
  else if reLo ≤ rdc ∧ rdc ≤ reHi ∧ cap = false then 3
  else if reLo ≤ rdc ∧ rdc ≤ reHi ∧ cap = true then 5
  else if openR < rdc ∧ s.f (Regs.DIAG_THR 3) 0 16 ≤ z1 ∧ z4 < z1 ∧ s.f (Regs.DIAG_THR 2) 0 16 ≤ z20 ∧ z20 ≤ s.f (Regs.DIAG_THR 2) 16 16
  then 4
  else if openR < rdc ∧ openR < z20 then 1
  else 6

/-- The channel stops from step 2 of R384 after its test. -/
def State.testStop (s : State) (c b : Nat) : State := s.beginLower c b .stopped true

/-- What R436 does with class `cls` of channel `c` at tick `b`, for a test begun by a start (`auto`) or requested. -/
def State.afterClass (s : State) (c b cls : Nat) (auto : Bool) : State :=
  let expect := if s.b Regs.DIAG_EXPECT c then 4 else 3
  if cls = 0 ∨ cls = expect then
    if auto then s.settleEnd c else s.testStop c b
  else
    let s := s.event pgDiag 1
    if cls = 2 then (s.raiseLocal 0x3E pgDiag c).testStop c b
    else if s.b Regs.DIAG_EXPECT (16 + c) then (s.raiseAs 3 0x3F pgDiag c).testStop c b
    else
      let s := s.raiseLocal 0x3F pgDiag c
      if auto then s.settleEnd c else s.testStop c b

/-- The tests that end at boundary `b` complete: results, class and R436 (R431 to R437). -/
def State.testsEnd (s : State) (b : Nat) : State :=
  s.ring.foldl (fun s e =>
    let c := e.1
    let t := e.2
    if t.began.isSome ∧ t.stop ≤ b then
      let kinds := s.f Regs.DIAG_CFG 0 2
      let rdc := if kinds % 2 = 1 then t.rdc else 0
      let z := fun f => if kinds / 2 = 1 then t.zWord f else 0
      let cls := if kinds = 3 then s.classify c rdc (bits (z 0) 0 16) (bits (z 1) 0 16) (bits (z 3) 0 16) else 0
      let s := { s with ring := s.ring.del c }
      let s := s.setWs [(diagKey c 0x068, Word.of (cls * 0x10000000 + 0x1000000 + rdc)), (diagKey c 0x06C, z 0), (diagKey c 0x070, z 1),
        (diagKey c 0x074, z 2), (diagKey c 0x078, z 3)]
      let s := ((s.setB Regs.DIAG_STAT (16 + c) false).setB Regs.DIAG_STAT c true).event pgDiag 0
      (s.setChan c { s.chan c with due := b }).afterClass c b cls t.auto
    else s) s

/-- A test that a low PVDD, the fallback of the Tongs or DIAG's disabling ends: an automatic test's channel continues its start to RUN with
NOTE RING_ABORT, a requested test's channel is STOPPED (R440, R653). (Log entry 67: DESIGN CHOICE.) -/
def State.testAbort (s : State) (c code : Nat) : State :=
  match s.test c with
  | none => s
  | some t =>
    let s := s.testEnd c code 0
    if t.auto then
      let s := s.raiseLocal 0x40 pgDiag c
      if s.chState c = chSettle then (s.setChan c { s.chan c with due := min (s.chan c).due s.tb }).settleEnd c else s
    else s.setChState c chStopped

/-- Every test is aborted (R440, R653); a low PVDD only pauses the start of one that is still in its inrush (R393, R438). -/
def State.testsAbort (s : State) (code : Nat) : State :=
  s.ring.foldl (fun s e =>
    if code = 2 ∧ (s.chState e.1 = chInrush ∨ s.chState e.1 = chPaused ∨ s.chState e.1 = chStopping) then s else s.testAbort e.1 code) s

/-- Tick `at_` lies in the DC test of `t`. (Log entry 67: DESIGN CHOICE.) -/
def State.inDcTest (s : State) (t : RingTest) (at_ : Nat) : Bool :=
  match t.began with
  | none => false
  | some b => s.f Regs.DIAG_CFG 0 2 % 2 == 1 && decide (b ≤ at_) && decide (at_ < b + s.spanTicks 46)

/-- A current above 1 A in the DC test ends it and stops the channel (R431, R436, R440). -/
def State.testOvercurrent (s : State) (c : Nat) : State :=
  match s.test c with
  | none => s
  | some t =>
    if t.began.isSome then (((s.testEnd c 4 2).event pgDiag 1).raiseLocal 0x3E pgDiag c).testStop c s.tb else s

/-- The report of a current above 1 A, while the DC test runs (R431). -/
def State.overcurrent (s : State) (c : Nat) : State :=
  match s.test c with
  | none => s
  | some t => if s.inDcTest t s.tb then s.testOvercurrent c else s

/-- The span of the running test in which tick `at_` lies: `none` outside a measurement span, `some none` in the DC measurement,
`some (some f)` in that of AC frequency `f` (R433). -/
def State.measureSpan (s : State) (t : RingTest) (at_ : Nat) : Option (Option Nat) :=
  match t.began with
  | none => none
  | some b0 =>
    let st := (at_ - b0) / 65536
    let kinds := s.f Regs.DIAG_CFG 0 2
    if kinds % 2 = 1 ∧ st < 46 then (if 14 ≤ st ∧ st < 38 then some none else none)
    else
      let st := if kinds % 2 = 1 then st - 46 else st
      if st < 232 ∧ 8 ≤ st % 58 ∧ st % 58 < 56 then some (some (st / 58)) else none

/-- A calibrated sense sample (µV, µA) played at tick `at_` enters the running test of channel `c`; a current above 1 A in the DC test ends
it (R431). -/
def State.testSample (s : State) (c at_ : Nat) (v i : Int) : State :=
  match s.test c with
  | none => s
  | some t =>
    if s.inDcTest t at_ && decide (1000000 < i.natAbs) then s.testOvercurrent c
    else match s.measureSpan t at_ with
      | none => s
      | some none => { s with ring := s.ring.put c { t with sumV := t.sumV + v, sumI := t.sumI + i, cnt := t.cnt + 1 } }
      | some (some f) => { s with ring := s.ring.put c { t with ac := t.ac ++ [(f, v, i)] } }

/-- The thresholds of DIAG stay in order: RE_LO below RE_HI, SHORT_R below RE_LO (R441). -/
def State.diagThrOk (s : State) (off : Nat) (v : Word) : Bool :=
  let t0 := if off = 0x04C then v else s.w (Regs.DIAG_THR 0)
  let t1 := if off = 0x050 then v else s.w (Regs.DIAG_THR 1)
  decide (bits t1 0 16 < bits t1 16 16) && decide (bits t0 16 16 < bits t1 0 16)

end Sys2Proof.Machine
end

