-- ==== Sys2Proof/Machine/Jack.lean ====
section
/-!
DEFINITION. The headphone output and the jacks (chapter 17): HPO's start and stop, its mute ramp and overcurrent stop, the debounced jack
states and the automatic actions at boundaries.
-/

namespace Sys2Proof.Machine

/-- HPO's page. -/
def pgHpo : Nat := 0x27
/-- JACK's page. -/
def pgJack : Nat := 0x28

/-- HPO.STAT.STATE: 0 STOPPED, 1 STARTING, 2 RUN, 3 STOPPING (R472). -/
def State.hpoState (s : State) : Nat := s.f Regs.HPO_STAT 0 4

/-- HPO enters a state; STATE_CHG on a change. -/
def State.setHpoState (s : State) (st : Nat) : State :=
  if s.hpoState = st then s else (s.setF Regs.HPO_STAT 0 4 st).event pgHpo 1

/-- A START of HPO is accepted (R472, R473, R587, R655). -/
def State.hpoStartOk (s : State) : Bool := s.hpoState == 0 && s.en pgHpo && s.forging && !s.quenchActive

/-- Step 1 of R472 at the next hearth sample; SC and WARN HPO_SC clear (R475, R589). -/
def State.hpoStart (s : State) : State :=
  let s := (s.setB Regs.HPO_STAT 8 false).clearFault 0x2A pgHpo
  ({ s with hpo := { due := s.sampleFrom s.tb } }).setHpoState 1

/-- A STOP of HPO is accepted (R473). -/
def State.hpoStopOk (s : State) : Bool := s.hpoState == 1 || s.hpoState == 2

/-- A STOP: from RUN the output ramps out at the next boundary; from STARTING the clamp closes at once (R473). -/
def State.hpoStop (s : State) : State :=
  if s.hpoState = 2 then { s with hpo := { s.hpo with stopReq := true } }.setHpoState 3
  else if s.hpoState = 1 then { s with hpo := { s.hpo with due := s.tb + tickMs / 2, isOpen := false } }.setHpoState 3
  else s

/-- 1.0 ms after the start the rails are in regulation (R472, step 2). -/
def State.hpoRails (s : State) : State := if s.hpoState = 1 then s.reach (s.hpo.due + tickMs) else s

/-- 1.5 ms after the start the clamp is released: RUN at zero (R472, step 3). -/
def State.hpoClamp (s : State) : State :=
  if s.hpoState = 1 then
    let t := s.hpo.due + tickMs * 3 / 2
    ({ s with hpo := { s.hpo with due := t, isOpen := false, ramp := none } }.setHpoState 2).reach t
  else s

/-- The clamp has been closed for 0.5 ms, or a quench's temper has run: STOPPED (R473, R586). -/
def State.hpoStopped (s : State) : State :=
  if s.hpoState = 3 ∧ s.hpo.stopReq = false ∧ s.hpo.ramping = false then
    { s with hpo := { restart := s.hpo.restart } }.setHpoState 0 |>.reach s.hpo.due
  else s

/-- The output current stayed above 180 mA for 1 ms (R475). -/
def State.hpoOvercurrent (s : State) : State :=
  if s.hpoState = 0 then s
  else (({ s with hpo := {} }.setHpoState 0).setB Regs.HPO_STAT 8 true).event pgHpo 0 |>.raiseLocal 0x2A pgHpo 0

/-- The effective mute of HPO (R474). -/
def State.hpoMuted (s : State) : Bool := s.b Regs.HPO_MUTE 0 || s.b Regs.JACK_STAT 9

/-- HPO's work at the boundary of tick `b` (R472 step 4, R473, R474). -/
def State.hpoBoundary (s : State) (b : Nat) : State :=
  let h := s.hpo
  if s.hpoState = 2 then
    if h.due ≤ b then
      let m := s.hpoMuted
      if h.isOpen ∧ m then { s with hpo := { h with isOpen := false, ramp := some true } }
      else if h.isOpen = false ∧ m = false then { s with hpo := { h with isOpen := true, ramp := some false } }
      else { s with hpo := { h with ramp := none } }
    else s
  else if s.hpoState = 3 then
    if h.stopReq then { s with hpo := { h with stopReq := false, ramping := true, isOpen := false, ramp := if h.isOpen then some true else none } }
    else if h.ramping then { s with hpo := { h with ramping := false, ramp := none, due := b + tickMs / 2 } }
    else s
  else s

/-! ### Jacks (R476 to R480) -/

/-- The headphone jack's automatic action at a boundary of FORGING: after a change, and at the first boundary of a stay (R477, R478,
R480). -/
def State.jackHp (s : State) : State :=
  let act := s.b Regs.JACK_CFG 0 && (s.jack.hpPend || s.jack.first)
  let s := { s with jack := { s.jack with hpPend := false, first := false } }
  if act then
    if s.b Regs.JACK_STAT 0 then
      let s := (s.setB Regs.JACK_STAT 8 true).setB Regs.JACK_STAT 9 false
      let s := { s with hpo := { s.hpo with jackStop := false } }
      if s.hpoState = 0 then (if s.hpoStartOk then s.hpoStart else s)
      else if s.hpoState = 3 then { s with hpo := { s.hpo with restart := true } }
      else s
    else
      let s := (s.setB Regs.JACK_STAT 8 false).setB Regs.JACK_STAT 9 true
      if s.hpoState = 1 then s.hpoStop
      else if s.hpoState = 2 then
        if s.hpo.isOpen then { s with hpo := { s.hpo with jackStop := true } } else s.hpoStop
      else s
  else s

/-- A removal's STOP is issued once the ramp out has ended, at the boundary after it (R478). -/
def State.jackStopDue (s : State) : State :=
  if s.hpo.jackStop ∧ s.hpoState = 2 ∧ s.hpo.isOpen = false then
    ({ s with hpo := { s.hpo with jackStop := false } }).hpoStop
  else s

/-- An insertion that found HPO in STOPPING starts it at the first boundary after STOPPED (R480). -/
def State.hpoRestart (s : State) : State :=
  if s.hpo.restart ∧ s.hpoState = 0 ∧ s.b Regs.JACK_STAT 0 then
    let s := { s with hpo := { s.hpo with restart := false } }
    if s.hpoStartOk then s.hpoStart else s
  else s

/-- The debounced level of HPDET, or of LINDET. -/
def State.jackLevel (s : State) (lin : Bool) : Option Bool := if lin then s.jack.linLevel else s.jack.hpLevel

/-- The pin's debounced level shows in JACK.STAT by its polarity; a change raises its cause and is acted on in FORGING (R476, R477). -/
def State.jackJudge (s : State) (lin : Bool) : State :=
  let i := b2n lin
  match s.jackLevel lin with
  | none => s
  | some v =>
    let ins := v == s.b Regs.JACK_CFG (8 + i)
    if s.b Regs.JACK_STAT i = ins then s
    else
      let s := (s.setB Regs.JACK_STAT i ins).event pgJack i
      { s with jack := if lin then { s.jack with linPend := true } else { s.jack with hpPend := true } }

/-- A write of JACK.CFG: one that clears AUTO_HP clears both jack mutes (R478), and a changed polarity changes what the pins' levels mean
(R476). (Log entry 95: DEDUCED.) -/
def State.afterJackCfg (s : State) : State :=
  let s := if s.b Regs.JACK_CFG 0 then s else (s.setB Regs.JACK_STAT 8 false).setB Regs.JACK_STAT 9 false
  (s.jackJudge false).jackJudge true

end Sys2Proof.Machine
end

