-- ==== Sys2Proof/Machine/Retain.lean ====
section
/-!
DEFINITION. What outlives a device reset, a stay in BANKED or EMBER, or a halt (R43, R78, R85, R588). The rest returns to its reset value.
-/

namespace Sys2Proof.Machine

/-- OTP words outlive everything (R4): their keys. -/
def isOtpKey (k : Nat) : Bool := decide (0x1F100 ≤ k) && decide (k < 0x1F300)

/-- Header words that every page loses in sleep (R78): PG_ACCESS, PG_LOCK and PG_EVT. -/
def lostHeader (k : Nat) : Bool := [8, 9, 11].contains (k % 256)

/-- Register words that a stay in BANKED or EMBER keeps (R78): the always-on island's, and STOCK.RETAIN. -/
def keptInSleep (k : Nat) : Bool :=
  k / 256 == 0x02 && !lostHeader k || [Regs.CLK_SRC, Regs.CLK_HEARTH, Regs.FAULT_ISL, Regs.MIC_PRIV, Regs.JACK_CFG, Regs.JACK_STAT,
    Regs.STOCK_RETAIN].contains k || isOtpKey k

/-- Register words of the EMBER island: MIC, PDM, WAKE, TWT and ANV63's page and memories (R78), with the masters' own words of those
pages. -/
def keptInEmber (k : Nat) : Bool :=
  [0x24, 0x16, 0x25, 0x76, 0xBF].contains (k % 0x1000000 / 256) && decide (k % 0x1000000 < 0x10000) && !lostHeader k ||
    decide (0x3F8000 ≤ k) && decide (k < 0x400000)

/-- Register words kept through a stay in EMBER, or in BANKED. -/
def keptThrough (ember : Bool) (k : Nat) : Bool := keptInSleep k || (ember && keptInEmber k)

/-- SEC.LC with the life cycle and locks that the OTP words give (R574, R575). (Log entry 7: DESIGN CHOICE.) -/
def lcWord (life locks : Word) : Word :=
  let st := if bit life 3 then 3 else if bits life 0 2 = 3 then 2 else if bits life 0 2 = 1 then 1 else 0
  Word.of (st + (if st = 2 then bits locks 0 3 * 256 else 0))

/-- Key of OTP word `i`. -/
def otpKey (i : Nat) : Nat := 0x1F100 + i

/-- SEC.LC and SEC.RB as the OTP gives them, after a reset (R574, R575). -/
def State.secFromOtp (s : State) : State :=
  let s := s.setW Regs.SEC_LC (lcWord (s.w (otpKey 0x040)) (s.w (otpKey 0x042)))
  s.setW Regs.SEC_RB (Word.of (setBitsOf 32 (s.w (otpKey 0x041)).toNat).length)

/-- SYS.DROUTE with only EN kept (R78, R646). -/
def State.keepDroute (s old : State) : State := s.setB Regs.SYS_DROUTE 0 (old.b Regs.SYS_DROUTE 0)

/-- The registers that show the straps (R533, R619, R635): SYS.BOOT, SYS.DROUTE, PAIR.STAT and TWT's address. (Log entry 7: DESIGN CHOICE.) -/
def State.strapRegs (s : State) : State :=
  let d := s.power.strapDef
  let r := s.power.strapRole
  let s := s.setW Regs.SYS_BOOT (Word.of (r * 16 + d))
  let s := (s.setB Regs.SYS_DROUTE 0 (d % 4 != 3)).setF Regs.SYS_DROUTE 4 2 (d % 4)
  let s := s.setW Regs.PAIR_STAT (Word.of (if r = 1 then 0x60000001 else if r = 2 then 0x80000001 else 0))
  s.setF Regs.TWT_STAT 8 7 (0x2C + s.power.strapAddr)

/-- GPIO's words, which the general pins hold in sleep (R532). -/
def State.gpWords (s : State) : GpHold :=
  { func0 := s.w Regs.GPIO_FUNC0, func1 := s.w Regs.GPIO_FUNC1, out := s.w Regs.GPIO_OUT, pull := s.w Regs.GPIO_PULL }

/-- The state of power and clocks as a stay in sleep begins. -/
def Power.inSleep (x : Power) (h : GpHold) : Power :=
  { x with
    clkOn := [], pllbRun := 0, pllbAt := 0, tbOff := [], syncRun := 0, wasLocked := false, braceAtBoundary := false, gpHeld := some h }

/-- The core die loses its power: everything returns to reset but the words `keep` names, the timebase, the waiting commands, the fault
log and what the island holds (R77, R78). The Stock is passed as it survives. -/
def State.losePower (s : State) (keep : Nat → Bool) (stock : Stock) : State :=
  let t : State :=
    { State.reset with
      pending := s.pending
      words := s.words.filter fun kv => keep kv.1
      tb := s.tb
      boundary := s.boundary
      free := s.free
      power := s.power.inSleep s.gpWords
      fault := { log := s.fault.log, halted := s.fault.halted }
      stock := stock
      pdmRate := if keep Regs.PDM_IF then s.pdmRate else 3
      tongs := { chans := (s.tongs.chans.map fun x => (x.1, { ({} : TongsChan) with tc := x.2.tc, tm := x.2.tm })), sleptAt := some s.tb }
      jack := { s.jack with first := false } }
  (t.secFromOtp.strapRegs.keepDroute s).setW Regs.SCHED_COUNT_HI (Word.of (s.f Regs.SCHED_COUNT_HI 16 16 * 65536))

/-- A whole-device reset (R43): every register and state returns to reset but the OTP, the fault record of the island while `island`
holds, and the timebase; `cause` joins what PWR.RST_CAUSE holds, which the island keeps with it (R84, R85). The island goes on watching
its pins: the privacy mute stands (R460), and JACK.STAT reads its pins (R476). (Log entry 95: DEDUCED.) -/
def State.deviceReset (s : State) (cause : Nat) (island : Bool) : State :=
  let t : State :=
    { State.reset with
      pending := s.pending
      words := s.words.filter fun kv => isOtpKey kv.1 || (island && kv.1 == Regs.FAULT_ISL)
      tb := s.tb
      boundary := s.boundary
      free := s.free
      power := { vaonLow := s.power.vaonLow, vioLost := s.power.vioLost, vsysLowAt := s.power.vsysLowAt, strapDef := s.power.strapDef, strapRole := s.power.strapRole, strapAddr := s.power.strapAddr }
      fault := { log := if island then s.fault.log else [] }
      jack := { hpLevel := s.jack.hpLevel, linLevel := s.jack.linLevel } }
  let t := t.setB Regs.MIC_PRIV 31 (s.b Regs.MIC_PRIV 31)
  let t := (t.setB Regs.JACK_STAT 0 (s.jack.hpLevel == some false)).setB Regs.JACK_STAT 1 (s.jack.linLevel == some false)
  t.secFromOtp.strapRegs.setW Regs.PWR_RST_CAUSE (if island then s.w Regs.PWR_RST_CAUSE ||| Word.of cause else Word.of cause)

end Sys2Proof.Machine
end

