-- ==== Sys2Proof/Machine/Faults.lean ====
section
/-!
DEFINITION. Device-level faults and their recoveries (chapter 22): the quench, the halt, one recovery at a time, COINCIDENT and the queue.
-/

namespace Sys2Proof.Machine

/-- FAULT's page. -/
def pgFault : Nat := 0x0D

/-! ### The quench (R586) -/

/-- Steps 1 and 2 of R586 on one channel. (Log entry 76: DEDUCED.) -/
def State.quenchChan (s : State) (c : Nat) : State :=
  let st := s.chState c
  if st = chRun then
    ((s.testEnd c 3 0).setChan c { s.chan c with phase := .tempering, after := .stopped, due := s.tb + tickMs, isOpen := false, ramp := none }).setChState
      c chStopping
  else if st = chInrush ∨ st = chPaused then (s.testEnd c 3 0).beginLower c s.tb .stopped false
  else if st = chSettle then (s.testEnd c 3 0).beginLower c s.tb .stopped true
  else if st = chStopping ∧ (s.chan c).after = .restart then (s.testEnd c 3 0).setChan c { s.chan c with after := .stopped }
  else s.testEnd c 3 0

/-- Step 1 of R586 on HPO. -/
def State.quenchHpo (s : State) : State :=
  if s.hpoState = 2 then { s with hpo := { due := s.tb + tickMs, tempering := true } }.setHpoState 3 else s

/-- A quench begins (R586, steps 1 and 2). -/
def State.quench (s : State) : State :=
  let s := (allChans.foldl (fun s c => s.quenchChan c) s).quenchHpo
  { s with fault := { s.fault with quenching := true } }

/-- Integrated stages are high-impedance and XST outputs low at once (R103, R588). -/
def State.safeOutputs (s : State) : State :=
  let s := allChans.foldl (fun s c => s.safeChan c) s
  ({ s with hpo := {} }).setHpoState 0

/-! ### Halt (R588) -/

/-- A fault of class HALT: outputs safe, recorded in FAULT.ISL, everything but the island stops and every SRAM is lost, with it STOCK.RETAIN,
which the retained slabs hold (R78); BANKED. (Log entry 76: DEDUCED.) -/
def State.halt (s : State) (logic : Bool) : State :=
  let s := (s.safeOutputs.setB Regs.FAULT_ISL 31 true)
  let s := if logic then s.setB Regs.FAULT_ISL 30 true else s
  let s := { s with fault := { s.fault with halted := true } }
  let s := (s.setF Regs.SCHED_COUNT_HI 16 16 s.sched.length).losePower (fun k => keptInSleep k && k != Regs.STOCK_RETAIN) {}
  let p := { s.power with pswEn := false, target := none, heldReq := none, bucksOff := true, waking := false }
  ({ s with power := p } : State).setF Regs.PWR_STAT 0 4 stBanked

/-! ### One recovery at a time (R591 to R595) -/

/-- The recovery of `f` begins: the part of its response that a recovery orders. Class QUENCH quenches; PEER_DEAD's takeover waits for the
boundary (R560). -/
def State.beginRecovery (s : State) (f : FaultId) : State :=
  let s := { s with fault := { s.fault with recov := some f, log := setOutcome f 1 s.fault.log } }
  if faultQuenches f.code then s.quench
  else if f.code = 0x53 then { s with fault := { s.fault with takeover := true } }
  else s

/-- The first of the queue in order of class, highest first, and then of detection (R594). (Log entry 76: DEDUCED.) -/
def nextQueued (q : List FaultId) : Option FaultId :=
  let top := q.foldl (fun a f => max a (faultClass f.code)) 0
  q.find? fun f => faultClass f.code == top

/-- The next queued recovery begins; a fault whose condition has ended is skipped (R594). (Log entry 76: DEDUCED.) -/
def State.nextRecovery : Nat → State → State
  | 0, s => s
  | n + 1, s =>
    match nextQueued s.fault.queue with
    | none => s
    | some f =>
      let s := { s with fault := { s.fault with queue := s.fault.queue.erase f } }
      if s.fault.active.contains f then s.beginRecovery f
      else State.nextRecovery n { s with fault := { s.fault with log := setOutcome f 4 s.fault.log } }

/-- The running recovery ends and the next queued one begins. -/
def State.endRecovery (s : State) : State :=
  match s.fault.recov with
  | none => s
  | some _ =>
    let s := { s with fault := { s.fault with recov := none } }
    s.nextRecovery s.fault.queue.length

/-- COINCIDENT: the running recovery is abandoned and the outputs quench (R593). (Log entry 76: DEDUCED.) -/
def State.coincident (s : State) (running : FaultId) : State :=
  let s := { s with fault := { s.fault with takeover := false, log := setOutcome running 3 s.fault.log } }
  let s := (s.incF Regs.FAULT_CNT 16 16).incF Regs.FAULT_CNT 8 8
  let f : FaultId := { code := 0x60, src := pgFault }
  let s := (s.logFault f 4 1).activate f
  { s with fault := { s.fault with recov := some f } }.quench

/-- A device-level fault is detected; `joined` says that the running recovery's own response raised it (R591, R593, R594). -/
def State.raiseDevice (s : State) (code src : Nat) (joined : Bool) : State :=
  let f : FaultId := { code, src }
  if s.fault.active.contains f then s
  else
    let cls := faultClass code
    if cls = 5 then ((s.logFault f cls 1).activate f).halt (code == 0x08)
    else
      match s.fault.recov with
      | none => ((s.logFault f cls 1).activate f).beginRecovery f
      | some r =>
        if joined then (s.logFault f cls 1).activate f
        else if r.code = 0x60 ∨ cls < faultClass r.code then
          if s.fault.queue.length < 8 then
            let s := (s.logFault f cls 2).activate f
            { s with fault := { s.fault with queue := s.fault.queue ++ [f] } }
          else (((s.logFault f cls 1).activate f).incF Regs.FAULT_CNT 0 8).coincident r
        else ((s.logFault f cls 1).activate f).coincident r

/-- Every channel a quench stops is STOPPED (R586, steps 3 and 4); the recovery whose response was a quench ends (R591). -/
def State.quenchComplete (s : State) : State :=
  if s.fault.quenching then
    let last := allChans.foldl (fun a c => if s.chState c = chStopping then max a (s.chan c).due else a) (s.hpo.due)
    let s := s.reach last
    let s := allChans.foldl (fun s c =>
      if s.chState c = chStopping ∧ ((s.chan c).phase = .tempering ∨ (s.chan c).phase = .lowering) then s.lowered c else s) s
    let s := if s.hpo.tempering then { s with hpo := {} }.setHpoState 0 else s
    let s := { s with fault := { s.fault with quenching := false } }
    match s.fault.recov with
    | none => s
    | some f => if faultQuenches f.code then s.endRecovery else s
  else s

/-- At a boundary, the recovery of a device-level DEGRADE fault ends: its response is in force (R591). -/
def State.recoveryBoundary (s : State) : State :=
  match s.fault.recov with
  | none => s
  | some f => if faultQuenches f.code then s else s.endRecovery

/-- A write of FAULT.CLEAR is accepted: the fault is active, of kind W, and its condition has ended (R589, R590, R595). -/
def State.faultClearOk (s : State) (code src : Nat) : Bool :=
  s.faultActive code src && faultKindW code &&
    (if code = 0x01 then s.b Regs.CLK_STAT 0
     else if code = 0x03 then !s.b Regs.PWR_STAT 15
     else if code = 0x12 then s.stock.passedSince
     else !s.fault.quenching)

/-- The FAULT page's check at a boundary: a mismatch of the active bitmap, or an uncorrectable log error, raises FLT_LOGIC (R596). -/
def State.faultCheck (s : State) : State := if s.fault.logicBad then s.raiseDevice 0x08 pgFault false else s

/-- A condition of a die ends, or begins: HELD channels, with the fault's recovery (R391). -/
def State.dieFault (s : State) (a : Bool) (code : Nat) : State := (s.holdDie a).raiseDevice code (dieSrc a) false

end Sys2Proof.Machine
end

