-- ==== Sys2Proof/Machine/Power.lean ====
section
/-!
DEFINITION. Power states, clocks and supply events (chapter 03), the timebase and the capture pins (chapter 04): requests and the paths
between states, wake sources, clock loss, PLLB, BRACE and VSYS. Entry to FORGING and its boundaries are in `Machine.Boundary`.
-/

namespace Sys2Proof.Machine

/-- PWR's page. -/
def pgPwr : Nat := 0x02
/-- TB's page. -/
def pgTb : Nat := 0x03

/-! ### States (R72 to R82) -/

/-- PSW_EN as the state and PWR.MODE.PSW_WARM give it (R72); a BANKED, EMBER or COLD device holds it low. -/
def State.psw (s : State) : State :=
  { s with power := { s.power with pswEn := s.forging || (s.pst == stWarm && s.b Regs.PWR_MODE 8) } }

/-- The device is in power state `st`. -/
def State.setPst (s : State) (st : Nat) : State := (s.setF Regs.PWR_STAT 0 3 st).psw

/-- A transition towards `r` is under way. -/
def State.beginTrans (s : State) (r : Nat) : State :=
  { s with power := { s.power with target := some r } }.setB Regs.PWR_STAT 3 true

/-- No transition is under way. -/
def State.endTrans (s : State) : State :=
  { s with power := { s.power with target := none } }.setB Regs.PWR_STAT 3 false

/-- Leaving FORGING: every started stage runs its stop sequence (R76, step 1). -/
def State.stopStages (s : State) : State :=
  let s := allChans.foldl (fun s c => if s.stopOk c then s.stopChan c else s) s
  if s.hpoStopOk then s.hpoStop else s

/-- A queue is pinned to a slab that STOCK.RETAIN keeps. -/
def State.keptQueue (s : State) (q : Nat) : Bool :=
  let x := s.queue q
  x.on && x.pin && (s.w Regs.STOCK_RETAIN).toNat.testBit x.slab

/-- The history ring's depth that R454 requires. -/
def State.histDepth (s : State) : Nat := (s.f Regs.WAKE_HIST 0 12 + 1) / 2 + 3

/-- Microphone channel `k` is fed: an analogue one always, a PDM one through its enabled line (R220). -/
def State.micFed (s : State) (k : Nat) : Bool := decide (k < 8) || (s.en 0x16 && s.b Regs.PDM_IF ((k - 8) / 2))

/-- The listener's microphone is one whose path may run: an analogue input, or a PDM channel whose line is enabled. -/
def State.listenerOk (s : State) : Bool := s.micFed (s.f Regs.WAKE_CTRL 0 4)

/-- A request for EMBER is refused with RANGE (R79, R454, R554). WAKE.MIC is an enabled microphone when one of its paths is enabled and
its line runs. -/
def State.emberRefused (s : State) : Bool :=
  let k := s.f Regs.WAKE_CTRL 0 4
  let hist := s.f Regs.WAKE_QA 16 10
  let out := s.f Regs.WAKE_QA 0 10
  let det := s.f Regs.WAKE_QB 0 10
  let anvil := s.b Regs.WAKE_CTRL 4
  let hq := s.f (Regs.MIC_Q k) 16 10
  let len := s.f Regs.WAKE_HIST 0 12
  let h := s.queue hist
  !s.listenerOk || s.f (Regs.MIC_CFG k) 30 2 == 0 || s.b Regs.MIC_PRIV 31 ||
    !s.keptQueue hist || !s.keptQueue out || (anvil && !s.keptQueue det) || !s.keptQueue hq ||
    (len != 0 && !(h.isRing && h.packed && h.producer == 0x2500 && h.consumer == 0x2500 && decide (s.histDepth ≤ h.depth))) ||
    !((s.queue out).packed && !(s.queue out).isRing && (s.queue out).producer == 0x2502) ||
    (anvil && !((s.queue det).packed && !(s.queue det).isRing && (s.queue det).producer == 0x2501)) ||
    h.domain != 3 || (s.queue out).domain != 3 || (anvil && (s.queue det).domain != 3) || (s.queue hq).domain != 3 ||
    (anvil && !(s.f (Regs.ANV_STAT 63) 0 3 == 3 && s.b (Regs.ANV_MODE 63) 0))

/-- A request for BANKED or EMBER is refused: R554 in any pairing that holds the link, R79 and R454 for EMBER. -/
def State.sleepRefused (s : State) (r : Nat) : Bool :=
  (r == stBanked || r == stEmber) && [3, 4, 5, 8].contains (s.f Regs.PAIR_STAT 0 4) || (r == stEmber && s.emberRefused)

/-- A wake other than the acoustic one ends the listening (R456). -/
def State.stopListening (s : State) : State :=
  if s.inEmber then
    { (s.setB Regs.WAKE_STAT 6 true).setF Regs.WAKE_STAT 0 4 0 with
      wake := { s.wake with fixed := none, woken := false, other := some s.tb } }
  else s

/-- A header word that the stay does not keep stands at its reset value at the wake, whatever happened in sleep (R78). -/
def lostAtWake (ember : Bool) (k : Nat) : Bool := decide (k < 0x10000) && decide (k % 256 < 16) && !keptThrough ember k

/-- The device leaves sleep towards state `r` (R74, R83): power returns to the core die, every register stands as R78 gives, and the boot
ROM will run (R643). PWR.STAT.STATE names the state that is left until PLLA has locked. -/
def State.wakeTo (s : State) (r : Nat) : State :=
  let s := s.resetKeys (lostAtWake (s.pst == stEmber))
  ({ s with power := { s.power with bucksOff := false, waking := true, gpHeld := none } } : State).beginTrans r

/-- The device wakes: to FORGING after an acoustic wake, else to WARM (R74, R83). -/
def State.wakeUp (s : State) (acoustic : Bool) : State := s.wakeTo (if acoustic then stForging else stWarm)

/-- The device acts on a request for state `r` (R74, R80): a state not reachable from the present one passes through WARM. -/
def State.actRequest (s : State) (r : Nat) : State :=
  if s.pst = r then s
  else if s.asleep then s.stopListening.wakeTo r
  else if s.forging then (s.beginTrans r).stopStages
  else s.beginTrans r

/-- A write of PWR.MODE.REQ (R80): held while a transition runs. -/
def State.requestState (s : State) (r : Nat) : State :=
  if s.b Regs.PWR_STAT 3 then { s with power := { s.power with heldReq := some r } } else s.actRequest r

/-- The running transition has completed: the held request is acted on, or refused (R79, R80). -/
def State.heldRequest (s : State) : State :=
  match s.power.heldReq with
  | none => s
  | some r =>
    let s := { s with power := { s.power with heldReq := none } }
    if s.sleepRefused r then s.range pgPwr 0x040 else s.actRequest r

/-! ### Wake sources (R81, R84) -/

/-- The device is entering BANKED or EMBER, and the bucks have not stopped (R81). -/
def State.fallingAsleep (s : State) : Bool :=
  s.pst == stWarm && (s.power.target == some stBanked || s.power.target == some stEmber) && !s.power.bucksOff

/-- The device is waking (R84): up to WARM, and after a detection up to T_seam. -/
def State.wakingUp (s : State) : Bool := s.power.waking || s.wake.woken

/-- The event of wake source `i`, a bit of PWR.WAKE_EN (R81, R84): recorded in sleep, on the way there and while waking. A halted device
wakes by a TWT start condition alone (R588). (Log entry 29: DEDUCED.) -/
def State.wakeSource (s : State) (i : Nat) : State :=
  if s.power.cold then s
  else
    let s := if s.inSleep || s.fallingAsleep || s.wakingUp then s.setB Regs.PWR_WAKE_CAUSE i true else s
    if s.fault.halted || !s.b Regs.PWR_WAKE_EN i then s
    else if s.asleep then (if i = 4 then s else s.stopListening).wakeUp (i == 4)
    else if s.wake.woken ∧ i ≠ 4 then { s with wake := { s.wake with other := some s.tb } }
    else if s.fallingAsleep then s.endTrans.heldRequest
    else s

/-- The timebase value PWR.ALARM holds. (Log entry 27: DEDUCED.) -/
def State.alarmAt (s : State) : Nat := (s.w Regs.PWR_ALARM_LO).toNat + (s.w Regs.PWR_ALARM_HI).toNat * 2 ^ 32

/-- The timebase reaches PWR.ALARM (R84). (Log entry 27: DEDUCED.) -/
def State.alarm (s : State) : State :=
  let t := s.alarmAt
  if s.power.alarmDone ∨ s.power.cold then s
  else { s.reach t with power := { s.power with alarmDone := true } }.wakeSource 9

/-! ### Clocks (R86 to R99) -/

/-- A rising edge of the slow clock: exactly 3,000 ticks where the slow clock carries the count (R108). -/
def State.slowEdge (s : State) : State :=
  if !s.power.cold && s.slowCarried then { s with tb := tbWrap (s.tb + 3000) } else s

/-- PLLA locks: its reference runs and the device is in WARM or FORGING (R86). Fast counting starts at a slow edge, from the value after
that edge's step (R109). (Log entry 25: DESIGN CHOICE.) -/
def State.pllaLock (s : State) : State :=
  if s.b Regs.CLK_STAT 0 ∧ s.up then
    let s := s.slowEdge
    { s with power := { s.power with slowTb := false, onRc := false } }.setB Regs.CLK_STAT 2 true
  else s

/-- The fast source is lost (R88): CLK_LOSS, the quench and WARM. -/
def State.fastLoss (s : State) : State :=
  if s.up ∧ s.b Regs.CLK_STAT 0 then
    let s := ((s.setB Regs.CLK_STAT 0 false).setB Regs.CLK_STAT 2 false).setB Regs.CLK_STAT 5 true
    let s := { s with power := { s.power with onRc := true, slowTb := true } }
    let s := s.raiseDevice 0x01 pgClk false
    if s.forging then s.beginTrans stWarm else s
  else s

/-- Edges of the fast source return (R589). -/
def State.fastRestored (s : State) : State := if s.awake then s.setB Regs.CLK_STAT 0 true else s

/-- The slow source fails: the island runs from the low-power RC (R88). -/
def State.slowFail (s : State) : State := if s.power.cold then s else s.setB Regs.CLK_STAT 1 false

/-- A write of CLK.SRC in WARM: PLLA relocks and the slow clock carries the timebase meanwhile (R95). -/
def State.afterClkSrc (s : State) : State :=
  { s with power := { s.power with slowTb := true } }.setB Regs.CLK_STAT 2 false

/-! ### Supplies (R100 to R104) -/

/-- The device enters BRACE (R101). -/
def State.enterBrace (s : State) : State := s.setB Regs.PWR_STAT 13 true

/-- VAON falls below 2.90 V: BRACE in WARM and FORGING, the flag alone in sleep (R101, R104). -/
def State.vaonFall (s : State) : State :=
  if s.power.cold then s
  else
    let s := { s with power := { s.power with vaonLow := true, braceDue := none } }.setB Regs.PWR_STAT 14 true
    if s.up then s.enterBrace else s

/-- VAON rises through 2.96 V: the live flag clears, and the 2 ms of R102 begin (R100). -/
def State.vaonRise (s : State) : State :=
  if s.power.cold ∨ s.power.vaonLow = false then s
  else { s with power := { s.power with vaonLow := false, braceDue := some (s.tb + 2 * tickMs) } }.setB Regs.PWR_STAT 14 false

/-- VAON has stayed above 2.96 V for 2 ms: BRACE ends (R102). -/
def State.braceEnd (s : State) : State :=
  match s.power.braceDue with
  | none => s
  | some t =>
    let s := { s.reach t with power := { s.power with braceDue := none } }
    if s.braced then (s.setB Regs.PWR_STAT 13 false).incF Regs.PWR_BRACE_COUNT 0 16 else s

/-- Row BRACE_END: while VAON is low, its crossing of 2.96 V (R100); after that, the end of the 2 ms above it (R102). (Log entry 91:
DESIGN CHOICE.) -/
def State.vaonBack (s : State) : State := if s.power.vaonLow then s.vaonRise else s.braceEnd

/-- The device arrives in WARM after a wake: BRACE where VAON is still low (R104). -/
def State.wakeBrace (s : State) : State := if s.power.vaonLow then s.enterBrace else s

/-- VSYS falls below 2.80 V: VSYS_UV, the quench and WARM (R100). -/
def State.vsysFall (s : State) : State :=
  if s.power.cold ∨ s.power.vsysLowAt.isSome then s
  else
    let s := { s with power := { s.power with vsysLowAt := some s.tb } }.setB Regs.PWR_STAT 15 true
    if s.up then
      let s := s.raiseDevice 0x03 pgPwr false
      if s.forging then s.beginTrans stWarm else s
    else s

/-- VSYS below 2.80 V for 1 ms: BANKED (R74, R100). -/
def State.vsysTimeout (s : State) : State :=
  match s.power.vsysLowAt with
  | none => s
  | some t => if s.up then (s.reach (t + tickMs)).beginTrans stBanked else s

/-- VSYS rises through 2.95 V (R100). -/
def State.vsysRecover (s : State) : State := { s with power := { s.power with vsysLowAt := none } }.setB Regs.PWR_STAT 15 false

/-- VAON reaches 2.45 V (R85, R103): a device reset into COLD; `kept` says that VAON stays above the island's retention level of 1.8 V,
without which POR is set at the next power-on. -/
def State.vaonReset (s : State) (kept : Bool) : State :=
  let s := if kept then s.deviceReset 2 true else s.deviceReset 1 false
  let s := (s.setW Regs.MIC_PRIV 0).setW Regs.JACK_STAT 0
  { s with
    power := { s.power with cold := true, pswEn := false, vaonLow := true }, fault := { s.fault with halted := false }, jack := {} }

/-- VAON rises through 2.60 V (R74, R105, R619): the device leaves COLD, the timebase starts from 0 and the straps are read. A ROLE strap
of 0b11 raises ROLE_STRAP (R533). -/
def State.porRelease (s : State) (def_ role addr : Nat) : State :=
  if s.power.cold then
    let s : State := { s with
      tb := 0, boundary := 0
      power := { s.power with cold := false, strapDef := def_ % 8, strapRole := role % 4, strapAddr := addr % 4 } }
    let s := (s.strapRegs.setPst stWarm).beginTrans stWarm
    if role % 4 = 3 then s.raiseLocal 0x50 0x7D 0 else s
  else s

/-! ### The timebase (R105 to R109) -/

/-- One tick (R105). (Log entry 4: DESIGN CHOICE.) -/
def State.tick (s : State) : State :=
  if s.power.cold || s.slowCarried then s else { s with tb := tbWrap (s.tb + 1) }

/-- The broadcast of the timebase, 256 ticks after the last one (R106). `reps` gives what the replicas read then, by unit; one that is not
in the list stands as it stood. A replica more than 1 tick from the value adopts it and raises TB_REPLICA. -/
def State.tbBroadcast (s : State) (reps : List Nat) : State :=
  if s.awake then
    let s := s.reach (s.power.bcastAt + 256)
    let s := { s with power := { s.power with bcastAt := s.tb } }
    (List.range reps.length).foldl (fun (s : State) (u : Nat) =>
      let off : Int := (reps.getD u 0 : Int) - s.tb
      if 1 < off.natAbs then { s with power := { s.power with tbOff := s.power.tbOff.del u } }.raiseLocal 0x04 pgTb 0
      else { s with power := { s.power with tbOff := s.power.tbOff.set 0 u off } }) s
  else s

/-- What the control fabric's replica of the timebase reads (R106, R107). -/
def State.tbShown (s : State) : Nat := tbWrap (((s.tb : Int) + s.power.tbOff.get 0 0).toNat)

/-- The device acts as a follower (R534): STRAP names a pairing role and ACTING is 0. -/
def State.actingFollow (s : State) : Bool := s.f Regs.PAIR_STAT 30 2 != 0 && !s.b Regs.PAIR_STAT 29

/-- A follower in WARM acquires the timebase: the lead's stamp plus the link delay (R127). -/
def State.tbAcquire (s : State) (stamp delay : Nat) : State :=
  if s.actingFollow ∧ s.pst = stWarm ∧ s.b Regs.TB_SYNC 0 = false then
    let t := (stamp + delay) % 2 ^ 64
    let s := { s with tb := t, boundary := t / s.strokeLen * s.strokeLen, power := { s.power with tbOff := [], bcastAt := t } }
    s.setB Regs.TB_SYNC 0 true
  else s

/-- One measurement of the follower's error `e` in ticks (R128, R129). (Log entry 28: DEDUCED.) -/
def State.followMeasure (s : State) (e : Int) : State :=
  let s := s.setF Regs.TB_SYNC 16 16 (unsign 16 (satS 16 (if e < -32767 then -32767 else e)))
  if e.natAbs ≤ 2 then { s with power := { s.power with syncRun := s.power.syncRun + 1 } }
  else
    let s := { s with power := { s.power with syncRun := 0 } }
    if 8 < e.natAbs then
      let s := if s.b Regs.TB_SYNC 1 then (s.setB Regs.TB_SYNC 1 false).event pgTb 6 else s
      if s.b Regs.TB_SYNC 2 then s
      else (((s.setB Regs.TB_SYNC 2 true).incF Regs.TB_SYNC 8 8).event pgTb 5).raiseDevice 0x05 pgTb false
    else s

/-- After 64 consecutive measured strokes within 2 ticks LOCK sets and PAIR_DRIFT ends (R128). -/
def State.followLock (s : State) : State :=
  if s.actingFollow ∧ s.b Regs.TB_SYNC 0 ∧ 64 ≤ s.power.syncRun ∧ s.b Regs.TB_SYNC 1 = false then
    let s := { s with power := { s.power with wasLocked := true } }
    (((s.setB Regs.TB_SYNC 1 true).setB Regs.TB_SYNC 2 false).event pgTb 6).clearFault 0x05 pgTb
  else s

/-! ### Capture pins (R112 to R114) -/

/-- The control byte of capture channel `n`. -/
def State.capByte (s : State) (n : Nat) : Nat := s.f Regs.TB_CAPCTL (8 * n) 8

/-- A capture on channel `n` at `tick`: a capture not yet read is lost to OVF, and a HI word that a master still holds from an older capture
no longer clears VALID when it is read (R113). -/
def State.capture (s : State) (n tick : Nat) : State :=
  let ovf := s.b Regs.TB_CAPSTAT n
  let s := (s.setW (Regs.TB_CAP_LO n) (Word.of tick)).setW (Regs.TB_CAP_HI n) (Word.of (tick / 2 ^ 32))
  let s := (s.setB Regs.TB_CAPSTAT n true).event pgTb n
  let waiting := (s.fabric.snaps.filter fun x => x.2.1 == Regs.TB_CAP_HI n).map fun x => (x.1, n)
  let s := { s with fabric := { s.fabric with capStale := s.fabric.capStale ++ waiting.filter fun x => !s.fabric.capStale.contains x } }
  if ovf then (s.setB Regs.TB_CAPSTAT (4 + n) true).event pgTb 4 else s

/-- Channel `n` watches pin GP`pin` for an edge of this direction (R112). -/
def State.captures (s : State) (n pin : Nat) (rising : Bool) : Bool :=
  let c := s.capByte n
  let edge := c / 32 % 4
  decide (128 ≤ c) && c % 16 == pin && (edge == 2 || edge == b2n (!rising))

/-- Every channel that watches an edge of pin GP`pin` captures its tick (R112, R113). -/
def State.capturePins (s : State) (pin : Nat) (rising : Bool) (tick : Nat) : State :=
  (List.range 4).foldl (fun s n => if s.captures n pin rising then s.capture n tick else s) s

end Sys2Proof.Machine
end

