-- ==== Sys2Proof/Machine/Capture.lean ====
section
/-!
DEFINITION. On-chip capture (chapters 16 and 17): microphone paths, line channels, the bias supplies, the wake unit with its detector,
history and hand-over, and the privacy mute. Channels are numbered HQ path k as k, LP path k as 16 + k, line channel s as 32 + s.
-/

namespace Sys2Proof.Machine

/-- MIC's page. -/
def pgMic : Nat := 0x24
/-- WAKE's page. -/
def pgWake : Nat := 0x25
/-- LIN's page. -/
def pgLin : Nat := 0x26

/-- The record of capture channel `i`. -/
def State.capt (s : State) (i : Nat) : Capt := s.capts.get {} i

/-- `s` with the record of capture channel `i` replaced. -/
def State.setCapt (s : State) (i : Nat) (x : Capt) : State := { s with capts := s.capts.set {} i x }

/-- The queue of capture channel `i` (R443, R468). -/
def State.captQueue (s : State) (i : Nat) : Nat :=
  if i < 16 then s.f (Regs.MIC_Q i) 16 10
  else if i < 32 then s.f (Regs.MIC_Q (i - 16)) 0 10
  else s.f Regs.LIN_Q (if i < 34 then 0 else 16) 10 + i % 2

/-- Unit identifier of capture channel `i`. -/
def captUnit (i : Nat) : Nat := if i < 32 then unitId pgMic i else unitId pgLin (i - 32)

/-- The privacy mute is asserted. -/
def State.privacy (s : State) : Bool := s.b Regs.MIC_PRIV 31

/-- The open billet of capture channel `i` is put with the samples collected (R202). -/
def State.captClose (s : State) (i : Nat) : State :=
  let x := s.capt i
  match x.grant with
  | none => s
  | some g =>
    let q := s.captQueue i
    let t : Tag := { stamp := x.stamp % 2 ^ 32, count := x.samples.length, offset := 0xFF, flags := if x.muted then flMuted else 0 }
    let s := s.capturePut q g.1 g.2 0 t (packSamples (s.queue q).packed x.samples)
    s.setCapt i { x with grant := none, samples := [], muted := false }

/-- A credit for the next billet of every channel of `l`: all or none (R651). A credit granted beside a refused one goes back. -/
def State.captGrants (s : State) (l : List Nat) : Bool × State :=
  let r := l.foldl (fun (a : List (Nat × Nat × Nat) × State) i =>
    match a.2.grant (a.2.captQueue i) .producer with
    | (none, s) => (a.1, s)
    | (some b, s) => (a.1 ++ [(i, b, (s.queue (s.captQueue i)).gen)], s)) ([], s)
  if r.1.length = l.length then
    (true, r.1.foldl (fun s x => s.setCapt x.1 { s.capt x.1 with grant := some x.2, samples := [], muted := false }) r.2)
  else (false, r.1.foldl (fun s x => s.release x.2.1) r.2)

/-- A sample of capture channel `i` stands in its open billet. -/
def State.captAppend (s : State) (i tick : Nat) (v : Word) (muted : Bool) : State :=
  let x := s.capt i
  s.setCapt i { x with stamp := if x.samples.isEmpty then tick else x.stamp, samples := x.samples ++ [v], muted := x.muted || muted }

/-- The value channel `i` delivers for a sample converted at `tick`, and whether it is MUTED: MUTED zeros under the privacy mute (R461),
plain or MUTED zeros before its settling ends, then a fade-in over one stroke (R459, R465). -/
def State.captValue (s : State) (i tick : Nat) (v : Word) : Word × Bool :=
  if i < 32 ∧ s.privacy then (0, true)
  else match (s.capt i).quietTo with
    | none => (v, false)
    | some t =>
      if tick < t then (0, (s.capt i).quietMuted)
      else
        let j := (tick - t) / s.sampleTicks
        (if j < 32 then fadeIn j v else v, false)

/-- The channel runs: it has started, and no stop has been accepted. -/
def State.captRuns (s : State) (i : Nat) : Bool := (s.capt i).on && (s.capt i).stopAt.isNone

/-- The last sample before a stop has come: the channel closes its billet; its stream fades (R203, R469). -/
def State.captStopNow (s : State) (i : Nat) : State :=
  let s := s.captClose i
  (s.setCapt i {}).stallStreams (if i < 16 ∨ 32 ≤ i then [s.captQueue i] else []) true

/-- Channel `i` stops at the sample of tick `t`: the samples of earlier instants are still inside the converter (R467, R654). -/
def State.captEnd (s : State) (i t : Nat) : State :=
  let x := s.capt i
  if x.startAt < t then s.setCapt i { x with stopAt := some t } else s.captStopNow i

/-- A stop of channel `i` at or before tick `t`. (Log entry 68: DEDUCED.) -/
def State.captStopBy (s : State) (i t : Nat) : Bool := match (s.capt i).stopAt with | some u => decide (u ≤ t) | none => false

/-- The instant `tick` is one at which channel `i` samples: on the grid of `step` ticks (R449, R450), and after the samples of its open
billet. -/
def State.captInstant (s : State) (i tick step : Nat) : Bool :=
  tick % step == 0 && ((s.capt i).samples.isEmpty || decide ((s.capt i).stamp + (s.capt i).samples.length * step ≤ tick))

/-- One conversion at `tick`, the instant at the pin, of the channels `l`, which begin their billets together (R651): the values beside
them. `ends` says that the billets close after it; the next sample comes `step` ticks later. -/
def State.captSample (s : State) (l : List (Nat × Word)) (tick step : Nat) (begins ends : Bool) : State :=
  let ids := l.map (·.1)
  if ids.any fun i => !(s.capt i).on || decide (tick < (s.capt i).startAt) || !s.captInstant i tick step then s
  else if ids.any fun i => s.captStopBy i tick then ids.foldl (fun s i => s.captStopNow i) s
  else
    let vals := l.map fun iv => (iv.1, s.captValue iv.1 tick iv.2)
    let isOpen := ids.all fun i => (s.capt i).grant.isSome
    let r := if isOpen then (true, s) else if begins then s.captGrants ids else (false, s)
    let s :=
      if r.1 then
        let s := vals.foldl (fun s v => s.captAppend v.1 tick v.2.1 v.2.2) r.2
        if ends then ids.foldl (fun s i => s.captClose i) s else s
      else ids.foldl (fun s i => if (s.queue (s.captQueue i)).isInput then s.account (s.captQueue i) 1 0 1 0 else s) r.2
    if ids.any fun i => s.captStopBy i (tick + step) then ids.foldl (fun s i => s.captStopNow i) s else s

/-- Hearth-sample offset of an instant within its stroke. -/
def State.hearthOffset (s : State) (tick : Nat) : Nat := (tick + s.sampleTicks / 2) / s.sampleTicks % 32

/-! ### Line channels (R467 to R469, R654) -/

/-- The line channels of the enabled pairs. -/
def State.linChans (s : State) : List Nat :=
  (if s.b Regs.LIN_CFG 8 then [32, 33] else []) ++ (if s.b Regs.LIN_CFG 9 then [34, 35] else [])

/-- LIN is running. -/
def State.linRunning (s : State) : Bool := s.f Regs.LIN_STAT 0 4 == 1

/-- A START of LIN passes its checks (R469, R654). -/
def State.linStartOk (s : State) : Bool :=
  !s.linRunning && s.en pgLin && !s.linChans.isEmpty && s.linChans.all fun i => s.queueFits (s.captQueue i) (captUnit i) true

/-- LIN.CMD.START: every enabled pair starts at the next hearth sample. (Log entry 68: DEDUCED.) -/
def State.linStart (s : State) : State :=
  let t := s.sampleFrom s.tb
  let s := s.linChans.foldl (fun s i =>
    let s := if (s.capt i).on then s.captStopNow i else s
    (s.setCapt i { on := true, startAt := t }).stallStreams [s.captQueue i] false) s
  s.setF Regs.LIN_STAT 0 4 1

/-- LIN.CMD.STOP: both pairs stop at the next hearth sample (R469). -/
def State.linStop (s : State) : State :=
  if s.linRunning then
    let t := s.sampleFrom s.tb
    let s := [32, 33, 34, 35].foldl (fun s i => if s.captRuns i then s.captEnd i t else s) s
    s.setF Regs.LIN_STAT 0 4 0
  else s

/-- Capture channel `i` ends in a soft reset: its granted billet returns unput, and its samples count in RECEIVED and SLAG (R654).
(Log entry 95: DEDUCED.) -/
def State.captDrop (s : State) (i : Nat) : State :=
  let x := s.capt i
  let q := s.captQueue i
  let s := match x.grant with | some g => s.returnGrant q g.1 g.2 | none => s
  let s := if (s.queue q).isInput then s.account q x.samples.length 0 x.samples.length 0 else s
  (s.setCapt i {}).stallStreams (if (i < 16 ∨ 32 ≤ i) ∧ x.on then [q] else []) true

/-- A soft reset of LIN while its pairs run: the granted billets return unput, their samples discarded (R654). -/
def State.linReset (s : State) : State := [32, 33, 34, 35].foldl (fun (s : State) (i : Nat) => s.captDrop i) s

/-- A write of LIN.CMD (R469). -/
def State.writeLinCmd (s : State) (v : Word) : State :=
  if bit v 0 then (if s.linStartOk then s.linStart else s.range pgLin 0x048)
  else if bit v 1 then s.linStop
  else s

/-- A conversion of line pair `n` at `tick`; `ovl` counts samples at an end of full scale. -/
def State.lineSample (s : State) (n tick : Nat) (l r : Word) (ovl : Nat) : State :=
  let a := 32 + 2 * n
  if (s.capt a).on then
    let s := if ovl = 0 then s else (s.addF Regs.LIN_STAT 16 16 ovl).event pgLin 0
    let o := s.hearthOffset tick
    s.captSample [(a, l), (a + 1, r)] tick s.sampleTicks true (o == 15 || o == 31)
  else s

/-! ### Microphone paths (R442 to R450) -/

/-- The PDM clock that serves microphone channel `k` runs at 768 kHz (R220, R222, R444). -/
def State.pdmSlow (s : State) (k : Nat) : Bool := decide (8 ≤ k) && !s.pdmRate.testBit ((k - 8) / 4)

/-- The rates of PDMCLK0 and PDMCLK1 change at a boundary (R222), and under the privacy mute not before its release (R462). -/
def State.pdmBoundary (s : State) : State := if s.privacy then s else { s with pdmRate := s.f Regs.PDM_IF 8 2 }

/-- The queue matches the table under R443 and is of domain PRIVATE-MIC (R444); `i` is the capture channel, `v` the queue. -/
def State.micQueueOk (s : State) (i q : Nat) : Bool :=
  let x := s.queue q
  x.on && !x.isRing && x.producer == captUnit i && x.packed == decide (16 ≤ i) && x.domain == 3

/-- A write of MIC.CFGk is refused with RANGE (R444, R446). (Log entry 42: DEDUCED.) -/
def State.micCfgRefused (s : State) (k : Nat) (v : Word) : Bool :=
  let old := s.w (Regs.MIC_CFG k)
  (bit v 31 && !bit old 31 && (!s.micQueueOk k (s.captQueue k) || s.pdmSlow k)) ||
    (bit v 30 && !bit old 30 && !s.micQueueOk (16 + k) (s.captQueue (16 + k))) ||
    (decide (k < 8) && bits v 0 3 != bits old 0 3 && (bit old 31 || bit old 30))

/-- A write of PDM.IF that slows a clock with an enabled HQ path on its lines is refused (R444). -/
def State.pdmIfRefused (s : State) (v : Word) : Bool :=
  (!bit v 8 && (List.range 4).any fun i => s.b (Regs.MIC_CFG (8 + i)) 31) ||
    (!bit v 9 && (List.range 4).any fun i => s.b (Regs.MIC_CFG (12 + i)) 31)

/-- A microphone path starts with its first sample at tick `t`; zeros until `quiet`. (Log entry 68: DEDUCED.) -/
def State.micStart (s : State) (i t : Nat) (quiet : Option Nat) (muted : Bool) : State :=
  let s := (s.setCapt i { on := true, startAt := t, quietTo := quiet, quietMuted := muted }).setB Regs.MIC_STAT (if i < 16 then 16 + i else i - 16) true
  if i < 16 then s.stallStreams [s.captQueue i] false else s

/-- A microphone path stops at the boundary of tick `b`. -/
def State.micStop (s : State) (i b : Nat) : State := (s.captEnd i b).setB Regs.MIC_STAT (if i < 16 then 16 + i else i - 16) false

/-- Paths start and stop at the first boundary after their bits change (R444); `b` is the boundary's tick. Under the privacy mute a change of
the bits waits for its release (R462); EN at 0 still stops them. -/
def State.micBoundary (s : State) (b : Nat) : State :=
  (List.range 32).foldl (fun s i =>
    let want := s.en pgMic && s.b (Regs.MIC_CFG (i % 16)) (if i < 16 then 31 else 30)
    if s.privacy ∧ s.en pgMic then s
    else if want ∧ s.captRuns i = false then (if (s.capt i).on then s.captStopNow i else s).micStart i b none false
    else if want = false ∧ s.captRuns i then s.micStop i b
    else s) s

/-- Cross-fade of the listener's HQ stream (R458): the LP path's sample before B_x, both over the stroke from it, then HQ alone. -/
def State.crossValue (s : State) (tick : Nat) (hq lp : Word) : Word :=
  match s.wake.cross with
  | none => hq
  | some b =>
    if tick < b then lp
    else
      let i := (tick - b) / s.sampleTicks
      if i < 32 then
        Word.of (unsign 32 (satS 32 (roundConv (sext 32 lp.toNat * (31 - (i : Int)) + sext 32 hq.toNat * ((i : Int) + 1)) 5)))
      else hq

/-- A hearth sample of microphone channel `k`'s HQ path, which a PDM line that is not enabled does not feed (R220), at `tick`; `lp` is its LP path's sample interpolated to that instant, which the
hand-over uses (R458). -/
def State.micHq (s : State) (k tick : Nat) (hq lp : Word) : State :=
  let v := if k = s.f Regs.WAKE_CTRL 0 4 then s.crossValue tick hq lp else hq
  let o := s.hearthOffset tick
  if s.micFed k then s.captSample [(k, v)] tick s.sampleTicks true (o == 15 || o == 31) else s

/-! ### Listening, history and hand-over (R451 to R459) -/

/-- WAKE.STAT.STATE: 0 IDLE, 1 LISTEN, 2 HANDOVER, 3 LIVE. -/
def State.wakeState (s : State) : Nat := s.f Regs.WAKE_STAT 0 4

/-- The listener begins at entry to EMBER (R451); a mute that is asserted meanwhile stops it (R464). -/
def State.listen (s : State) : State :=
  let s := { s with wake := {} }
  let s := s.setW Regs.WAKE_STAT (Word.of 1)
  if s.privacy then s.setB Regs.WAKE_STAT 7 true else s

/-- The history billet being written goes into the ring, over the oldest (R456), and a copy to DETQ for ANV63 (R453). -/
def State.histPut (s : State) : State :=
  let w := s.wake
  if w.samples.isEmpty then s
  else
    let h := s.f Regs.WAKE_QA 16 10
    let x := s.queue h
    let t : Tag := {
      stamp := w.stamp % 2 ^ 32, count := w.samples.length, offset := 0xFF, domain := x.domain, flags := if w.muted then flMuted else 0, packed := true }
    let data := packSamples true w.samples
    let s :=
      if s.f Regs.WAKE_HIST 0 12 ≠ 0 ∧ x.on then
        match s.ringBillet h w.pos with
        | none => s
        | some b =>
          let t := { t with flags := t.flags ||| ((s.billet b).tag.flags &&& flRetained) }
          { s.setBillet b { tag := t, data := data } with
            wake := { w with
              hist := (w.hist.filter fun e => e.2.1 != w.pos) ++ [(w.stamp, w.pos, w.samples.length)]
              pos := (w.pos + 1) % max 1 x.depth } }
      else s
    let s := { s with wake := { s.wake with samples := [], muted := false } }
    if s.b Regs.WAKE_CTRL 4 then (s.produce (s.f Regs.WAKE_QB 0 10) t data).2 else s

/-- An LP sample of the listener, from EMBER until T_seam (R451, R456, R464). -/
def State.listenSample (s : State) (tick : Nat) (v : Word) : State :=
  let m := s.privacy
  let w := s.wake
  if w.samples.isEmpty ∧ tick / 6144 % 32 ≠ 0 then s
  else
    let s := { s with wake := { w with
      stamp := if w.samples.isEmpty then tick else w.stamp, samples := w.samples ++ [if m then 0 else v], muted := w.muted || m } }
    if s.wake.samples.length = 32 then s.histPut else s

/-- The listener takes LP samples: in EMBER, and through an acoustic wake until T_seam. (Log entry 68: DEDUCED.) -/
def State.listening (s : State) : Bool := s.inEmber || s.wake.woken

/-- An LP sample of microphone channel `k` at `tick` (R450): the wake unit's while it listens, else the LP path's. -/
def State.micLp (s : State) (k tick : Nat) (v : Word) : State :=
  if s.micFed k = false then s
  else if s.listening then (if k = s.f Regs.WAKE_CTRL 0 4 then (s.reach tick).listenSample tick v else s)
  else
    let n := tick / 6144 % 32
    s.captSample [(16 + k, v)] tick 6144 (n == 0) (n == 31)

/-- A detection may be taken: the listener listens, or another source has ended the listening in this very slow-clock period, in which the
acoustic wake is the one taken (R455). -/
def State.detectOk (s : State) : Bool :=
  !s.privacy && ((s.inEmber && s.wakeState == 1) ||
    (s.pst == stEmber && s.wake.other == some s.tb && s.b Regs.PWR_WAKE_EN 4 && !s.fault.halted))

/-- A detection (R455, R456): EVT latched, the history start fixed, the wake begun, or turned into the acoustic one. -/
def State.detect (s : State) : State :=
  if s.detectOk then
    let old : Fired := { tick := s.tb, lo := s.w Regs.WAKE_EVT_LO, hi := s.w Regs.WAKE_EVT_HI, cause := s.b Regs.PWR_WAKE_CAUSE 4 }
    let turned := s.power.waking
    let s := (s.setW Regs.WAKE_EVT_LO (Word.of s.tb)).setW Regs.WAKE_EVT_HI (Word.of (s.tb / 2 ^ 32))
    let woken := s.b Regs.PWR_WAKE_EN 4 && !s.fault.halted
    let s := { s with wake := { s.wake with fixed := some (s.tb - s.f Regs.WAKE_HIST 0 12 * tickMs), woken := woken, fired := some old, hits := 0 } }
    let s := s.wakeSource 4
    if turned then ((s.setB Regs.WAKE_STAT 6 false).setF Regs.WAKE_STAT 0 4 1).beginTrans stForging else s
  else s

/-- A detection on the slow-clock period of the mute's assertion is discarded (R461): what it latched stands as before, and the device
listens on, or wakes to WARM where another source has come in that period. -/
def State.discardDetection (s : State) : State :=
  match s.wake.fired with
  | none => s
  | some f =>
    if f.tick = s.tb ∧ s.pst = stEmber then
      let s := (((s.setW Regs.WAKE_EVT_LO f.lo).setW Regs.WAKE_EVT_HI f.hi).setB Regs.PWR_WAKE_CAUSE 4 f.cause)
      let was := s.wake.woken
      let s := { s with wake := { s.wake with woken := false, fixed := none, fired := none } }
      if !was then s
      else if s.wake.other = some s.tb then
        ((s.setB Regs.WAKE_STAT 6 true).setF Regs.WAKE_STAT 0 4 0).beginTrans stWarm
      else ({ s with power := { s.power with waking := false, bucksOff := true } } : State).endTrans
    else s

/-- One 16 ms window of the built-in detector with level `l` in 1/256 dB (R452). -/
def State.detectorWindow (s : State) (l : Int) : State :=
  if s.inEmber ∧ s.wakeState = 1 ∧ s.b Regs.WAKE_CTRL 4 = false ∧ s.privacy = false then
    let f := s.wake.floor.getD l
    let thr : Int := s.f Regs.WAKE_DET 16 16
    if l ≥ f + thr then
      let s := { s with wake := { s.wake with floor := some f, hits := s.wake.hits + 1 } }
      if s.f Regs.WAKE_DET 8 8 ≤ s.wake.hits then s.detect else s
    else { s with wake := { s.wake with floor := some (if l < f then l else f + s.f Regs.WAKE_DET 0 8), hits := 0 } }
  else s

/-- A write of WAKE.FIRE (R453): by ANV63 in EMBER alone. -/
def State.writeFire (s : State) (m : Master) (v : Word) : State :=
  if m = .anvil 63 ∧ s.inEmber then
    let s := s.setF Regs.WAKE_STAT 24 8 (bits v 8 8)
    if bit v 0 then s.detect else s
  else s.range pgWake 0x06C

/-- The tick of B_x for a hand-over at `b` (R458): the first boundary at or after the settling of every channel involved. -/
def State.crossTick (s : State) (b : Nat) : Nat :=
  let ks := s.f Regs.WAKE_CTRL 0 4 :: (List.range 16).filter fun k => s.b (Regs.MIC_CFG k) 29
  let ms := if ks.any fun k => decide (8 ≤ k) then max 1 (s.f Regs.WAKE_CTRL 8 4) else 1
  let l := s.strokeLen
  (b + ms * tickMs + l - 1) / l * l

/-- T_seam: the device enters FORGING at `b` after a detection (R457 to R459). The HQ paths started by the hand-over have HQ_EN set.
(Log entry 68: DEDUCED.) -/
def State.seam (s : State) (b : Nat) : State :=
  if s.wake.woken then
    let s := s.histPut
    let x := s.crossTick b
    let s := (s.setW Regs.WAKE_SEAM_LO (Word.of b)).setW Regs.WAKE_SEAM_HI (Word.of (b / 2 ^ 32))
    let s := s.setW Regs.WAKE_XFADE (Word.of (x / s.strokeLen))
    let start := s.wake.fixed.getD b
    let kept := s.wake.hist.filter fun e => decide (start ≤ e.1)
    let s := { s with wake := { s.wake with woken := false, cross := some x, hist := if s.f Regs.WAKE_HIST 0 12 = 0 then [] else kept } }
    let s := (s.setF Regs.WAKE_STAT 0 4 2).event pgWake 0
    let k := s.f Regs.WAKE_CTRL 0 4
    let s := ((List.range 16).filter (· != k)).foldl (fun s i => if s.b (Regs.MIC_CFG i) 29 then (s.micStart i b (some x) false).setB (Regs.MIC_CFG i) 31 true else s) s
    let s := (s.micStart k b none false).setB (Regs.MIC_CFG k) 31 true
    if s.wake.hist.isEmpty then (s.setB Regs.WAKE_STAT 5 true).event pgWake 1 else s
  else s

/-- From B_x + 1 stroke on the hand-over is over (R458). -/
def State.crossBoundary (s : State) (b : Nat) : State :=
  match s.wake.cross with
  | none => s
  | some x =>
    if x + s.strokeLen ≤ b then
      ({ s with wake := { s.wake with cross := none } }.setF Regs.WAKE_STAT 0 4 3).event pgWake 2
    else s

/-- The oldest history billet is copied into OUTQ where a credit allows (R457). -/
def State.histDrain (s : State) : State :=
  match s.wake.hist with
  | [] => s
  | (stamp, i, cnt) :: rest =>
    if 2 ≤ s.wakeState then
      let h := s.f Regs.WAKE_QA 16 10
      let bl := match s.ringBillet h i with | some b => s.billet b | none => {}
      let t : Tag := { stamp := stamp % 2 ^ 32, count := cnt, offset := 0xFF, flags := bl.tag.flags &&& flMuted }
      match s.produce (s.f Regs.WAKE_QA 0 10) t bl.data with
      | (false, s) => s
      | (true, s) =>
        let s := { s with wake := { s.wake with hist := rest } }
        if rest.isEmpty then (s.setB Regs.WAKE_STAT 5 true).event pgWake 1 else s
    else s

/-! ### Bias and the privacy mute (R447, R460 to R466) -/

/-- Bias supply `n` is on (R447). -/
def State.biasOn (s : State) (n : Nat) : Bool :=
  !s.privacy && (s.b Regs.MIC_BIAS (8 + n) && (s.awake || s.inEmber) || (s.inEmber && s.f Regs.WAKE_CTRL 5 1 == n))

/-- Bias supply `n` carries more than 5 mA (R447). -/
def State.biasOc (s : State) (n : Nat) : State :=
  if s.biasOn n ∧ n < 2 then ((s.setB Regs.MIC_BIAS (16 + n) true).event pgMic 2).raiseLocal 0x48 pgMic n else s

/-- The load of bias supply `n` falls below its limit. -/
def State.biasOcEnd (s : State) (n : Nat) : State := s.clearSub 0x48 pgMic n

/-- The debounced MUTE_SW is high (R460, R461, R464). -/
def State.muteAssert (s : State) : State :=
  if s.power.cold ∨ s.privacy then s
  else
    let s := s.discardDetection
    let s := ((s.setB Regs.MIC_PRIV 31 true).incF Regs.MIC_PRIV 0 16).event pgMic 0
    let s := if s.inEmber then s.setB Regs.WAKE_STAT 7 true else s
    s.wakeSource 6

/-- MUTE_SW has been low for 50 ms (R465): each enabled path delivers MUTED zeros until it has settled and fades in at the next boundary; a
listener resumes. The indicator's bits stand until a check passes (R466), its fault ends with the sinking. (Log entry 95: DEDUCED.) -/
def State.muteRelease (s : State) : State :=
  if s.power.cold ∨ s.privacy = false then s
  else
    let s := (s.setB Regs.MIC_PRIV 31 false).event pgMic 0
    let s := s.clearSub 0x49 pgMic 0
    let s := s.setB Regs.WAKE_STAT 7 false
    let l := s.strokeLen
    let s := (List.range 32).foldl (fun s i =>
      if (s.capt i).on then
        let ms := if 8 ≤ i % 16 then max 1 (s.f Regs.WAKE_CTRL 8 4) else 1
        s.setCapt i { s.capt i with quietTo := some ((s.tb + ms * tickMs + l - 1) / l * l), quietMuted := true }
      else s) s
    s.wakeSource 6

/-- The 10 ms check of the mute indicator: sink current in µA and pin voltage in mV (R466). -/
def State.ledCheck (s : State) (ua mv : Nat) : State :=
  if s.privacy then
    let o := decide (ua < 2000)
    let sh := decide (2200 < mv)
    let was := s.faultActive 0x49 pgMic
    let s := (s.setB Regs.MIC_PRIV 30 o).setB Regs.MIC_PRIV 29 sh
    if o || sh then (if was then s else (s.event pgMic 1).raiseLocal 0x49 pgMic 0)
    else s.clearSub 0x49 pgMic 0
  else s

/-! ### The jacks' debounced pins (R476) -/

/-- A jack pin has held a new level over the debounce time; `lin` names LINDET (R476). A change is a wake source too (R84). -/
def State.jackChange (s : State) (lin level : Bool) : State :=
  let i := b2n lin
  let was := s.b Regs.JACK_STAT i
  let s := { s with jack := if lin then { s.jack with linLevel := some level } else { s.jack with hpLevel := some level } }
  let s := s.jackJudge lin
  if s.b Regs.JACK_STAT i = was then s else s.wakeSource (if lin then 8 else 7)

end Sys2Proof.Machine
end

