-- ==== Sys2Proof/Machine/RegRange.lean ====
section
/-!
DEFINITION. The reserved and out-of-range field values of the register tables (R46, R71): what each register refuses whatever state its
block is in. The refusals that depend on a block's state are in `Machine.Bus`.
-/

namespace Sys2Proof.Machine

/-- `lo ≤ v ≤ hi`. -/
def between (lo hi v : Nat) : Bool := decide (lo ≤ v) && decide (v ≤ hi)

/-- The signed 16-bit field at bit `lo` lies from `a` to `b` (R13). -/
def levelIn (v : Word) (lo : Nat) (a b : Int) : Bool :=
  decide (a ≤ sext 16 (bits v lo 16)) && decide (sext 16 (bits v lo 16) ≤ b)

/-- Range of one control byte of TB.CAPCTL: EDGE 0b11 is RANGE. -/
def capByteOk (b : Nat) : Bool := b / 32 % 4 != 3

/-- Range of a SAP format word: W 0b11, a word width over W, and 0 or 1 slots in DSP/TDM format are RANGE (R71, R219); above 16 slots too. -/
def sapFmtOk (v : Word) : Bool :=
  bits v 2 2 != 3 && decide ([16, 20, 24, 32].getD (bits v 4 2) 32 ≤ [16, 24, 32].getD (bits v 2 2) 32) &&
    (bits v 0 2 != 2 || between 2 16 (bits v 16 5))

/-- Range of a stage or external-stage configuration word (R401). -/
def stgCfgOk (v : Word) : Bool := between 8 120 (bits v 24 8) && between 2 32 (bits v 16 6)

/-- A pull of 0b11 is RANGE (R531). -/
def pullOk (v : Word) : Bool := (List.range 16).all fun p => bits v (2 * p) 2 != 3

/-- The field values that are legal in any state of the block: word at byte offset `off` of page `p`. -/
def rangeOk (p off : Nat) (v : Word) : Bool :=
  if off < 0x040 then true
  else match pageKind p with
  | some .pwr => if off = 0x040 then between 1 4 (bits v 0 3) else true
  | some .clk =>
    if off = 0x040 then bits v 0 2 != 3
    else if off = 0x044 then decide (bits v 8 4 ≤ 6) && decide (bits v 4 2 ≤ 1)
    else true
  | some .tb =>
    if off = 0x050 then capByteOk (bits v 0 8) && capByteOk (bits v 8 8) && capByteOk (bits v 16 8) && capByteOk (bits v 24 8)
    else true
  | some .weld =>
    if off = 0x068 then bits v 0 2 != 3 else if off = 0x06C then between 2 20 (bits v 0 5) else true
  | some .sap =>
    if off = 0x040 ∨ off = 0x04C then sapFmtOk v
    else if off = 0x044 ∨ off = 0x050 then decide (bits v 4 4 ≤ 0xC)
    else if off = 0x05C then !(bit v 3 && bit v 1) && !(bit v 2 && bit v 0)
    else true
  | some .asrc =>
    if off = 0x040 then decide (bits v 16 4 ≤ 11) else if off = 0x04C then decide (24 ≤ bits v 0 8) else true
  | some .spdif => if off = 0x040 then !(bit v 4 && bit v 3) else true
  | some .fin =>
    if off = 0x054 then decide (bits v 0 7 ≤ 64) else if off = 0x05C then decide (bits v 0 13 ≤ 4096) else true
  | some .anv => if off = 0x070 then !(bit v 31 && decide (2048 ≤ bits v 0 12)) else true
  | some .bench =>
    if off = 0x040 then bits v 0 2 != 3 else if off = 0x054 then decide (bits v 0 3 ≤ 5) else true
  | some .dbg =>
    if off = 0x058 then decide (bits v 0 7 ≤ 0x53) else true
  | some .stg => if off = 0x040 then stgCfgOk v else true
  | some .xst => if off = 0x040 then stgCfgOk v && decide (4 ≤ bits v 8 8) else true
  | some .trk =>
    if off = 0x040 then bits v 16 2 != 3
    else if off = 0x044 then between 45 260 (bits v 16 9) && between 45 260 (bits v 0 9) && decide (bits v 0 9 ≤ bits v 16 9)
    else if off = 0x048 then bits v 24 8 != 0 && bits v 16 8 != 0
    else if off = 0x04C then decide (bits v 0 9 < bits v 16 9)
    else if off = 0x054 then bits v 0 16 != 0
    else if off = 0x05C then between 50 95 (bits v 8 8) && between 40 250 (bits v 0 8)
    else true
  | some .sns =>
    if off = 0x040 then decide (bits v 16 10 ≤ 992)
    else if 0x044 ≤ off ∧ off ≤ 0x060 then bits v 16 16 != 0 && bits v 0 16 != 0
    else true
  | some .tongs =>
    if off = 0x040 then decide (8 ≤ bits v 8 8)
    else if off = 0x044 then decide (-40 ≤ sext 8 (bits v 0 8)) && decide (sext 8 (bits v 0 8) ≤ 85)
    else if off = 0x048 then levelIn v 16 (-0x8000) 0 && levelIn v 0 (-0x8000) 0
    else if off = 0x060 then decide (500 ≤ bits v 0 16)
    else if off = 0x064 then decide (bits v 0 4 ≤ 8) && between 40 250 (bits v 24 8) && between 1 100 (bits v 16 8)
    else if off = 0x068 then decide (5000 ≤ bits v 16 16 * bits v 0 16)
    else if off = 0x06C then decide (500 ≤ bits v 16 16 * bits v 0 16)
    else if off = 0x070 then
      levelIn v 16 (-0x7FFF) 0 && decide (sext 16 (bits v 0 16) ≤ sext 16 (bits v 16 16))
    else if off = 0x074 then bits v 16 16 != 0 && bits v 0 16 != 0
    else true
  | some .diag =>
    if off = 0x040 then bits v 0 2 != 0
    else if off = 0x048 then between 100 2000 (bits v 16 11) && levelIn v 0 (-0x3C00) (-0x1400)
    else if off = 0x054 then decide (bits v 0 16 < bits v 16 16)
    else true
  | some .mic =>
    if off < 0x060 then bits v 0 3 != 7
    else if off = 0x0C0 then decide (bits v 4 4 ≤ 10) && decide (bits v 0 4 ≤ 10)
    else true
  | some .wake =>
    if off = 0x040 then bits v 8 4 != 0
    else if off = 0x044 then between 0x0100 0x3000 (bits v 16 16) && bits v 8 8 != 0
    else if off = 0x048 then decide (bits v 0 12 ≤ 2500)
    else true
  | some .lin => if off = 0x048 then !(bit v 1 && bit v 0) else true
  | some .hpo => if off = 0x044 then !(bit v 1 && bit v 0) else true
  | some .aux =>
    if off = 0x040 then !(bit v 2 && bit v 1)
    else if off = 0x044 then
      bits v 16 8 != 0 && bits v 12 2 != 3 && decide (bits v 8 3 ≤ 4) && decide (bits v 0 5 ≤ 16)
    else if off = 0x054 then
      [0, 16, 32, 64, 128, 256, 512, 1024, 2048, 4096].contains (bits v 0 13)
    else if off = 0x068 then bits v 16 8 != 0
    else if off = 0x070 then between 45 260 (bits v 16 9)
    else if off = 0x074 then decide (10 ≤ bits v 24 8)
    else true
  | some .twt =>
    if off = 0x040 then decide (bits v 16 8 ≤ 252) && decide (bits v 16 8 % 4 = 0)
    else if off = 0x044 then bits v 8 8 != 0 && bits v 0 8 != 0
    else if off = 0x048 then bits v 16 2 != 3
    else true
  | some .twc =>
    if off = 0x040 then
      bits v 0 2 != 3 && (if p = 0x79 then bits v 24 8 != 0 && bits v 16 8 != 0 else decide (bits v 12 4 ≤ 9))
    else true
  | some .qspi => if off = 0x040 then decide (13 ≤ bits v 8 8) else true
  | some .gpio =>
    if off = 0x048 then pullOk v
    else if off = 0x040 ∨ off = 0x044 then (List.range 8).all fun p => decide (bits v (4 * p) 4 ≤ 4)
    else true
  | some .vhk => if off = 0x04C then decide (bits v 16 10 ≤ 1008) && decide (bits v 0 10 ≤ 1008) else true
  | some .pair =>
    if off = 0x040 then between 3 63 (bits v 0 6) else if off = 0x044 then !(bit v 0 && bit v 1) else true
  | some .test =>
    if off = 0x040 then !(bit v 31 && bit v 30) else if off = 0x044 then levelIn v 16 (-0x3C00) 0 else true
  | _ => true

end Sys2Proof.Machine
end

