-- ==== Sys2Proof/Machine/Chains.lean ====
section
/-!
DEFINITION. Mixer nodes, conditioning chains and finishing chains (chapter 09): gains and temper ramps, the high-pass, biquads, the delay
ring, limiters, clamp and meters. A chain or node computes a whole stroke of 32 samples at once.
-/

namespace Sys2Proof.Machine

/-- Page of INCn. -/
def pgInc (n : Nat) : Nat := 0x30 + n
/-- Page of FINn. -/
def pgFin (n : Nat) : Nat := 0x48 + n
/-- MIX's page. -/
def pgMix : Nat := 0x09

/-! ### Gains (R258) -/

/-- Mute, -0x8000. -/
def gMute : Int := -0x8000

/-- The signed 16-bit field at bit `lo`. -/
def State.level16 (s : State) (k lo : Nat) : Int := sext 16 (s.f k lo 16)

/-- `n` in units of 2^-60 lies within a relative error of 2^-28 of 10^(num / (5,120 den)) (R258), in exact arithmetic.
(Log entry 50: DEDUCED.) -/
def factorOk (num : Int) (den n : Nat) : Bool :=
  let e := 5120 * den
  let up := if num ≥ 0 then 10 ^ num.toNat else 1
  let dn := if num ≥ 0 then 1 else 10 ^ (-num).toNat
  decide (up * (2 ^ 28 - 1) ^ e * 2 ^ (32 * e) < n ^ e * dn) && decide (n ^ e * dn < up * (2 ^ 28 + 1) ^ e * 2 ^ (32 * e))

/-- The greatest `n` with n^e dn ≤ up 2^(60 e), by bisection over `fuel` bits. -/
def rootBelow (e up dn : Nat) : Nat → Nat → Nat
  | 0, n => n
  | fuel + 1, n =>
    let m := n + 2 ^ fuel
    rootBelow e up dn fuel (if m ^ e * dn ≤ up * 2 ^ (60 * e) then m else n)

/-- `n` where it is within the bound of R258 for the gain num / den, else the exact factor, both held by `hold`. -/
def boundFactor (hold : Nat → Nat) (num : Int) (den n : Nat) : Nat :=
  if factorOk num den (hold n) then hold n
  else hold (rootBelow (5120 * den) (if num ≥ 0 then 10 ^ num.toNat else 1) (if num ≥ 0 then 1 else 10 ^ (-num).toNat) 90 0)

/-- The factor of gain num / den in units of 2^-60 (R258): the hardware's, within the bound. (Log entry 50: DEDUCED.) -/
def gainFactor (num : Int) (den : Nat) : Nat := boundFactor id num den (Config.factor num den)

/-- The factor of a gain field: exactly 0 at mute. -/
def fieldFactor (g : Int) : Nat := if g = gMute then 0 else gainFactor g 1

/-- `n` with its 32 leading bits: an unsigned 32-bit mantissa with a power-of-two exponent (R266). -/
def mantissa32 (n : Nat) : Nat := let e := 2 ^ (Nat.log2 n - 31); n / e * e

/-- The factor c of a mixer input's gain, as a node holds it (R266). (Log entry 50: DEDUCED.) -/
def nodeFactor (g : Int) : Nat := if g = gMute then 0 else boundFactor mantissa32 g 1 (Config.factor g 1)

/-- A free value `v` that keeps within a relative 2^-28 of what the specification's formula gives, `n`; else `n`. -/
def within28 (n v : Nat) : Nat := if n * (2 ^ 28 - 1) ≤ v * 2 ^ 28 ∧ v * 2 ^ 28 ≤ n * (2 ^ 28 + 1) then v else n

/-- The amplitude in Q1.31 of a level: exactly 0 at mute, full scale at 0 dBFS (R276, R278); the hardware's within the bound of R258.
(Log entry 50: DEDUCED.) -/
def levelAmp (l : Int) : Nat :=
  if l = gMute then 0 else if l ≥ 0 then 2 ^ 31 else min (2 ^ 31) (within28 (gainFactor l 1 / 2 ^ 29) (Config.amplitude l))

/-! ### Limiter gains (R269, R276) -/

/-- p / q against a / b · 10^(m / 40,960), exactly. -/
def powCmp (p q a b m : Nat) : Ordering :=
  let d := Nat.gcd m 40960
  compare ((p * b) ^ (40960 / d)) ((a * q) ^ (40960 / d) * 10 ^ (m / d))

/-- p / q ≤ a / b · 10^(m / 40,960). -/
def powLe (p q a b m : Nat) : Bool := powCmp p q a b m != .gt

/-- The greatest `n` of `fuel` bits above `lo` that is at most a / b · 10^(m / 40,960). -/
def powFloor (a b m : Nat) : Nat → Nat → Nat
  | 0, lo => lo
  | fuel + 1, lo => powFloor a b m fuel (if powLe (lo + 2 ^ fuel) 1 a b m then lo + 2 ^ fuel else lo)

/-- a / b · 10^(m / 40,960), below 2^40, rounded convergently. -/
def powRound (a b m : Nat) : Nat :=
  let f := powFloor a b m 40 0
  match powCmp (2 * f + 1) 2 a b m with
  | .gt => f
  | .lt => f + 1
  | .eq => f + f % 2

/-- The least `n` of `fuel` bits above `lo` with 1 ≤ a / b · 10^(m / 40,960 + n / 5,120). -/
def lossFrom (a b m : Nat) : Nat → Nat → Nat
  | 0, lo => lo
  | fuel + 1, lo => lossFrom a b m fuel (if powLe 1 1 a b (m + 8 * (lo + 2 ^ fuel - 1)) then lo else lo + 2 ^ fuel)

/-- By how much a / b · 10^(m / 40,960) lies below 1, in 1/256 dB, rounded up; at most 2^16. -/
def lossDb (a b m : Nat) : Nat := lossFrom a b m 16 0

/-- By how much a gain may rise in one sample, in 1/40,960 of a decade: REL 1/64, 1/16, 1/4 or 1 dB per stroke (R269, R276). -/
def riseOf (rel : Nat) : Nat := 4 ^ rel

/-- The gain after `g`: the smaller of e.1 / e.2, which is at most 1, and `g` risen by `r` (R269, R276). -/
def LimGain.next (g : LimGain) (e : Nat × Nat) (r : Nat) : LimGain :=
  let h := { g with rise := g.rise + r }
  if powLe e.1 e.2 h.num h.den h.rise then (if e.2 ≤ e.1 then {} else { num := e.1, den := e.2 }) else h

/-- The smaller of two gains. -/
def LimGain.least (g h : LimGain) : LimGain :=
  let le := if g.rise ≤ h.rise then powCmp g.num g.den h.num h.den (h.rise - g.rise) != .gt
    else powCmp h.num h.den g.num g.den (g.rise - h.rise) != .lt
  if le then g else h

/-- `x` times the gain, rounded convergently. -/
def LimGain.mul (g : LimGain) (x : Int) : Int :=
  if g = {} then x
  else
    let n := powRound (x.natAbs * g.num) g.den g.rise
    if x < 0 then -(n : Int) else n

/-! ### The high-pass (R263, R264) -/

/-- One section: previous input and state, and a sample, to the new state and the output. -/
def hpSection (sh : Nat) (x1 y1 x : Int) : Int × Int :=
  let y := (x - x1) + y1 - y1 / (2 ^ sh : Nat)
  (y, satS 32 y)

/-- The sections that CORNER and ORDER leave out are held at zero (R264). -/
def Filt.holdHigh (f : Filt) (corner : Nat) (second : Bool) : Filt :=
  if corner = 0 then { f with hx1 := 0, hy1 := 0, hx2 := 0, hy2 := 0 }
  else if second then f else { f with hx2 := 0, hy2 := 0 }

/-- The high-pass of a chain channel: CORNER, ORDER and the hearth rate. -/
def highPass (corner : Nat) (second fast : Bool) (f : Filt) (x : Int) : Filt × Int :=
  if corner = 0 then (f, x)
  else
    let sh := corner + 4 + b2n fast
    let a := hpSection sh f.hx1 f.hy1 x
    if second then
      let b := hpSection sh f.hx2 f.hy2 a.2
      ({ f with hx1 := x, hy1 := a.1, hx2 := a.2, hy2 := b.1 }, b.2)
    else ({ f with hx1 := x, hy1 := a.1 }, a.2)

/-! ### Biquads (R272) -/

/-- Biquad `j` with coefficients `c` on input `x` (Q5.31). -/
def biquad (c : List Int) (j : Nat) (f : Filt) (x : Int) : Filt × Int :=
  let st := f.bq.get (0, 0, 0, 0) j
  let acc := c.getD 0 0 * x + c.getD 1 0 * st.1 + c.getD 2 0 * st.2.1 - c.getD 3 0 * st.2.2.1 - c.getD 4 0 * st.2.2.2
  let y := satS 36 (roundConv acc 30)
  ({ f with bq := f.bq.set (0, 0, 0, 0) j (x, st.1, y, st.2.2.1) }, y)

/-- The biquads whose bit of `sel` is 0 hold zero states (R272). -/
def Filt.holdEq (f : Filt) (sel : Word) : Filt := { f with bq := f.bq.filter fun x => bit sel x.1 }

/-- The cascade: enabled biquads in order; a disabled one passes its input (R272). -/
def biquads (coefs : List (Bool × List Int)) (f : Filt) (x : Int) : Filt × Int :=
  (List.range coefs.length).foldl (fun (a : Filt × Int) j =>
    let c := coefs.getD j (false, [])
    if c.1 then biquad c.2 j a.1 a.2 else a) (f, x)

/-! ### Meters (R280, R281) -/

/-- |x| as the meters take it: either end of Q1.31 counts as 1.0. -/
def meterAbs (x : Int) : Nat := if x = 2 ^ 31 - 1 then 2 ^ 31 else x.natAbs

/-- A level within the fields' range: below -128 dBFS reads mute. (Log entry 69: DEDUCED.) -/
def clipLevel (l : Int) : Int := if l < gMute then gMute else if l > 0 then 0 else l

/-- The peak reading of a stroke (R280): silence and all that lies below -128 dBFS (855 in Q1.31) read -0x8000, full scale 0;
the hardware's is accurate to 0.02 dB. -/
def peakReading (l : List Int) : Int :=
  let p := l.foldl (fun a x => max a (meterAbs x)) 0
  if p < 855 then gMute
  else if p = 2 ^ 31 then 0
  else
    let l := -(lossDb p (2 ^ 31) 0 : Int)
    let v := Config.peakLevel p
    clipLevel (if l - 5 ≤ v ∧ v ≤ l + 5 then v else l)

/-- The held peak after a reading `l` (R281): H, hold counter, MTR_CFG. -/
def heldPeak (cfg : Word) (h : Int) (cnt : Nat) (l : Int) : Int × Nat :=
  if l ≥ h then (l, bits cfg 16 16)
  else if 0 < cnt then (h, cnt - 1)
  else (max l (h - bits cfg 0 16), 0)

/-- A chain's meter at a boundary: METER of page `p` from the strokes of its channels (zeros where it computed none). -/
def State.meter (s : State) (p : Nat) (x : Chain) (nch : Nat) : Chain × State :=
  let strokes := match x.out with
    | some l => (List.range nch).map fun c => (l.getD c []).map fun (w : Word) => sext 32 w.toNat
    | none => (List.range nch).map fun _ => List.replicate 32 0
  let tc := s.f (Regs.at_ p 0x050) 0 2
  let l := strokes.foldl (fun a st => max a (peakReading st)) gMute
  let h := heldPeak (s.w (Regs.at_ p 0x04C)) (s.level16 (Regs.at_ p 0x048) 16) x.hold l
  let filt := (List.range x.filt.length).map fun c =>
    let f := x.filt.getD c {}
    if c < nch then { f with rms := Config.rmsStep tc f.rms (strokes.getD c []) } else f
  let r := ((filt.take nch).map fun f => if f.rms = 0 then gMute else clipLevel (Config.rmsLevel f.rms)).foldl max gMute
  ({ x with filt := filt, hold := h.2, out := none },
    s.setW (Regs.at_ p 0x048) (Word.of (unsign 16 h.1 * 65536 + unsign 16 r)))

/-! ### Input and output of a stroke (R256, R265, R656) -/

/-- Items of queue `q` taken until `fifo` holds 32 samples, or none is left. -/
def State.gather : Nat → State → Nat → List Word → List Word × State
  | 0, s, _, fifo => (fifo, s)
  | n + 1, s, q, fifo =>
    if 32 ≤ fifo.length then (fifo, s)
    else match s.consume q with
      | (none, s) => (fifo, s)
      | (some b, s) => State.gather n s q (fifo ++ b.samples.take b.tag.count)

/-- Samples that queue `q` offers its consumer. -/
def State.offered (s : State) (q : Nat) : Nat := (s.queue q).ready.foldl (fun a i => a + (s.itemBillet i).tag.count) 0

/-- A stroke of 32 samples of the current stroke is put on the queue that the patch table names for source `u`, two billets unpacked or
one packed; samples that find no credit are lost to that queue. (Log entry 50: DEDUCED.) -/
def State.putStroke (s : State) (u : Nat) (l : List Word) : State :=
  match s.route u false with
  | (none, s) => s
  | (some q, s) =>
    let k := s.boundaryTick s.strokeNo
    if (s.queue q).packed then
      (s.produce q { stamp := k % 2 ^ 32, count := 32, offset := 0 } (packSamples true l)).2
    else
      let s := (s.produce q { stamp := k % 2 ^ 32, count := 16, offset := 0 } (l.take 16)).2
      (s.produce q { stamp := (k + 16 * s.sampleTicks) % 2 ^ 32, count := 16, offset := 16 } (l.drop 16)).2

/-! ### Conditioning chains (R270) -/

/-- The record of INCn. -/
def State.inc (s : State) (n : Nat) : Chain := s.incs.get {} n

/-- `s` with the record of INCn replaced. -/
def State.setInc (s : State) (n : Nat) (x : Chain) : State := { s with incs := s.incs.set {} n x }

/-- INCn computes the current stroke once its input holds all 32 samples (R270, R656). -/
def State.incStroke (s : State) (n : Nat) : State :=
  let x := s.inc n
  if !s.forging || !s.en (pgInc n) || decide (s.strokeNo < x.next) then s
  else match s.route (unitId (pgInc n) 0) true with
    | (none, s) => s
    | (some q, s) =>
      let f0 := x.filt.getD 0 {}
      if f0.fifo.length + s.offered q < 32 then s
      else
        let r := s.gather 34 q f0.fifo
        let s := r.2
        let hpf := s.w (Regs.INC_HPF n)
        let g := fieldFactor (s.level16 (Regs.INC_GAIN n) 0)
        let run := (r.1.take 32).foldl (fun (a : Filt × List Word) w =>
          let h := highPass (bits hpf 0 4) (bit hpf 4) (s.b Regs.CLK_HEARTH 0) a.1 (sext 32 w.toNat)
          (h.1, a.2 ++ [Word.of (unsign 32 (satS 32 (roundConv (h.2 * g) 60)))])) ({ f0 with fifo := r.1.drop 32 }, [])
        let s := s.setInc n { x with filt := [run.1], next := s.strokeNo + 1, out := some [run.2] }
        s.putStroke (unitId (pgInc n) 0) run.2

/-! ### Mixer nodes (R265 to R269) -/

/-- Key of word `off` of node `n`. -/
def nodeKey (n off : Nat) : Nat := 0x10000 + n * 256 + off / 4

/-- The record of mixer input port `p`. -/
def State.port (s : State) (p : Nat) : MixPort := s.ports.get {} p

/-- The record of node `n`. -/
def State.node (s : State) (n : Nat) : MixNode := s.nodes.get {} n

/-- `s` with the record of node `n` replaced. -/
def State.setNode (s : State) (n : Nat) (x : MixNode) : State := { s with nodes := s.nodes.set {} n x }

/-- The configured inputs of node `n`. -/
def State.nodeInputs (s : State) (n : Nat) : List Nat := (List.range 64).filter fun i => s.b (nodeKey n (0x100 + 4 * i)) 31

/-- Port `p` loads its stroke: silence where no valid entry names it, else 32 samples once they are there (R257, R265). -/
def State.loadPort (s : State) (p : Nat) : Bool × State :=
  let x := s.port p
  match x.cur with
  | some _ => (true, s)
  | none =>
    match s.route (unitId pgMix p) true with
    | (none, s) => (true, { s with ports := s.ports.set {} p { x with cur := some (List.replicate 32 0) } })
    | (some q, s) =>
      if x.fifo.length + s.offered q < 32 then (false, s)
      else
        let r := s.gather 34 q x.fifo
        (true, { r.2 with ports := r.2.ports.set {} p { fifo := r.1.drop 32, cur := some (r.1.take 32) } })

/-- The ports of a list load; `true` when every one holds the stroke. -/
def State.loadPorts (s : State) (l : List Nat) : Bool × State :=
  l.foldl (fun (a : Bool × State) p => let r := a.2.loadPort p; (a.1 && r.1, r.2)) (true, s)

/-- Smallest k with m ≤ 2^k. -/
def ceilLog2 (m : Nat) : Nat := ((List.range 8).find? fun k => decide (m ≤ 2 ^ k)).getD 7

/-- C, M and auto-scale of node `n`'s configuration (R267). -/
def State.nodeCounts (s : State) (n : Nat) : Nat × Nat × Bool :=
  let l := s.nodeInputs n
  let c := l.length
  let m := (l.filter fun i => s.level16 (nodeKey n (0x100 + 4 * i)) 0 != gMute).length
  let mode := s.f (nodeKey n 0x044) 0 2
  (c, m, mode == 2 || (mode == 0 && decide (8 < c)))

/-- Node `n` is active: its EN and the MIX page's (R265). -/
def State.nodeOn (s : State) (n : Nat) : Bool := s.b (nodeKey n 0x044) 8 && s.en pgMix

/-- Every node latches C, M, the mode and its scale at a boundary (R267, R268). -/
def State.nodesBoundary (s : State) : State :=
  (List.range 32).foldl (fun s n =>
    let c := s.nodeCounts n
    let k := if c.2.2 then ceilLog2 c.2.1 else 0
    let on := s.nodeOn n
    let x := s.node n
    let s := s.setNode n { x with active := on, kOld := if x.active && on then x.kNew else k, kNew := k, auto := c.2.2, g := if x.active && on then x.g else {} }
    s.setW (nodeKey n 0x048) (Word.of (b2n c.2.2 * 2 ^ 24 + k * 2 ^ 16 + c.2.1 * 256 + c.1))) s

/-- The ports' strokes end at a boundary. -/
def State.portsBoundary (s : State) : State :=
  { s with ports := (s.ports.map fun p => (p.1, { p.2 with cur := none })).filter fun p => p.2 != {} }

/-- The node limiter on one scaled sample (R269): its gain and the sample that leaves. (Log entry 50: DEDUCED.) -/
def nodeLimit (g : LimGain) (y : Int) : LimGain × Word :=
  let top := 2 ^ 31 - 1
  let h := g.next (if y.natAbs ≤ top then (1, 1) else (top, y.natAbs)) (riseOf 3)
  (h, Word.of (unsign 32 (satS 32 (h.mul y))))

/-- Sample `i` of a node's stroke: the sum of its inputs' products, held in 46 bits in auto-scale mode and in 40 in headroom mode, and
scaled (R266 to R268). -/
def nodeSum (x : MixNode) (ins : List (List Word × Nat)) (i : Nat) : Int :=
  let sum := ins.foldl (fun a p => a + roundConv (sext 32 (p.1.getD i 0).toNat * p.2) 60) 0
  let held := if x.auto then satS 46 sum else satS 40 sum
  let sc := 2 ^ (6 - x.kOld) * (31 - i) + 2 ^ (6 - x.kNew) * (i + 1)
  if x.auto ∨ x.kOld ≠ 0 ∨ x.kNew ≠ 0 then satS 40 (roundConv (held * (sc : Nat)) 11) else held

/-- A node whose EN is 1 computes its stroke once every port it reads holds it (R265); its scale is that of the last boundary (R268). -/
def State.nodeStroke (s : State) (n : Nat) : State :=
  let x := s.node n
  if !s.forging || !s.nodeOn n || decide (s.strokeNo < x.next) then s
  else
    let l := s.nodeInputs n
    let r := s.loadPorts ((l.map fun i => s.f (nodeKey n (0x100 + 4 * i)) 24 6).eraseDups)
    if r.1 then
      let s := r.2
      let ins := l.map fun i =>
        (((s.port (s.f (nodeKey n (0x100 + 4 * i)) 24 6)).cur).getD [], nodeFactor (s.level16 (nodeKey n (0x100 + 4 * i)) 0))
      let run := (List.range 32).foldl (fun (a : LimGain × List Word × Nat) i =>
        let y := nodeLimit a.1 (nodeSum x ins i)
        (y.1, a.2.1 ++ [y.2], a.2.2 + (if y.1 = {} then 0 else 1))) (x.g, [], 0)
      let s := s.setNode n { x with active := true, g := run.1, next := s.strokeNo + 1 }
      let s := if run.2.2 = 0 then s else (s.addF (nodeKey n 0x04C) 0 32 run.2.2).event pgMix 0
      s.putStroke (unitId pgMix (0x80 + n)) run.2.1
    else r.2

/-! ### Finishing chains: gain ramps (R259 to R261) -/

/-- The record of FINn. -/
def State.fin (s : State) (n : Nat) : Chain := s.fins.get {} n

/-- `s` with the record of FINn replaced. -/
def State.setFin (s : State) (n : Nat) (x : Chain) : State := { s with fins := s.fins.set {} n x }

/-- Channels of FINn (R275). -/
def finChans (n : Nat) : Nat := if n = 16 then 2 else 1

/-- The gain stands at `g` with no ramp. -/
def Chain.gainAt (x : Chain) (g : Int) : Chain := { x with num := g, den := 1, target := g, steps := 0, step := 0 }

/-- A change of GAIN to `g` at a boundary, with RAMP = r (R260, R261). -/
def Chain.startRamp (x : Chain) (g : Int) (r : Nat) : Chain :=
  if r = 0 then x.gainAt g
  else { x with from_ := (x.num, x.den), target := g, steps := 32 * r, step := 0 }

/-- The next step of a running ramp: equal steps in the dB domain (R260). -/
def Chain.rampStep (x : Chain) : Chain :=
  if x.step < x.steps then
    let m := x.step + 1
    let num := x.from_.1 * x.steps + (x.target * x.from_.2 - x.from_.1) * m
    let den := x.from_.2 * x.steps
    let d := Nat.gcd num.natAbs den
    { x with step := m, num := num / (max 1 d : Nat), den := den / max 1 d }
  else x

/-- The factor in force: exactly 0 once a ramp to mute has ended (R258, R260). -/
def Chain.factor (x : Chain) : Nat :=
  if x.target = gMute ∧ x.steps ≤ x.step then 0 else gainFactor x.num x.den

/-! ### Finishing chains: the delay ring (R273 to R275) -/

/-- The samples of one channel that the ring can hold. -/
def State.ringCap (s : State) (n q : Nat) : Nat :=
  let x := s.queue q
  x.depth * (if x.packed then 32 else 16) / finChans n

/-- The ring is FINn's own (R273, R275): a RING queue with the chain at both ends, packed for FIN16. -/
def State.ringOk (s : State) (n q : Nat) : Bool :=
  let x := s.queue q
  let u := unitId (pgFin n) 0
  x.on && x.isRing && x.producer == u && x.consumer == u && (n != 16 || x.packed)

/-- The ring holds at least `d` samples of each channel, as DELAY not 0 needs (R273). -/
def State.delayOk (s : State) (n d : Nat) : Bool :=
  let q := s.f (Regs.FIN_DLYQ n) 0 10
  d == 0 || (s.ringOk n q && decide (d ≤ s.ringCap n q))

/-- The sample at ring position `p` of channel `c`. -/
def State.ringRead (s : State) (n q p c : Nat) : Word :=
  let x := s.queue q
  let i := p * finChans n + c
  if x.packed then
    match s.ringBillet q (i / 32) with
    | none => 0
    | some b => Word.of (bits ((s.billet b).data.getD (i % 32 / 2) 0) (16 * (i % 2)) 16 * 65536)
  else
    match s.ringBillet q (i / 16) with
    | none => 0
    | some b => (s.billet b).data.getD (i % 16) 0

/-- A write of the ring position `p` of channel `c`; a packed ring rounds convergently to 16 bits and saturates (R275). A position without
a billet drops the write. -/
def State.ringWrite (s : State) (n q p c : Nat) (v : Word) : State :=
  let x := s.queue q
  let i := p * finChans n + c
  if x.packed then
    match s.ringBillet q (i / 32) with
    | none => s
    | some b =>
      let bl := s.billet b
      let d := (List.range 16).map fun j => bl.data.getD j 0
      let j := i % 32 / 2
      let h := unsign 16 (satS 16 (roundConv (sext 32 v.toNat) 16))
      s.setBillet b { bl with data := d.set j (putBits (d.getD j 0) (16 * (i % 2)) 16 h) }
  else
    match s.ringBillet q (i / 16) with
    | none => s
    | some b =>
      let bl := s.billet b
      s.setBillet b { bl with data := ((List.range 16).map fun j => bl.data.getD j 0).set (i % 16) v }

/-- A ring enabled, enlarged or lowered since the chain last used it begins anew (R273). (Log entry 50: DEDUCED.) -/
def State.ringSync (s : State) (n : Nat) (x : Chain) : Chain :=
  let q := s.queue (s.f (Regs.FIN_DLYQ n) 0 10)
  let sig := (q.depth, q.gen)
  if x.sig = sig then x else { x with sig := sig, written := 0, pos := 0 }

/-! ### Finishing chains: limiter, clamp and a stroke (R271 to R279) -/

/-- N of the look-ahead (R276). -/
def State.lookAhead (s : State) : Nat := if s.b Regs.CLK_HEARTH 0 then 96 else 48

/-- The smaller of two fractions. -/
def leastFrac (a b : Nat × Nat) : Nat × Nat := if a.1 * b.2 ≤ b.1 * a.2 then a else b

/-- e[n] of R276 over the look-ahead, the sample that leaves first: the least r + (1 - r) k / N, where r = T_eff / |x| for each sample above
the T_eff at which it entered. -/
def limiterEnv (n : Nat) (win : List (Int × Nat)) : Nat × Nat :=
  (List.range win.length).foldl (fun a k =>
    let x := win.getD k (0, 0)
    if x.1.natAbs ≤ x.2 then a else leastFrac a (x.2 * (n - k) + x.1.natAbs * k, x.1.natAbs * n)) (1, 1)

/-- The limiter on one sample entering the look-ahead with T_eff `teff` (R276): the sample that leaves and its gain.
(Log entry 50: DEDUCED.) -/
def limiter (n teff rel : Nat) (f : Filt) (x : Int) : Filt × Int × LimGain :=
  let look := f.look ++ [(x, teff)]
  if look.length ≤ n then ({ f with look := look }, 0, {})
  else
    let g := f.g.next (limiterEnv n (look.take n)) (riseOf rel)
    ({ f with look := look.tail, g := g }, satS 32 (g.mul (look.headD (0, 0)).1), g)

/-- The clamp (R271, step 7; R278): the limited sample, and whether it was limited. -/
def clamp (a : Nat) (x : Int) : Int × Bool :=
  if a < x.natAbs then ((if x < 0 then -(a : Int) else a), true) else (x, false)

/-- LIM_GR of a limiter gain: its reduction in 1/256 dB, which the hardware rounds up or down. -/
def reductionDb (g : LimGain) : Nat :=
  let l := if g.num = 0 then 0xFFFF else lossDb g.num g.den g.rise
  let v := Config.reduction g.num g.den g.rise
  satU 0xFFFF (if v + 1 = l then v else l)

/-- Coefficients of FINn's enabled biquads. -/
def State.finCoefs (s : State) (n : Nat) : List (Bool × List Int) :=
  (List.range 20).map fun j =>
    (s.b (Regs.FIN_EQ_SEL n) j, (List.range 5).map fun c => sext 32 (s.w (Regs.FIN_BQ n j c)).toNat)

/-- The look-ahead H of FINn with the given DELAY and limiter threshold, in hearth samples (R396). -/
def State.chainLook (s : State) (d : Nat) (thr : Int) : Nat := d + (if thr = gMute then 0 else s.lookAhead)

/-- Sample `i` of the current stroke enters step 4 of FINn with magnitude `m`: a tracked channel's sample becomes known to the tracker with
its play tick (R397). -/
def State.trkSee (s : State) (n i m : Nat) : State :=
  if decide (n < 16) && s.b Regs.TRK_CTRL n then
    let h := s.chainLook (s.f (Regs.FIN_DELAY n) 0 13) (s.level16 (Regs.FIN_LIM n) 0)
    let p := s.boundaryTick (s.strokeNo + 1) + (i + h) * s.sampleTicks
    { s with trk := { s.trk with known := (s.trk.known.filter fun x => decide (s.tb ≤ x.play)) ++ [{ chan := n, play := p, mag := m }] } }
  else s

/-- Sample `i` of one channel of FINn through steps 1 to 7 of R271, its delayed sample read before the ring takes the new one; CLIP and CLAMP counts are summed in the last component. -/
def State.finSample (s : State) (n c i : Nat) (coefs : List (Bool × List Int)) (fac : Nat) (x : Chain) (w : Word) :
    State × Chain × Word × Nat × Nat :=
  let f := x.filt.getD c {}
  let hpf := s.w (Regs.FIN_HPF n)
  let h := highPass (bits hpf 0 4) (bit hpf 4) (s.b Regs.CLK_HEARTH 0) f (sext 32 w.toNat)
  let y := biquads coefs h.1 h.2
  let z := satS 32 y.2
  let clip := b2n (z != y.2)
  let s := s.trkSee n i z.natAbs
  let q := s.f (Regs.FIN_DLYQ n) 0 10
  let d := s.f (Regs.FIN_DELAY n) 0 13
  let zw := Word.of (unsign 32 z)
  let cap := s.ringCap n q
  let use := s.ringOk n q && decide (0 < cap) && (n != 16 || d != 0)
  let del := if d = 0 then zw
    else if use && decide (d ≤ cap) && decide (d ≤ x.written) && decide (d ≤ x.pos) then s.ringRead n q ((x.pos - d) % cap) c
    else 0
  let s := if use then s.ringWrite n q (x.pos % cap) c zw else s
  let gained := satS 40 (roundConv (sext 32 del.toNat * fac) 60)
  let a := levelAmp (s.level16 (Regs.FIN_ALLOW n) 16)
  let thr := s.level16 (Regs.FIN_LIM n) 0
  let lim :=
    if thr = gMute then (y.1, satS 32 gained, {})
    else limiter s.lookAhead (min (levelAmp thr) a) (s.f (Regs.FIN_LIM n) 16 2) y.1 gained
  let cl := clamp a lim.2.1
  (s, { x with filt := x.filt.set c lim.1, gmin := x.gmin.least lim.2.2 }, Word.of (unsign 32 cl.1), clip, b2n cl.2)

/-- Sample `i` of a stroke on every channel of FINn: one ramp step, then each channel; the ring moves on. -/
def State.finStep (s : State) (n i : Nat) (coefs : List (Bool × List Int)) (ins : List (List Word)) (x : Chain) :
    State × Chain × List Word × Nat × Nat :=
  let x := x.rampStep
  let fac := x.factor
  let r := (List.range (finChans n)).foldl (fun (a : State × Chain × List Word × Nat × Nat) c =>
    let y := a.1.finSample n c i coefs fac a.2.1 ((ins.getD c []).getD i 0)
    (y.1, y.2.1, a.2.2.1 ++ [y.2.2.1], a.2.2.2.1 + y.2.2.2.1, a.2.2.2.2 + y.2.2.2.2)) (s, x, [], 0, 0)
  (r.1, { r.2.1 with pos := r.2.1.pos + 1, written := r.2.1.written + 1 }, r.2.2.1, r.2.2.2.1, r.2.2.2.2)

/-- A stroke of FINn on the given inputs. -/
def State.finRun (s : State) (n : Nat) (ins : List (List Word)) (x : Chain) : State × Chain × List (List Word) × Nat × Nat :=
  let coefs := s.finCoefs n
  (List.range 32).foldl (fun (a : State × Chain × List (List Word) × Nat × Nat) i =>
    let y := a.1.finStep n i coefs ins a.2.1
    (y.1, y.2.1, (List.range (finChans n)).map fun c => a.2.2.1.getD c [] ++ [y.2.2.1.getD c 0], a.2.2.2.1 + y.2.2.2.1,
      a.2.2.2.2 + y.2.2.2.2)) (s, x, (List.range (finChans n)).map fun _ => [], 0, 0)

/-- FINn's inputs hold all 32 samples of the stroke (R656). (Log entry 49: DEDUCED.) -/
def State.finReady (s : State) (n : Nat) : Bool × State :=
  let x := s.fin n
  (List.range (finChans n)).foldl (fun (a : Bool × State) c =>
    match a.2.route (unitId (pgFin n) c) true with
    | (none, s) => (false, s)
    | (some q, s) => (a.1 && decide (32 ≤ ((x.filt.getD c {}).fifo.length + s.offered q)), s)) (true, s)

/-- FINn takes its inputs' strokes. -/
def State.finTake (s : State) (n : Nat) : State × Chain × List (List Word) :=
  (List.range (finChans n)).foldl (fun (a : State × Chain × List (List Word)) c =>
    match a.1.peekRoute (unitId (pgFin n) c) true with
    | none => a
    | some q =>
      let f := a.2.1.filt.getD c {}
      let r := a.1.gather 34 q f.fifo
      (r.2, { a.2.1 with filt := a.2.1.filt.set c { f with fifo := r.1.drop 32 } }, a.2.2 ++ [r.1.take 32])) (s, s.fin n, [])

/-- Queue `q` feeds a TX side locked to the hearth clock, which the stroke weld feeds (R30, R213). -/
def State.weldFed (s : State) (q : Nat) : Bool :=
  let p := (s.queue q).consumer / 256
  decide (0x10 ≤ p) && decide (p < 0x16) && s.sapLockedCond (p - 0x10) false

/-- The stroke `l` of the chain output that is source `u` for the queue the patch table names: at once, or as billets staged for the stroke
weld where a locked TX side takes it (R144, R175). -/
def State.copyStroke (s : State) (u : Nat) (l : List Word) : State :=
  match s.peekRoute u false with
  | none => s.putStroke u l
  | some q =>
    if s.weldFed q then
      let s := (s.route u false).2
      let k := s.boundaryTick s.strokeNo
      let st := fun (s : State) (t : Tag) (d : List Word) =>
        match s.grant q .staged with
        | (none, s) => s
        | (some b, s) => s.setBillet b { tag := { t with packed := (s.queue q).packed, domain := (s.queue q).domain }, data := d }
      if (s.queue q).packed then st s { stamp := k % 2 ^ 32, count := 32, offset := 0 } (packSamples true l)
      else
        let s := st s { stamp := k % 2 ^ 32, count := 16, offset := 0 } (l.take 16)
        st s { stamp := (k + 16 * s.sampleTicks) % 2 ^ 32, count := 16, offset := 16 } (l.drop 16)
    else s.putStroke u l

/-- The two billets of output `o`'s stroke `l` are drawn from FREE, at location `loc` (R144, R176). Where FREE is empty the refusal counts
in SHORT (R140), and the stroke goes on without the billet. (Log entry 51: DEDUCED.) -/
def State.drawOutput (s : State) (o : Nat) (loc : Loc) (tick flags : Nat) (l : List Word) : State :=
  [0, 1].foldl (fun s h =>
    match s.freeFor {} with
    | none => (s.incF Regs.STOCK_EVT 0 16).event 0x06 2
    | some b =>
      (s.setOwn b { queue := noQueue + 2 * o + h, loc := loc }).setBillet b
        { tag := { stamp := (tick + 16 * h * s.sampleTicks) % 2 ^ 32, count := 16, offset := 16 * h, flags := flags }
          data := (l.drop (16 * h)).take 16 }) s

/-- The clamp level A of FINn: the lowest of ALLOW.LEVEL and the ceilings in force (R278). -/
def State.effLevel (s : State) (n : Nat) : Int :=
  let l := s.level16 (Regs.FIN_ALLOW n) 0
  let l := if s.power.braceAtBoundary then min l (s.level16 Regs.TONGS_CEIL 16) else l
  if s.b (Regs.AUX_STAT 0) 12 then min l (s.level16 Regs.TONGS_CEIL 0) else l

/-- FINn's clamp takes its level, which ALLOW.EFF shows (R278). -/
def State.clampLevel (s : State) (n : Nat) : State := s.setF (Regs.FIN_ALLOW n) 16 16 (unsign 16 (s.effLevel n))

/-- An enabled finishing chain computes the current stroke once its input is complete (R271, R656): its output is staged for the stroke
weld, and a copy goes to the queue of a patch entry that names it as SRC (R279). (Log entry 49: DEDUCED.) -/
def State.finStroke (s : State) (n : Nat) : State :=
  if !s.forging || !s.en (pgFin n) || decide (s.strokeNo < (s.fin n).next) then s
  else
    let r := s.finReady n
    if r.1 then
      let t := r.2.finTake n
      let s := t.1
      let x := s.ringSync n t.2.1
      let s := if x.refit then s.clampLevel n else s
      let y := s.finRun n t.2.2 { x with gmin := {}, refit := false }
      let s := y.1.setFin n { y.2.1 with next := y.1.strokeNo + 1, out := some y.2.2.1 }
      let s := if y.2.2.2.1 = 0 then s else (s.addF (Regs.FIN_CNT n) 16 16 y.2.2.2.1).event (pgFin n) 0
      let s := if y.2.2.2.2 = 0 then s else (s.addF (Regs.FIN_CNT n) 0 16 y.2.2.2.2).event (pgFin n) 1
      let gm := y.2.1.gmin
      let s := s.setF (Regs.FIN_LIM_GR n) 0 16 (if gm = {} then 0 else reductionDb gm)
      (List.range (finChans n)).foldl (fun s c =>
        let l := y.2.2.1.getD c []
        let s := s.drawOutput (n + c) .staged (s.boundaryTick s.strokeNo) 0 l
        ({ s with outs := s.outs.put (n + c) l }).copyStroke (unitId (pgFin n) c) l) s
    else r.2

/-- EN goes from 0 to 1 on a finishing chain: it starts as after reset, its gain standing at GAIN (R656). -/
def State.finEnable (s : State) (n : Nat) : State :=
  s.setFin n { ({} : Chain).gainAt (s.level16 (Regs.FIN_GAIN n) 0) with refit := (s.fin n).refit }

/-- A direct write of GAIN with RAMP = 0 steps the gain from the next sample; with a ramp it waits for the boundary (R259). -/
def State.finGainWritten (s : State) (n : Nat) : State :=
  if s.f (Regs.FIN_CTRL n) 0 7 = 0 then s.setFin n ((s.fin n).gainAt (s.level16 (Regs.FIN_GAIN n) 0)) else s

/-- A write of the HPF word `v` (R264). -/
def Chain.hpfWritten (x : Chain) (v : Word) : Chain := { x with filt := x.filt.map fun f => f.holdHigh (bits v 0 4) (bit v 4) }

/-- A write of EQ_SEL (R272). -/
def Chain.eqWritten (x : Chain) (v : Word) : Chain := { x with filt := x.filt.map fun f => f.holdEq v }

/-- A finishing chain's gain at a boundary: a changed GAIN starts its ramp, or steps (R259 to R261). -/
def State.finGainBoundary (s : State) (n : Nat) : State :=
  let x := s.fin n
  let g := s.level16 (Regs.FIN_GAIN n) 0
  if s.en (pgFin n) ∧ x.target ≠ g then s.setFin n (x.startRamp g (s.f (Regs.FIN_CTRL n) 0 7)) else s

/-- Meters of every chain at a boundary (R280). -/
def State.metersBoundary (s : State) : State :=
  let s := (List.range 24).foldl (fun s n =>
    if s.en (pgInc n) then let r := s.meter (pgInc n) (s.inc n) 1; r.2.setInc n r.1 else s) s
  (List.range 17).foldl (fun s n =>
    if s.en (pgFin n) then let r := s.meter (pgFin n) (s.fin n) (finChans n); r.2.setFin n r.1 else s) s

/-- MTR_CTL.CLR on page `p` sets the held peak to -0x8000 (R281). -/
def State.meterClear (s : State) (p : Nat) : State := s.setF (Regs.at_ p 0x048) 16 16 0x8000

end Sys2Proof.Machine
end

