-- ==== Sys2Proof/Machine/Track.lean ====
section
/-!
DEFINITION. The supply tracker and the PVDD warning monitor (chapter 13, R392 to R401). A voltage stands in units of 1/(960 · 2^31) V, in
which every configured voltage, every rate per hearth sample and every sample in Q1.31 is a whole number.
-/

namespace Sys2Proof.Machine

/-- TRK's page. -/
def pgTrk : Nat := 0x71

/-- A voltage given in tenths of a volt. -/
def tenthVolt (v : Nat) : Nat := v * 96 * 2 ^ 31

/-- A voltage in millivolts, rounded down. (Log entry 63: DEDUCED.) -/
def trkMv (c : Nat) : Nat := c * 1000 / (960 * 2 ^ 31)

/-- CAP: VMAX, or the tracking ceiling of an absent battery where it is lower (R398, R499). -/
def State.trkCap (s : State) : Nat :=
  let v := tenthVolt (s.f Regs.TRK_LIMITS 16 9)
  if s.b (Regs.AUX_STAT 0) 12 then min v (tenthVolt (s.f (Regs.AUX_BATT 0) 16 9)) else v

/-- A rate in 0.1 V/ms as a change per hearth sample. -/
def State.trkRate (s : State) (r : Nat) : Nat := r * 2 ^ 31 * (if s.b Regs.CLK_HEARTH 0 then 1 else 2)

/-- V_need of a known sample with the gain factor evaluated now (R397). (Log entry 63: DEDUCED.) -/
def State.trkNeed (s : State) (x : TrkSample) : Nat :=
  let ch := s.fin x.chan
  let g := if ch.step < ch.steps then max ch.factor (fieldFactor ch.target) else ch.factor
  let e := min (2 ^ 31) (x.mag * g / 2 ^ 60)
  tenthVolt (s.f Regs.TRK_DYN 0 8) + 240 * s.f (Regs.CH_CFG x.chan) 24 8 * e

/-- The PWM duty count for `c`, before inversion (R399). -/
def State.trkDutyRaw (s : State) (c : Nat) : Nat :=
  let lo := tenthVolt (s.f Regs.TRK_MAP 0 9)
  let hi := tenthVolt (s.f Regs.TRK_MAP 16 9)
  if c ≤ lo ∨ hi ≤ lo then 0 else min 1024 ((1024 * (c - lo) + (hi - lo) - 1) / (hi - lo))

/-- The TRK pin's duty count (R395, R399): low in sleep, the duty of VMAX while tracking is disabled. -/
def State.trkDuty (s : State) : Nat :=
  if !s.awake then 0
  else
    let d := s.trkDutyRaw (if s.en pgTrk then s.trk.c else tenthVolt (s.f Regs.TRK_LIMITS 16 9))
    if s.b Regs.TRK_MAP 31 then 1024 - d else d

/-- The pin follows the command. -/
def State.trkPin (s : State) : State :=
  if s.awake ∧ s.en pgTrk ∧ s.f Regs.TRK_CTRL 16 2 = 1 then s else { s with trk := { s.trk with duty := s.trkDuty } }

/-- The duty count driven at the TRK pin; `none` for the high impedance of an ORPHAN device (R564). -/
def State.trkPad (s : State) : Option Nat := if s.pair.orphan then none else some s.trk.duty

/-- Setting EN to 1 is accepted (R396). -/
def State.trkEnableOk (s : State) : Bool :=
  let m := s.f Regs.TRK_CTRL 0 16
  m != 0 && (setBitsOf 16 m).all fun c =>
    let h := s.chainLook (s.f (Regs.FIN_DELAY c) 0 13) (s.level16 (Regs.FIN_LIM c) 0)
    decide (32 ≤ h) && decide (s.f Regs.TRK_DYN 8 8 ≤ h)

/-- A change of FINn's DELAY to `d` and limiter threshold to `thr` keeps the tracker's look-ahead (R396). -/
def State.trkKeeps (s : State) (n d : Nat) (thr : Int) : Bool :=
  !(decide (n < 16) && s.en pgTrk && s.b Regs.TRK_CTRL n) ||
    (decide (32 ≤ s.chainLook d thr) && decide (s.f Regs.TRK_DYN 8 8 ≤ s.chainLook d thr))

/-- Tracking begins: C stands at VMAX (R395). -/
def State.trkEnable (s : State) : State :=
  let v := tenthVolt (s.f Regs.TRK_LIMITS 16 9)
  ({ s with trk := { s.trk with c := v, past := [], lows := [(s.tb, trkMv v)], acked := none, fails := 0, linkBad := false, under := 0 } }).trkPin

/-- Tracking ends: WARN TRK_FOLLOW and TRK_LINK have no cause left. -/
def State.trkDisable (s : State) : State :=
  ({ s with trk := { s.trk with c := 0, past := [], lows := [], sending := none, fails := 0, linkBad := false, under := 0 } }).trkPin

/-- The update of R398 at hearth sample `t`, but for its events: the new C and whether it stepped. -/
def State.trkNext (s : State) (t : Nat) (past : List (Nat × Nat)) : Nat × Bool :=
  let rise := s.trkRate (s.f Regs.TRK_DYN 16 8)
  let fall := s.trkRate (s.f Regs.TRK_DYN 24 8)
  let lead := s.f Regs.TRK_DYN 8 8
  let rq := (s.trk.known.filter fun x => decide (t ≤ x.play)).foldl (fun a x =>
    max a (s.trkNeed x - rise * ((x.play - t) / s.sampleTicks - lead))) 0
  let ph := past.foldl (fun a x => max a x.2) 0
  let c := s.trk.c
  let m := max rq ph
  let c' := if c ≤ rq then rq else if m < c then max m (c - fall) else c
  (min (max c' (tenthVolt (s.f Regs.TRK_LIMITS 0 9))) s.trkCap, decide (c ≤ rq) && decide (rise < rq - c))

/-- The tracker at its next hearth sample (R397, R398). -/
def State.trkUpdate (s : State) : State :=
  if s.awake ∧ s.en pgTrk then
    let t := s.sampleFrom (s.tb + 1)
    let s := s.reach t
    let played := s.trk.known.filter fun x => decide (x.play ≤ t)
    let now := played.foldl (fun a x => max a (s.trkNeed x)) 0
    let past := (s.trk.past.filter fun x => decide (t ≤ x.1 + 200 * tickMs) && decide (now < x.2)) ++ [(t, now)]
    let r := s.trkNext t past
    let c := if s.trk.linkBad then s.trkCap else r.1
    let lows := (s.trk.lows.filter fun x => decide (t ≤ x.1 + 2 * tickMs)) ++ [(t, trkMv c)]
    let known := s.trk.known.filter fun x => decide (t < x.play)
    let s := { s with trk := { s.trk with c := c, past := past, known := known, lows := lows } }
    let s := if r.2 && !s.trk.linkBad then ((s.incF Regs.TRK_EVT 16 16).event pgTrk 0).raiseLocal 0x30 pgTrk 0 else s
    s.trkPin
  else s

/-! ### Messages to the converter on TWC0 (R399, R400) -/

/-- The code for C. A command below OFS takes code 0. (Log entry 63: DEDUCED.) -/
def State.trkCode (s : State) : Nat :=
  let num : Int := (s.trk.c * 10000 : Nat) - (s.f Regs.TRK_TW 0 16 * 10 * 960 * 2 ^ 31 : Nat)
  let den := s.f Regs.TRK_TWLSB 0 16 * 960 * 2 ^ 31
  if num ≤ 0 ∨ den = 0 then 0
  else min (if s.b Regs.TRK_TW 31 then 0xFFFF else 0xFF) ((num.toNat + den - 1) / den)

/-- A message begins at a boundary at which the code differs from the last acknowledged one; one at most per stroke. -/
def State.trkBoundary (s : State) : State :=
  let p := s.f Regs.TRK_CTRL 16 2
  if s.en pgTrk && (p == 1 || p == 2) && s.trk.sending.isNone && s.trk.acked != some s.trkCode then
    { s with trk := { s.trk with sending := some s.trkCode } }
  else s

/-- The bytes of a message with that code: S, the address, the register and the code, P (R399, R520). -/
def State.trkBytes (s : State) (code : Nat) : List (BitVec 8) :=
  let l := [2 * s.f Regs.TRK_TW 24 7, s.f Regs.TRK_TW 16 8] ++ (if s.b Regs.TRK_TW 31 then [code / 256] else []) ++ [code % 256]
  l.map fun x => BitVec.ofNat 8 x

/-- The running message ends, acknowledged or not (R400). It waits for an open transaction of the host on TWC0 (R520). -/
def State.trkMessageDone (s : State) (ack : Bool) : State :=
  match s.trk.sending with
  | none => s
  | some code =>
    if (s.twcs.get {} 0).opened then s
    else if ack then
      ({ s with trk := { s.trk with sending := none, acked := some code, fails := 0, linkBad := false } }).clearFault 0x31 pgTrk
    else
      let f := s.trk.fails + 1
      let s := { s with trk := { s.trk with sending := none, acked := none, fails := f } }
      let s := (s.incF Regs.TRK_EVT 8 8).event pgTrk 1
      if 8 ≤ f then ({ s with trk := { s.trk with linkBad := true, c := s.trkCap } }.raiseLocal 0x31 pgTrk 0).trkPin else s

/-! ### PVDD readings and the warning monitor (R392, R393, R401) -/

/-- A PVDD reading in mV (R401): the second in a row below 0.9 C warns. -/
def State.trkReading (s : State) (mv : Nat) : State :=
  let s := s.setF Regs.TRK_CMDV 16 16 mv
  if s.en pgTrk then
    if mv * 10 * 960 * 2 ^ 31 < 9 * s.trk.c * 1000 then
      let u := s.trk.under + 1
      let s := { s with trk := { s.trk with under := u } }
      if u = 2 then ((s.incF Regs.TRK_EVT 0 8).event pgTrk 2).raiseLocal 0x32 pgTrk 0 else s
    else { s with trk := { s.trk with under := 0 } }.clearFault 0x32 pgTrk
  else s

/-- The warning level Vw in mV (R392). -/
def State.trkWarn (s : State) : Nat :=
  let a := s.f Regs.TRK_PVMON 0 8 * 100
  if s.en pgTrk then
    match s.trk.lows with
    | [] => a
    | x :: rest => max a (s.f Regs.TRK_PVMON 8 8 * (rest.foldl (fun m y => min m y.2) x.2) / 100)
  else a

/-- PVDD stands at `mv`, below Vw, for 2 µs: WARN PVDD_LOW, the pauses of R393, and the ring tests end (R440). (Log entry 63: DEDUCED.) -/
def State.pvddLow (s : State) (mv : Nat) : State :=
  if s.awake ∧ mv < s.trkWarn then
    let s := { s with trk := { s.trk with low := true } }
    let s := (s.event pgTrk 3).raiseLocal 0x29 pgTrk 0
    s.pauseAll.testsAbort 2
  else s

/-- PVDD has stood at `mv`, above Vw + 0.2 V, for 100 µs: the paused stages go on (R392, R393). (Log entry 63: DEDUCED.) -/
def State.pvddRecovered (s : State) (mv : Nat) : State :=
  if s.awake ∧ s.trkWarn + 200 < mv then
    ({ s with trk := { s.trk with low := false } }.clearFault 0x29 pgTrk).resumeAll
  else s

end Sys2Proof.Machine
end

