-- ==== Sys2Proof/Machine/Tongs.lean ====
section
/-!
DEFINITION. The sense converters and the Tongs (chapter 14): sense billets, the voice-coil model, allowed levels, channel quench,
mismatches and protected fallback. A pass on a stroke's billets is computed at its end, the boundary at which its weld applies.
-/

namespace Sys2Proof.Machine

/-- TONGS's page. -/
def pgTongs : Nat := 0x72
/-- SNS's page. -/
def pgSns : Nat := 0x70

/-- The Tongs' model of channel `c`. -/
def State.coil (s : State) (c : Nat) : TongsChan := s.tongs.chans.get {} c

/-- `s` with it replaced; S_TEMP shows the nodes in 1/64 °C. -/
def State.setCoil (s : State) (c : Nat) (x : TongsChan) : State :=
  { s with tongs := { s.tongs with chans := s.tongs.chans.set {} c x } }.setW (tongsKey c 0x084)
    (Word.of (unsign 16 (x.tc / 16) * 65536 + unsign 16 (x.tm / 16)))

/-- ALLOW.LEVEL of FINn. -/
def State.setAllow (s : State) (n : Nat) (l : Int) : State := s.setF (Regs.FIN_ALLOW n) 0 16 (unsign 16 l)

/-! ### Sense (R402 to R405, R657) -/

/-- Queue `i` of the 32 sense queues. -/
def State.senseQueue (s : State) (i : Nat) : Nat := s.f Regs.SNS_CTRL 16 10 + i

/-- Every sense queue is an enabled unpacked STREAM queue between the converters and the Tongs (R406). -/
def State.senseQueuesOk (s : State) : Bool :=
  (List.range 32).all fun i =>
    let x := s.queue (s.senseQueue i)
    x.on && !x.isRing && !x.packed && x.producer == unitId pgSns i && x.consumer == unitId pgTongs i

/-- Full scales of channel `c`: voltage in mV and current in mA (R402). -/
def State.senseScale (s : State) (c : Nat) : Nat × Nat :=
  if isStg c then (32000, 12000)
  else let w := s.w (Regs.SNS_XSCALE (c - 8)); (bits w 0 16 * 10, bits w 16 16)

/-- A 16-bit reading as the top half of a Q1.31 word. -/
def senseWord (v : Int) : Word := Word.of (unsign 16 (satS 16 v) * 65536)

/-- The reading a sense word holds. -/
def senseCode (w : Word) : Int := sext 16 (bits w 16 16)

/-- Channel `c` is the odd half of a PBTL pair: its current goes into the pair's, and its queues receive zeros (R405). -/
def State.senseOdd (s : State) (c : Nat) : Bool := isStg c && c % 2 == 1 && s.pbtl (c - 1)

/-- The converters of channel `c`, or of the pair it is half of, deliver readings; otherwise zeros (R405). -/
def State.senseLive (s : State) (c : Nat) : Bool :=
  [chSettle, chRun, chStopping].contains (s.chState (if s.senseOdd c then c - 1 else c))

/-- A reading at either end of full scale (R405). -/
def senseOver (v : Int) : Bool := decide (32767 ≤ v) || decide (v ≤ -32768)

/-- Reading `v` of converter `i` at tick `t` against the calibration so far: what is delivered, and the calibration after it (R404). A
saturated reading is delivered saturated (R405). (Log entry 94: DESIGN CHOICE.) -/
def SenseCal.apply (x : SenseCal) (calEnd t : Nat) (v : Int) : Int × SenseCal :=
  if calEnd ≤ t then (if senseOver v || x.cnt == 0 then satS 16 v else satS 16 (v - divConv x.sum x.cnt), x)
  else (satS 16 v, if calEnd ≤ t + tickMs / 2 then { sum := x.sum + satS 16 v, cnt := x.cnt + 1 } else x)

/-- Readings taken from tick `t` on, one a hearth sample, through the calibration. -/
def State.calibrate (s : State) (x : SenseCal) (calEnd t : Nat) : List Int → List Int × SenseCal
  | [] => ([], x)
  | v :: l =>
    let r := x.apply calEnd t v
    let y := s.calibrate r.2 calEnd (t + s.sampleTicks) l
    (r.1 :: y.1, y.2)

/-- The readings that converter `i` delivers from `raw`, taken from tick `t` on: none of the odd half of a pair, whose current waits for the
even half's converter to add it (R405). (Log entry 94: DESIGN CHOICE.) -/
def State.sensed (s : State) (i t : Nat) (raw : List Int) : List Int × State :=
  let c := i / 2
  if s.senseOdd c then
    (raw.map fun _ => 0, if i % 2 = 0 then { s with tongs := { s.tongs with half := s.tongs.half.put (c - 1) (t, raw) } } else s)
  else if s.senseLive c then
    let raw := match s.tongs.half.find c with
      | some (u, l) => if i % 2 = 0 && s.pbtl c && u == t then (List.range 16).map fun j => raw.getD j 0 + l.getD j 0 else raw
      | none => raw
    let r := s.calibrate (s.tongs.cal.get {} i) (s.chan c).calEnd t raw
    (r.1, { s with tongs := { s.tongs with cal := s.tongs.cal.set {} i r.2 } })
  else (raw, s)

/-- The samples of a waiting billet of queue `q` whose stamp is `st`. -/
def State.senseAt (s : State) (q st : Nat) : Option (List Word) :=
  (s.queue q).waiting.findSome? fun i =>
    let b := s.itemBillet i
    if b.tag.stamp = st then some b.samples else none

/-- Sense converter `i` (2c current, 2c + 1 voltage) takes the sixteen samples played from tick `t`, which is at offset 0 or 16 of a
stroke: `codes` are its readings, with its gain trimmed. Without a credit they are discarded (R657). The voltage billet completes the pair
of samples that a ring test of the channel measures. (Log entries 8: DESIGN CHOICE, 94: DESIGN CHOICE.) -/
def State.senseBillet (s : State) (i t : Nat) (codes : List Int) : State :=
  let off := t / s.sampleTicks % 32
  if !s.forging || decide (32 ≤ i) || (off != 0 && off != 16) || t % s.sampleTicks != 0 then s
  else
    let s := s.reach (t + 16 * s.sampleTicks)
    let c := i / 2
    let live := s.senseLive c
    let raw := (List.range 16).map fun j => if live then codes.getD j 0 else 0
    let ovf := (raw.filter senseOver).length
    let s := if ovf = 0 then s
      else { (s.addF Regs.SNS_EVT 0 16 ovf).event pgSns 0 with tongs := { s.tongs with ovr := s.tongs.ovr ++ [c] } }
    let (l, s) := s.sensed i t raw
    let q := s.senseQueue i
    let ws := l.map senseWord
    let r := s.produce q { stamp := t % 2 ^ 32, count := 16, offset := off } ws
    let s := if r.1 then r.2 else (r.2.addF Regs.SNS_EVT 16 16 16).event pgSns 1
    if i % 2 = 1 then
      match s.senseAt (s.senseQueue (2 * c)) (t % 2 ^ 32) with
      | none => s
      | some is =>
        let sc := s.senseScale c
        (List.range 16).foldl (fun s j =>
          s.testSample c (t + j * s.sampleTicks) (l.getD j 0 * (sc.1 * 1000 : Nat) / 32768)
            (senseCode (is.getD j 0) * (sc.2 * 1000 : Nat) / 32768)) s
    else s

/-- NOTE SNS_OVR once for a stroke in which sense saturated, naming its lowest channel (R405). -/
def State.senseBoundary (s : State) : State :=
  match s.tongs.ovr with
  | [] => s
  | c :: t => { s with tongs := { s.tongs with ovr := [] } }.raiseLocal 0x38 pgSns (t.foldl min c)

/-! ### The voice-coil model (R409, R410, R415) -/

/-- A node value num / den, in 1/1,024 K, held at that resolution; the rounding is a free value (log entry 5). (Log entry 64: DEDUCED.) -/
def nodeValue (num : Int) (den : Nat) : Int :=
  if num % (den : Int) = 0 then num / (den : Int) else num / (den : Int) + b2n (Config.nodeUp num den)

/-- Ta in 1/1,024 °C. -/
def State.ambient (s : State) : Int := sext 8 (s.f Regs.TONGS_TAMB 0 8) * 1024

/-- One step of R409 over dn / dd seconds with power p.1 / p.2 µW. -/
def State.coilStep (s : State) (c : Nat) (p : Nat × Nat) (dn dd : Nat) (x : TongsChan) : TongsChan :=
  let rc := s.f (tongsKey c 0x068) 16 16
  let cc := s.f (tongsKey c 0x068) 0 16
  let rm := s.f (tongsKey c 0x06C) 16 16
  let cm := s.f (tongsKey c 0x06C) 0 16
  let d := x.tc - x.tm
  let e := x.tm - s.ambient
  let den := dd * cc * p.2 * 1000000 * rc
  let den2 := dd * cm * rc * rm
  { x with
    tc := nodeValue (x.tc * (den : Int) + (dn : Int) * (1024000 * (p.1 * rc : Nat) - 100000 * d * (p.2 * 1000000 : Nat))) den
    tm := nodeValue (x.tm * (den2 : Int) + (dn : Int) * (10000 * (d * rm - e * rc))) den2 }

/-- The step of R412 in 10 µs: the smaller of 100 ms and a quarter of the smallest time constant. -/
def State.coolStep (s : State) : Nat :=
  allChans.foldl (fun a c =>
    min a (min (s.f (tongsKey c 0x068) 16 16 * s.f (tongsKey c 0x068) 0 16 / 4)
      (s.f (tongsKey c 0x06C) 16 16 * s.f (tongsKey c 0x06C) 0 16 * 10 / 4))) 10000

/-- Every node runs R409 with P = 0 over `e` ticks, or stands at Ta when that exceeds 1,000 s (R411, R412). -/
def State.coolAll (s : State) (e : Nat) : State :=
  if 1000 * 98304000 < e then
    allChans.foldl (fun s c => s.setCoil c { s.coil c with tc := s.ambient, tm := s.ambient }) s
  else
    let h := s.coolStep * 98304 / 100
    let n := e / h
    allChans.foldl (fun s c =>
      let x := (List.range n).foldl (fun x _ => s.coilStep c (0, 1) h 98304000 x) (s.coil c)
      s.setCoil c (if e % h = 0 then x else s.coilStep c (0, 1) (e % h) 98304000 x)) s

/-- Arrival in WARM after sleep (R412). -/
def State.tongsWake (s : State) : State :=
  match s.tongs.sleptAt with
  | none => s
  | some t => { s with tongs := { s.tongs with sleptAt := none } }.coolAll (s.tb - t)

/-! ### Start and stop (R406, R411) -/

/-- The Tongs run. -/
def State.tongsOn (s : State) : Bool := s.f Regs.TONGS_STAT 0 4 == 1

/-- The Tongs start (R406): waiting sense billets are released unread. -/
def State.tongsStart (s : State) : State :=
  if s.f Regs.TONGS_STAT 0 4 = 2 then s
  else
    let s := (List.range 32).foldl (fun s i =>
      let q := s.senseQueue i
      (List.range (s.queue q).held).foldl (fun s _ => (s.consume q).2) s) s
    let s := match s.tongs.stoppedAt with
      | none => s
      | some t => s.coolAll (s.tb - t)
    let chans := s.tongs.chans.map fun x => (x.1, { x.2 with prev := none, band := 0, win := 0, bad := false })
    let s := { s with tongs := { s.tongs with
      chans := chans, owed := [], first := s.strokeFrom s.tb, stoppedAt := none, lastMis := none, void := false } }
    s.setF Regs.TONGS_STAT 0 4 1

/-- EN is cleared: every driver channel's level is mute (R406). In protected fallback nothing changes until device reset (R426). -/
def State.tongsStop (s : State) : State :=
  if s.tongsOn then
    let s := allChans.foldl (fun s c => s.setAllow c gMute) s
    { s with tongs := { s.tongs with stoppedAt := some s.tb, owed := [] } }.setF Regs.TONGS_STAT 0 4 0
  else s

/-! ### Mismatch and protected fallback (R422 to R426) -/

/-- The level of a SAFE code (R421, R426). -/
def safeLevel (code : Nat) : Int := if code = 0xFF then gMute else -128 * (code : Int)

/-- The stage dies take their copies of the SAFE words within a stroke; a die without its link keeps what it holds (R421).
(Log entry 90: DESIGN CHOICE.) -/
def State.safeBoundary (s : State) : State :=
  [true, false].foldl (fun s a =>
    let d := s.die a
    let w := if a then 0 else 1
    if d.linkLost then s else s.setDie a { d with safeStg := s.w (Regs.TONGS_SAFE w), safeXst := s.w (Regs.TONGS_SAFE (w + 2)) }) s

/-- The amplitude, in Q1.31, to which the die clamps channel `c` in protected fallback (R421, R426). -/
def State.safeAmp (s : State) (c : Nat) : Nat :=
  let d := s.die (onDieA c)
  levelAmp (safeLevel (bits (if isStg c then d.safeStg else d.safeXst) (8 * (c % 4)) 8))

/-- Protected fallback (R426). (Log entry 65: DESIGN CHOICE.) -/
def State.tongsFallback (s : State) (cause : Nat) : State :=
  let s := (s.setF Regs.TONGS_STAT 0 4 2).setF Regs.TONGS_STAT 24 3 cause
  let s := allChans.foldl (fun s c => s.setAllow c (safeLevel (s.f (Regs.TONGS_SAFE (c / 4)) (8 * (c % 4)) 8))) s
  let s := allChans.foldl (fun s c => s.setFin c { s.fin c with refit := true }) s
  let s := { s with tongs := { s.tongs with owed := [], void := false } }.testsAbort 6
  (s.event pgTongs 3).raiseDevice 0x3D pgTongs false

/-- A real mismatch, or a pass found late (R408, R422, R424). -/
def State.tongsMismatch (s : State) : State :=
  let k := s.strokeNo
  let last := s.tongs.lastMis
  let s := { s with tongs := { s.tongs with lastMis := some k } }
  let s := ((s.incF Regs.TONGS_EVT 16 16).event pgTongs 2).raiseLocal 0x3C pgTongs 0
  match last with
  | none => s
  | some j => if k ≤ j + 16 then s.tongsFallback 1 else s

/-- The deadline passes with the pass unfinished (R408). -/
def State.tongsDeadline (s : State) : State :=
  if s.tongsOn && !s.tongs.owed.isEmpty && !s.tongs.void then
    { s with tongs := { s.tongs with void := true } }.tongsMismatch
  else s

/-! ### A pass (R407, R413 to R419) -/

/-- The billets of sense queue `i` that belong to strokes up to `j`, taken and released: stamp in full, offset and samples; one lost in
the Stock counts as missing. -/
def State.takeSense (s : State) (i j : Nat) : List (Nat × List Word) × State :=
  let q := s.senseQueue i
  (List.range (s.queue q).held).foldl (fun (a : List (Nat × List Word) × State) _ =>
    match (a.2.queue q).ready with
    | [] => a
    | it :: _ =>
      let b := a.2.itemBillet it
      let t := a.2.fullStamp b.tag.stamp
      if t / a.2.strokeLen ≤ j then
        let s := (a.2.consume q).2
        (if bit (Word.of b.tag.flags) 0 then a.1 else a.1 ++ [(t, b.samples)], s)
      else a) ([], s)

/-- Every sense queue's billets of strokes up to `j`. -/
def State.takeAllSense (s : State) (j : Nat) : List (List (Nat × List Word)) × State :=
  (List.range 32).foldl (fun (a : List (List (Nat × List Word)) × State) i =>
    let r := a.2.takeSense i j
    (a.1 ++ [r.1], r.2)) ([], s)

/-- The pairs (voltage, current) of channel `c` present for stroke `j`. (Log entry 5: DESIGN CHOICE.) -/
def State.sensePairs (s : State) (data : List (List (Nat × List Word))) (c j : Nat) : List (Int × Int) :=
  ((data.getD (2 * c + 1) []).filter fun b => b.1 / s.strokeLen == j).flatMap fun b =>
    match (data.getD (2 * c) []).find? fun x => x.1 == b.1 with
    | none => []
    | some x => (List.range 16).map fun k => (senseCode (b.2.getD k 0), senseCode (x.2.getD k 0))

/-- P of the pairs in µW as a fraction: their mean, not below 0 (R409, R657). (Log entry 64: DEDUCED.) -/
def State.sensePower (s : State) (c : Nat) (l : List (Int × Int)) : Nat × Nat :=
  let sc := s.senseScale c
  let sum : Int := l.foldl (fun (a : Int) x => a + x.1 * x.2) 0
  if sum ≤ 0 then (0, 1) else (sum.toNat * sc.1 * sc.2, 2 ^ 30 * l.length)

/-- The resistance window of channel `c` takes a stroke of samples; at its end S_LEVEL shows the R_meas of a valid one, which corrects the
coil where it is plausible (R413, R415). (Log entry 94: DESIGN CHOICE.) -/
def State.coilWindow (s : State) (c : Nat) (l : List (Int × Int)) : State :=
  let x := s.coil c
  let sc := s.senseScale c
  let uv : List (Int × Int) := l.map fun y => (y.1 * (sc.1 * 1000 : Nat) / 32768, y.2 * (sc.2 * 1000 : Nat) / 32768)
  let band := Config.bandStep (s.f Regs.TONGS_MEAS 0 2) x.band uv
  let bad := x.bad || decide (l.length < 32)
  if x.win + 1 < s.f Regs.TONGS_MEAS 8 8 then s.setCoil c { x with band := band, win := x.win + 1, bad := bad }
  else
    let s := s.setCoil c { x with band := 0, win := 0, bad := false }
    let valid := !bad && decide (s.f Regs.TONGS_MEAS 16 8 ≤ Config.bandRms band)
    let s := s.setB (tongsKey c 0x08C) 31 valid
    if valid then
      let r := Config.bandOhm band
      let re := s.f (tongsKey c 0x060) 0 16
      let s := s.setF (tongsKey c 0x088) 0 16 (satU 0xFFFF r)
      if 2 * r < re ∨ 3 * re < r then (s.incF Regs.TONGS_EVT 0 8).raiseLocal 0x3A pgTongs c
      else
        let x := s.coil c
        -- T_meas in units of 1/1,024 °C is tn / td
        let td := 393 * re
        let tn : Int := 25 * 1024 * td + 1024 * 100000 * ((r : Int) - re)
        let tc :=
          if x.tc * td < tn then nodeValue tn td
          else
            let k := 2 ^ s.f (tongsKey c 0x064) 0 4
            nodeValue (x.tc * (td * k : Nat) + (tn - x.tc * td)) (td * k)
        s.setCoil c { x with tc := tc }
    else s

/-- The stage die mutes channel `c` with a 1 ms temper and then stops it (R417); one that is not driven, a retry or a condition of its die
pending, is STOPPED at once. (Log entry 94: DESIGN CHOICE.) -/
def State.coilStop (s : State) (c : Nat) : State :=
  let st := s.chState c
  let x := s.chan c
  if [chInrush, chPaused, chSettle, chRun, chStopping].contains st then
    ((s.testEnd c 3 0).setChan c { x with phase := .tempering, after := .stopped, due := s.tb + tickMs, isOpen := false, ramp := none }).setChState
      c chStopping
  else if st = chTripped ∨ (st = chHeld ∧ x.heldFrom ≠ chLatched) then (s.testEnd c 3 0).setChState c chStopped
  else s

/-- Channel `c` is quenched (R417). -/
def State.coilQuench (s : State) (c : Nat) : State :=
  let s := (s.setB (tongsKey c 0x08C) 30 true).coilStop c
  let s := (s.setAllow c gMute).incF Regs.TONGS_EVT 8 8
  (s.event pgTongs 1).raiseLocal 0x3B pgTongs c

/-- The level and the decisions of a pass for channel `c` (R416 to R418): the level to write, `none` for a quenched channel. -/
def State.coilLevel (s : State) (c : Nat) : Option Int × State :=
  let x := s.coil c
  let tmax : Int := s.f (tongsKey c 0x064) 24 8
  let tw := tmax - (s.f (tongsKey c 0x064) 16 8 : Nat)
  let ceil := sext 16 (s.f (tongsKey c 0x070) 16 16)
  let floor := sext 16 (s.f (tongsKey c 0x070) 0 16)
  let hot := decide (tw * 1024 < x.tc)
  let was := s.b (tongsKey c 0x08C) 29
  let s := s.setB (tongsKey c 0x08C) 29 hot
  let s := if hot && !was then (s.event pgTongs 0).raiseLocal 0x39 pgTongs c else if hot then s else s.clearSub 0x39 pgTongs c
  let quenched := s.b (tongsKey c 0x08C) 30
  if quenched && hot then (none, s)
  else
    let freed := quenched
    let s := if freed then (s.setB (tongsKey c 0x08C) 30 false).clearSub 0x3B pgTongs c else s
    if (tmax + 10) * 1024 < x.tc then (none, s.coilQuench c)
    else
      let target := if hot then max floor ((ceil * 1024 - (s.f (tongsKey c 0x074) 16 16 : Nat) * (x.tc - tw * 1024)) / 1024) else ceil
      let rise : Int := s.f (tongsKey c 0x074) 0 16
      let a := match (if freed then some floor else x.prev) with
        | none => target
        | some p => if target < p then target else min target (p + rise)
      let a := if s.b Regs.TONGS_STAT 8 then min a (Config.imageLevel c s.free) else a
      let a := if a < gMute then gMute else if a > 0 then 0 else a
      let s := (s.setCoil c { x with prev := some a }).setF (tongsKey c 0x088) 16 16 (unsign 16 a)
      (some a, s)

/-- One owed stroke: power and model of every channel, then the resistance windows of a stroke that played. (Log entry 64: DEDUCED.) -/
def State.coilStroke (s : State) (data : List (List (Nat × List Word))) (j : Nat) (played : Bool) : State :=
  allChans.foldl (fun s c =>
    let l := s.sensePairs data c j
    let x := s.coil c
    let p := if !played then (0, 1) else if l.isEmpty then x.p else s.sensePower c l
    let s := s.setCoil c { s.coilStep c p s.strokeLen 98304000 x with p := p }
    let s := s.setF (tongsKey c 0x08C) 0 16 (satU 0xFFFF (p.1 / (p.2 * 10000)))
    if played then s.coilWindow c l else s) s

/-- The pass that ends at the present boundary: its weld's levels, `none` where no Tongs weld is committed (R407, R422, R423).
(Log entry 64: DEDUCED.) -/
def State.tongsPass (s : State) : Option (List (Nat × Int)) × State :=
  if !s.tongsOn || s.tongs.owed.isEmpty then (none, s)
  else if s.tongs.void then (none, { s with tongs := { s.tongs with void := false } })
  else if s.tongs.injMis then (none, { s with tongs := { s.tongs with injMis := false } }.tongsMismatch)
  else
    let owed := s.tongs.owed
    let last := owed.foldl (fun a x => max a x.1) 0
    let r := s.takeAllSense last
    let s := owed.foldl (fun s x => s.coilStroke r.1 x.1 x.2) r.2
    let lv := allChans.foldl (fun (a : List (Nat × Int) × State) c =>
      let y := a.2.coilLevel c
      (match y.1 with | none => a.1 | some v => a.1 ++ [(c, v)], y.2)) ([], s)
    let s := { lv.2.tickFree with tongs := { lv.2.tongs with owed := [] } }
    if s.tongs.injStrike then (none, { s with tongs := { s.tongs with injStrike := false } }.tongsFallback 2)
    else (some lv.1, s)

/-- The Tongs' work at a boundary: the pass ends, and the stroke that has just ended is owed to the next (R406, R407). -/
def State.tongsBoundary (s : State) : Option (List (Nat × Int)) × State :=
  let k := s.strokeNo
  let r := s.tongsPass
  let s := r.2
  let s := if s.tongsOn ∧ 1 ≤ k ∧ s.tongs.first ≤ k - 1 then
      { s with tongs := { s.tongs with owed := s.tongs.owed ++ [(k - 1, s.tongs.played)] } }
    else s
  (r.1, { s with tongs := { s.tongs with played := s.forging } })

end Sys2Proof.Machine
end

