-- ==== Sys2Proof/Machine/Housekeeping.lean ====
section
/-!
DEFINITION. The housekeeping converters (chapter 18): sequences, results, the reference, PVDD and plausibility, keys, external-stage
temperatures and the absent battery.
-/

namespace Sys2Proof.Machine

/-- Page of AUXn. -/
def pgAux (n : Nat) : Nat := 0x74 + n

/-- Converter `n`. -/
def State.aux (s : State) (n : Nat) : Aux := s.auxs.get {} n

/-- `s` with it replaced. -/
def State.setAux (s : State) (n : Nat) (x : Aux) : State := { s with auxs := s.auxs.set {} n x }

/-- STAT.RUN. -/
def State.auxRuns (s : State) (n : Nat) : Bool := s.b (Regs.AUX_STAT n) 8

/-- The plausibility actions fire (R494). -/
def State.plausOn (s : State) : Bool :=
  s.b (Regs.AUX_PLAUS 0) 31 && s.auxRuns 0 && s.auxRuns 1 && s.b (Regs.AUX_STAT 0) 9 && s.b (Regs.AUX_STAT 1) 9

/-- STAT.PLAUS_OFF follows the conditions (R494). -/
def State.plausStat (s : State) : State := s.setB (Regs.AUX_STAT 0) 13 (!s.plausOn)

/-- START is accepted (R487). -/
def State.auxStartOk (s : State) (n : Nat) : Bool :=
  let size := s.f (Regs.AUX_BUF n) 0 13
  let x := s.queue (s.f (Regs.AUX_BUF n) 16 10)
  s.awake && s.en (pgAux n) && !s.auxRuns n && size != 0 && x.on && x.isRing && x.producer == pgAux n * 256 &&
    x.consumer == pgAux n * 256 && decide (size / 16 ≤ x.depth)

/-- A scan begins: the regular sequence has entries. -/
def State.auxScan (s : State) (n : Nat) : State :=
  if s.f (Regs.AUX_CFG n) 0 5 = 0 then s else s.setAux n { s.aux n with scan := some 0 }

/-- START (R487, R488, R492). -/
def State.auxStart (s : State) (n : Nat) : State :=
  let s := (s.setB (Regs.AUX_STAT n) 8 true).setF (Regs.AUX_WPTR n) 0 12 0
  let s := s.setAux n { s.aux n with scan := none, inj := none, scanDue := false, start := s.tb, stopReq := false, nextScan := s.tb }
  let s := if s.f (Regs.AUX_CFG n) 12 2 = 1 then s else s.auxScan n
  s.plausStat

/-- The sequences stand still. -/
def State.auxHalt (s : State) (n : Nat) : State :=
  ((s.setAux n { s.aux n with scan := none, inj := none, scanDue := false, stopReq := false }).setB (Regs.AUX_STAT n) 8 false).plausStat

/-- STOP: at the end of the conversion in progress, at once where none is (R487). -/
def State.auxStop (s : State) (n : Nat) : State :=
  let x := s.aux n
  if x.scan.isSome || x.inj.isSome then s.setAux n { x with stopReq := true } else s.auxHalt n

/-- A write of REF_EN that changes it (R486). -/
def State.refEnWrite (s : State) (n : Nat) (on : Bool) : State :=
  if on then s.setAux n { s.aux n with refDue := some (s.tb + 2 * tickMs) }
  else ((s.setAux n { s.aux n with refDue := none }).setB (Regs.AUX_STAT n) 9 false).plausStat

/-- REF_RDY sets (R486). -/
def State.refReady (s : State) (n : Nat) : State :=
  match (s.aux n).refDue with
  | none => s
  | some t => ((((s.reach t).setAux n { s.aux n with refDue := none }).setB (Regs.AUX_STAT n) 9 true).event (pgAux n) 2).plausStat

/-- A scan in STROKE mode falls due at the next stroke boundary whose number is a multiple of DIV (R488, R490). In CONT and ONCE mode scans
begin at START and at the end of the scan before. -/
def State.auxScanStart (s : State) (n : Nat) : State :=
  let div := s.f (Regs.AUX_CFG n) 16 8
  if s.auxRuns n && s.f (Regs.AUX_CFG n) 12 2 == 1 && div != 0 then
    let k := s.strokeFrom (max s.tb (s.aux n).nextScan)
    let t := s.boundaryTick ((k + div - 1) / div * div)
    let s := s.reach t
    let s := s.setAux n { s.aux n with nextScan := t + 1 }
    let x := s.aux n
    if x.scan.isSome then s.incF (Regs.AUX_EVT n) 8 8
    else if x.inj.isSome then s.setAux n { x with scanDue := true }
    else (s.setAux n { x with start := max x.start t }).auxScan n
  else s

/-- An injected trigger (R489). -/
def State.auxTrigger (s : State) (n : Nat) : State :=
  let x := s.aux n
  if !s.auxRuns n || s.f (Regs.AUX_CFG n) 8 3 == 0 then s
  else if x.scan.isSome || x.inj.isSome || decide (s.tb < x.start) then (s.incF (Regs.AUX_EVT n) 16 16).event (pgAux n) 0
  else s.setAux n { x with inj := some 0, start := s.tb }

/-- An edge of pin GP`pin` triggers the injected sequence of converter `n` (R489). -/
def State.injPin (s : State) (n pin : Nat) (rising : Bool) : Bool :=
  s.b (Regs.AUX_INJ n) 31 && s.f (Regs.AUX_INJ n) 24 4 == pin && s.b (Regs.AUX_INJ n) 30 != rising

/-- Channel numbered by entry `e` of the regular sequence. -/
def State.seqChannel (s : State) (n e : Nat) : Nat :=
  if e < 8 then s.f (Regs.AUX_SEQ0 n) (4 * e) 4 else s.f (Regs.AUX_SEQ1 n) (4 * (e - 8)) 4

/-- The conversion in progress: its channel and whether it is injected. -/
def State.auxCurrent (s : State) (n : Nat) : Option (Nat × Bool) :=
  let x := s.aux n
  match x.inj with
  | some e => some (s.f (Regs.AUX_INJ n) (4 * e) 4, true)
  | none => match x.scan with
    | some e => some (s.seqChannel n e, false)
    | none => none

/-! ### What the device does with a result (R483, R493 to R499) -/

/-- The PVDD value in use in mV: the higher of the latest valid channel-15 codes (R485, R493). -/
def State.pvddInUse (s : State) : Nat :=
  let a := if (s.aux 0).hasPvdd then s.f (Regs.AUX_PVDD 0) 0 12 else 0
  let b := if (s.aux 1).hasPvdd then s.f (Regs.AUX_PVDD 0) 16 12 else 0
  max a b * 28800 / 4096

/-- The self-check of channels 13 and 14 (R483). (Log entry 69: DEDUCED.) -/
def State.auxRef (s : State) (n ch code : Nat) : State :=
  let want := if ch = 13 then 2048 else 1024
  if code + 16 < want ∨ want + 16 < code then
    ((s.setB (Regs.AUX_STAT n) 10 true).event (pgAux n) 3).raiseLocal 0x4A (pgAux n) 0
  else (s.setB (Regs.AUX_STAT n) 10 false).clearFault 0x4A (pgAux n)

/-- The key value of a code (R496): `none` for BAD. -/
def keyOf (code : Nat) (ovr : Bool) : Option Nat :=
  if ovr then some 0
  else if code ≤ 255 then some 1
  else if 691 ≤ code ∧ code ≤ 947 then some 2
  else if 1510 ≤ code ∧ code ≤ 1766 then some 3
  else if 2330 ≤ code ∧ code ≤ 2586 then some 4
  else if 2944 ≤ code ∧ code ≤ 3200 then some 5
  else if 3584 ≤ code then some 0
  else none

/-- A conversion of the key ladder taken at tick `t` (R496). -/
def State.auxKey (s : State) (t code : Nat) (ovr : Bool) : State :=
  let x := s.aux 0
  match keyOf code ovr with
  | none => s.incF (Regs.AUX_KEY 0) 16 8
  | some v =>
    if v = x.key ∧ x.keyCount ≠ 0 then s.setAux 0 { x with keyCount := x.keyCount + 1 }
    else s.setAux 0 { x with key := v, keySince := t, keyCount := 1 }

/-- The decoded value has held over KEY.DEB ms and three conversions and is not KEY.STATE yet (R497). -/
def State.keyDue (s : State) : Bool :=
  let x := s.aux 0
  x.key != s.f (Regs.AUX_KEY 0) 0 3 && decide (3 ≤ x.keyCount)

/-- KEY.STATE takes the value (R497); what the key does is in chapter 25. -/
def State.keyTake (s : State) : State :=
  let x := s.aux 0
  let s := s.reach (x.keySince + s.f (Regs.AUX_KEY 0) 24 8 * tickMs)
  (s.setF (Regs.AUX_KEY 0) 0 3 x.key).event (pgAux 0) 6

/-- An external stage's temperature: sensor `j` of converter `n` (R498). -/
def State.auxTemp (s : State) (n j code : Nat) : State :=
  let x := s.aux n
  let c := 8 + 4 * n + j
  if code ≤ s.f (Regs.AUX_XT_LIM n) 0 12 then
    let k := x.xtLow.get 0 j + 1
    let s := s.setAux n { x with xtLow := x.xtLow.set 0 j k, xtHigh := x.xtHigh.set 0 j 0 }
    if k = 2 then ((s.setB (Regs.AUX_STAT n) j true).event (pgAux n) 7).raiseLocal 0x4C (pgAux n) c else s
  else
    let k := x.xtHigh.get 0 j + 1
    let s := s.setAux n { x with xtHigh := x.xtHigh.set 0 j k, xtLow := x.xtLow.set 0 j 0 }
    if k = 2 then (s.setB (Regs.AUX_STAT n) j false).clearSub 0x4C (pgAux n) c else s

/-- A conversion of the battery's thermistor (R499). -/
def State.auxBatt (s : State) (ovr : Bool) : State :=
  let x := s.aux 0
  if !s.b (Regs.AUX_BATT 0) 31 then s
  else if ovr then
    let s := s.setAux 0 { x with battSet := x.battSet + 1, battClr := 0 }
    if x.battSet = 1 then ((s.setB (Regs.AUX_STAT 0) 12 true).event (pgAux 0) 5).raiseDevice 0x4D (pgAux 0) false else s
  else
    let s := s.setAux 0 { x with battSet := 0, battClr := x.battClr + 1 }
    if x.battClr = 1 then (s.setB (Regs.AUX_STAT 0) 12 false).clearFault 0x4D (pgAux 0) else s

/-- What the device does with a valid conversion (R481, R482). -/
def State.auxUse (s : State) (n ch t code : Nat) (ovr : Bool) : State :=
  if ch = 13 ∨ ch = 14 then s.auxRef n ch code
  else if ch = 15 then
    let s := (s.setF (Regs.AUX_PVDD 0) (16 * n) 12 code).setAux n { s.aux n with hasPvdd := true }
    s.trkReading s.pvddInUse
  else if n = 0 ∧ ch = 1 then s.auxBatt ovr
  else if n = 0 ∧ ch = 2 then s.auxKey t code ovr
  else if n = 0 ∧ 4 ≤ ch ∧ ch < 8 then s.auxTemp 0 (ch - 4) code
  else if n = 1 ∧ ch < 4 then s.auxTemp 1 ch code
  else s

/-- An entry of R491 goes to DATA and the buffer, and the device acts on it; `t` is the sampling instant. OVR goes with the codes 0 and 0xFFF
alone (R485). -/
def State.auxResult (s : State) (n ch t code : Nat) (ovr inj plaus : Bool) : State :=
  let code := min code 0xFFF
  let ovr := ovr && (code == 0 || code == 0xFFF)
  let refnr := !s.b (Regs.AUX_STAT n) 9
  let e := Word.of (t / s.strokeLen % 4096 * 0x100000 + b2n plaus * 0x80000 + b2n inj * 0x40000 + b2n refnr * 0x20000 +
    b2n ovr * 0x10000 + ch * 0x1000 + code)
  let s := s.setW (Regs.AUX_DATA n ch) e
  let size := s.f (Regs.AUX_BUF n) 0 13
  let i := s.f (Regs.AUX_WPTR n) 0 12
  let s := match s.ringBillet (s.f (Regs.AUX_BUF n) 16 10) (i / 16) with
    | none => s
    | some b =>
      let x := s.billet b
      s.setBillet b { x with data := (List.range 16).map fun j => if j = i % 16 then e else x.data.getD j 0 }
  let s := if i + 1 < size then s.setF (Regs.AUX_WPTR n) 0 12 (i + 1)
    else ((s.setF (Regs.AUX_WPTR n) 0 12 0).setF (Regs.AUX_WPTR n) 16 16 (s.f (Regs.AUX_WPTR n) 16 16 + 1)).event (pgAux n) 8
  let s := if ovr then (s.incF (Regs.AUX_EVT n) 0 8).event (pgAux n) 1 else s
  if refnr then s else s.auxUse n ch t code ovr

/-- The sequences move on after a conversion that ended at tick `t` (R488 to R490). -/
def State.auxAdvance (s : State) (n t : Nat) : State :=
  let x := { s.aux n with start := max t (s.aux n).pauseTo }
  if x.stopReq then (s.setAux n x).auxHalt n
  else match x.inj with
  | some e =>
    if e + 1 < s.f (Regs.AUX_CFG n) 8 3 then s.setAux n { x with inj := some (e + 1) }
    else
      let s := s.setAux n { x with inj := none, scanDue := false }
      if x.scanDue then s.auxScan n else s
  | none => match x.scan with
    | none => s.setAux n x
    | some e =>
      if e + 1 < s.f (Regs.AUX_CFG n) 0 5 then s.setAux n { x with scan := some (e + 1) }
      else
        let s := s.setAux n { x with scan := none }
        if s.f (Regs.AUX_CFG n) 12 2 = 0 then s.auxScan n else s

/-- The conversion in progress completes with the code the input gives (R484, R491). (Log entries 8: DESIGN CHOICE, 69: DEDUCED.) -/
def State.auxConversion (s : State) (n code : Nat) (ovr : Bool) : State :=
  match s.auxCurrent n with
  | none => s
  | some (ch, inj) =>
    if !s.awake then s
    else
      let t := (s.aux n).start
      let s := s.reach (t + 96)
      (s.auxResult n ch t code ovr inj false).auxAdvance n (t + 96)

/-- The plausibility action of tick `t` on converter `n`: a conversion in progress ends, and the sequences resume after the pair (R494). -/
def State.auxPause (s : State) (n t : Nat) : State :=
  let x := s.aux n
  s.setAux n { x with pauseTo := t + 192, start := if (s.auxCurrent n).isSome && decide (x.start < t) then x.start else max x.start (t + 192) }

/-- The next plausibility action and its pair of conversions (R494, R495). -/
def State.auxPlaus (s : State) (code0 : Nat) (ovr0 : Bool) (code1 : Nat) (ovr1 : Bool) : State :=
  let p := s.f (Regs.AUX_PLAUS 0) 16 8 * tickMs
  let t := if p = 0 then s.tb else (s.tb / p + 1) * p
  let s := (s.reach t).plausStat
  if s.plausOn then
    let s := (s.auxResult 0 15 (t + 96) code0 ovr0 false true).auxResult 1 15 (t + 96) code1 ovr1 false true
    let s := ((s.auxPause 0 t).auxPause 1 t).reach (t + 192)
    let x := s.aux 0
    let tol := s.f (Regs.AUX_PLAUS 0) 0 8
    let a := min code0 0xFFF
    let b := min code1 0xFFF
    if a + tol < b ∨ b + tol < a then
      let s := s.setAux 0 { x with misses := x.misses + 1 }
      if x.misses = 1 then ((s.setB (Regs.AUX_STAT 0) 11 true).event (pgAux 0) 4).raiseLocal 0x4B (pgAux 0) 0 else s
    else ((s.setAux 0 { x with misses := 0 }).setB (Regs.AUX_STAT 0) 11 false).clearFault 0x4B (pgAux 0)
  else s

end Sys2Proof.Machine
end

