-- ==== Sys2Proof/Machine/TwoWire.lean ====
section
/-!
DEFINITION. The two-wire controller channels, notification, IRQN and the general pins (chapter 19). What TWT and SPIT do with a command is
in `Machine.PortCommands`, after the access path.
-/

namespace Sys2Proof.Machine

/-- Page of TWCn. -/
def pgTwc (n : Nat) : Nat := 0x77 + n
/-- TWT's page. -/
def pgTwt : Nat := 0x76
/-- SPIT's page. -/
def pgSpit : Nat := 0x7A
/-- QSPI's page. -/
def pgQspi : Nat := 0x7B

/-- The level of QSPI_CSN: QSPI.CS drives it low, and it is held high while EN is 0 (R50, R529). -/
def State.qspiCsn (s : State) : Bool := !(s.en pgQspi && s.b Regs.QSPI_CS 0)

/-! ### Interrupt summary (R54, R506, R530) -/

/-- The page signals: a pending cause is enabled. -/
def State.signals (s : State) (p : Nat) : Bool := (s.w (Regs.IRQ_PEND p) &&& s.w (Regs.IRQ_EN p)) != 0

/-- The pages that signal, lowest first. -/
def State.signalling (s : State) : List Nat := (List.range 256).filter fun p => (pageKind p).isSome && s.signals p

/-- IRQ.FIRST. -/
def State.irqFirst (s : State) : Word :=
  let l := s.signalling
  Word.of (satU 255 l.length * 65536 + l.headD 0xFF)

/-- IRQ.SUMw. -/
def State.irqSum (s : State) (i : Nat) : Word := Word.of (maskOf ((List.range 32).filter fun b => s.signalling.contains (32 * i + b)))

/-- IRQN is driven low (R530, R615). -/
def State.irqnLow (s : State) : Bool :=
  s.awake && !s.power.vioLost && s.b Regs.IRQ_CTRL 0 && !s.signalling.isEmpty

/-! ### Check bytes (R507, R526) -/

/-- One byte of the CRC-8 with polynomial x^8 + x^2 + x + 1. (Log entry 9: DESIGN CHOICE.) -/
def crc8 (c b : Nat) : Nat :=
  (List.range 8).foldl (fun c _ => if 128 ≤ c then (c * 2 % 256) ^^^ 7 else c * 2) ((c ^^^ b) % 256)

/-! ### The controller channels (R515 to R520) -/

/-- Channel `n`. -/
def State.twc (s : State) (n : Nat) : Twc := s.twcs.get {} n

/-- `s` with it replaced; STAT shows the free operations, the receive level and BUSY. -/
def State.setTwc (s : State) (n : Nat) (x : Twc) : State :=
  let s := { s with twcs := s.twcs.set {} n x }
  ((s.setF (Regs.TWC_STAT n) 20 4 (8 - x.ops.length)).setF (Regs.TWC_STAT n) 16 4 x.rx.length).setB (Regs.TWC_STAT n) 0
    (x.opened || !x.ops.isEmpty)

/-- A write of TWCn.OP: refused while the queue is full; one that a failure discards is taken and dropped (R516, R517). -/
def State.twcPush (s : State) (n : Nat) (v : Word) : State :=
  let x := s.twc n
  let op : TwcOp := { kind := bits v 10 2, pec := bit v 9, last := bit v 8, data := bits v 0 8 }
  if x.discard then s.setTwc n { x with discard := op.kind != 3 } else s.setTwc n { x with ops := x.ops ++ [op] }

/-- The queue has room (R516); a channel of an ORPHAN device accepts no more (R564). -/
def State.twcRoom (s : State) (n : Nat) : Bool := decide ((s.twc n).ops.length < 8) && !s.pair.orphan

/-- The transaction ends with a result; DONE is raised (R517). -/
def State.twcEnd (s : State) (n res : Nat) : State := (s.setF (Regs.TWC_STAT n) 4 4 res).event (pgTwc n) 0

/-- Operations after a failure, up to and including the next STOP, are discarded. -/
def dropToStop : List TwcOp → List TwcOp × Bool
  | [] => ([], true)
  | o :: t => if o.kind = 3 then (t, false) else dropToStop t

/-- The transaction fails (R517 to R519). -/
def State.twcFail (s : State) (n res : Nat) : State :=
  let x := s.twc n
  let d := dropToStop x.ops
  let s := s.setTwc n { x with ops := d.1, opened := false, discard := d.2 }
  let s := (s.twcEnd n res).event (pgTwc n) 1
  let k := Regs.TWC_EVT n
  if res = 1 ∨ res = 2 then s.incF k 24 8
  else if res = 3 then s.incF k 16 8
  else if res = 7 then s.incF k 0 8
  else s

/-- The bus was recovered before a START: EVT.RECOV and cause RECOV (R518, R519). -/
def State.twcRecovered (s : State) (n : Nat) : State := (s.incF (Regs.TWC_EVT n) 8 8).event (pgTwc n) 2

/-- What the bus did with an operation: 0 it went through, 1 its byte was not acknowledged, 2 arbitration was lost, 3 SDA stayed low after
the recovery; `recov` says that the recovery of R518 ran; `byte` is the byte received. The oldest operation completes or fails (R516 to
R518). A READ waits while the receive queue is full, TWC0's first START for the tracker's message (R520), and all while EN is 0.
(Log entry 97: DEDUCED.) -/
def State.twcDone (s : State) (n res byte : Nat) (recov : Bool) : State :=
  let x := s.twc n
  match x.ops with
  | [] => s
  | op :: rest =>
    if s.en (pgTwc n) = false then s
    else if op.kind = 2 ∧ 8 ≤ x.rx.length then s
    else if op.kind = 0 ∧ n = 0 ∧ x.opened = false ∧ s.trk.sending.isSome then s
    else
      let s := if recov && op.kind == 0 && n != 2 then s.twcRecovered n else s
      let y := { x with ops := rest }
      let s := s.setTwc n y
      if op.kind = 3 then (s.setTwc n { y with opened := false }).twcEnd n 0
      else if res = 3 then s.twcFail n 5
      else if res = 2 then s.twcFail n 3
      else if res = 1 ∧ op.kind ≠ 2 then s.twcFail n (if op.kind = 0 then 1 else 2)
      else match op.kind with
        | 0 => s.setTwc n { y with opened := true, crc := crc8 0 op.data }
        | 1 =>
          let b := if op.pec then y.crc else op.data
          s.setTwc n { y with crc := crc8 y.crc b }
        | _ =>
          let b := byte % 256
          let s := s.setTwc n { y with rx := y.rx ++ [b], crc := crc8 y.crc b }
          if op.pec && b != y.crc then s.twcFail n 6 else s

/-- A read of RXD pops the oldest byte (R516). -/
def State.twcPop (s : State) (n : Nat) : Word × State :=
  let x := s.twc n
  match x.rx with
  | [] => (0, s)
  | b :: t => (Word.of (256 + b), s.setTwc n { x with rx := t })

/-- An open transaction has paused for 1 ms: a stop and ABANDONED (R517). -/
def State.twcAbandon (s : State) (n : Nat) : State :=
  let x := s.twc n
  let stalled := x.ops.isEmpty || (decide (8 ≤ x.rx.length) && (x.ops.headD { kind := 0, pec := false, last := false, data := 0 }).kind == 2)
  if x.opened && stalled then (s.reach (s.tb + tickMs)).twcFail n 7 else s

/-- A low-time timeout on TWC2, and its recovery (R519). -/
def State.twcTimeout (s : State) : State :=
  if (s.twc 2).opened || !(s.twc 2).ops.isEmpty then (s.twcFail 2 4).twcRecovered 2 else s

/-! ### Notification (R513, R514) -/

/-- The device may send a notify message. -/
def State.notifyDue (s : State) : Bool :=
  s.awake && !s.power.vioLost && s.b Regs.TWT_NOTIFY 31 && s.b Regs.TWT_NOTIFY 30 && !s.signalling.isEmpty

/-- The bytes of the notify message (R513). -/
def State.notifyBytes (s : State) : List (BitVec 8) :=
  let l := [2 * s.f Regs.TWT_NOTIFY 0 7, 2 * s.f Regs.TWT_STAT 8 7, bits s.irqFirst 0 8, bits s.irqFirst 16 8]
  (l ++ [l.foldl crc8 0]).map fun x => BitVec.ofNat 8 x

/-- A notify message ends: 0 acknowledged whole, 1 not acknowledged, 2 arbitration lost. After one that was not acknowledged the next comes
after at least 1 ms. -/
def State.notifySend (s : State) (res : Nat) : State :=
  if s.notifyDue then
    let s := s.reach s.wire.notifyAt
    let s : State := { s with wire := { s.wire with notifyOut := s.notifyBytes, notifyAt := if res = 1 then s.tb + tickMs else 0 } }
    match res with
    | 0 => (s.setB Regs.TWT_NOTIFY 30 false).event pgTwt 5
    | 1 => (s.incF Regs.TWT_EVT2 8 8).event pgTwt 6
    | _ => s.incF Regs.TWT_EVT2 0 8
  else s

/-! ### General pins (R531, R532) -/

/-- GPIO's words as the pins have them: in sleep those that the pins hold (R532). -/
def State.gpHold (s : State) : GpHold := s.power.gpHeld.getD s.gpWords

/-- Function of pin GPp. -/
def State.gpFunc (s : State) (p : Nat) : Nat := bits (if p < 8 then s.gpHold.func0 else s.gpHold.func1) (4 * (p % 8)) 4

/-- Pull of pin GPp: 0 none, 1 down, 2 up. -/
def State.gpPull (s : State) (p : Nat) : Nat := bits s.gpHold.pull (2 * p) 2

/-- Pad level of GPp where the device itself sets it: outputs, STROKE; `none` for an input, a released open drain and the running clock.
Every pin of an ORPHAN device is an input (R564). -/
def State.gpLevel (s : State) (p : Nat) : Option Bool :=
  match if s.pair.orphan then 0 else s.gpFunc p with
  | 1 => some (bit s.gpHold.out p)
  | 2 => if bit s.gpHold.out p then none else some false
  | 3 => some (s.forging && decide (s.tb % s.strokeLen < s.sampleTicks))
  | 4 => if s.awake then none else some false
  | _ => none

/-- GPIO.IN: the pads; a level that comes from outside is a free value. -/
def State.gpioIn (s : State) : Word :=
  let free := (Config.freeWord s.free).toNat
  Word.of (maskOf ((List.range 16).filter fun p => match s.gpLevel p with | some v => v | none => free.testBit p))

/-- GPIO_SET and GPIO_CLR actions (R532). -/
def State.gpioAct (s : State) (mask : Nat) (v : Bool) : State :=
  (setBitsOf 16 mask).foldl (fun s p => s.setB Regs.GPIO_OUT p v) s

end Sys2Proof.Machine
end

