-- ==== Sys2Proof/Machine/Secure.lean ====
section
/-!
DEFINITION. Authentication, the OTP and the life cycle, Stock access through SPIT, and the image loader's checks and direct writes
(chapter 21). The end of a session and the loader's welds are in `Machine.Session`.
-/

namespace Sys2Proof.Machine

/-- SEC's page. -/
def pgSec : Nat := 0x0A
/-- OTP's page. -/
def pgOtp : Nat := 0x0B
/-- IMG's page. -/
def pgImg : Nat := 0x0C

/-- Life-cycle codes of SEC.LC.STATE: BLANK. -/
def lcBlank : Nat := 0
/-- OWNED. -/
def lcOwned : Nat := 1
/-- FIELD. -/
def lcField : Nat := 2
/-- RETURNED. -/
def lcReturned : Nat := 3

/-- SEC.LC.STATE. -/
def State.lc (s : State) : Nat := s.f Regs.SEC_LC 0 3

/-- OTP word `i`. -/
def State.otp (s : State) (i : Nat) : Word := s.w (otpKey i)

/-- A lock of OTP word 0x042 is in force: only in FIELD (R575). -/
def State.ownerLock (s : State) (i : Nat) : Bool := s.b Regs.SEC_LC (8 + i)

/-! ### Challenges and checks (R569, R577) -/

/-- RESULT of SEC.AUTH for master `m`. -/
def State.authResult (s : State) (m : Master) (r : Nat) : State := s.setF (perKey m Regs.SEC_AUTH) 4 4 r

/-- The challenge of master `m` is consumed: CHAL reads 0, and what it has unlocked of TEST so far lapses (R577). -/
def State.dropChal (s : State) (m : Master) : State :=
  let s := { s with sec := { s.sec with
    chal := s.sec.chal.filter (· != masterNum m)
    vendorOk := s.sec.vendorOk && decide (m ≠ Master.jtag)
    ownerOk := s.sec.ownerOk && decide (m ≠ Master.jtag) } }
  s.setWs ((List.range 4).map fun i => (perKey m (Regs.SEC_CHAL i), 0))

/-- AUTH.NEW draws a fresh 128-bit challenge for the writing master. -/
def State.newChal (s : State) (m : Master) : State :=
  let s := s.dropChal m
  let s := { s with sec := { s.sec with chal := s.sec.chal ++ [masterNum m] } }
  (List.range 4).foldl (fun s i => (s.setW (perKey m (Regs.SEC_CHAL i)) (Config.freeWord s.free)).tickFree) s

/-- The request `req` is allowed for that port in this life cycle (R569, R577): an owner session on a port outside BLANK, where the ports
act as OWNER already; the parts of a TEST unlock on JTAG. -/
def State.authAllowed (s : State) (m : Master) (req : Nat) : Bool :=
  match m with
  | .twt => req == 1 && s.lc != lcBlank
  | .spit => req == 1 && s.lc != lcBlank
  | .jtag => (req == 2 && s.lc != lcField) || (req == 3 && (s.lc == lcOwned || s.lc == lcReturned))
  | _ => false

/-- The master waits out the second after a failed check. -/
def State.authWaits (s : State) (m : Master) : Bool :=
  match s.sec.failAt.get none (masterNum m) with
  | none => false
  | some t => decide (s.tb < t + 98304000)

/-- AUTH.REQ starts a check (R569, R577). An owner-session request consumes the challenge whatever becomes of it. -/
def State.authRequest (s : State) (m : Master) (req : Nat) : State :=
  let held := s.sec.chal.contains (masterNum m)
  let s := if req = 1 then s.dropChal m else s
  if !s.authAllowed m req then s.authResult m 4
  else if req = 1 ∧ s.ownerLock 0 then s.authResult m 5
  else if s.authWaits m then s.authResult m 6
  else if held = false then s.authResult m 3
  else { s with sec := { s.sec with runs := s.sec.runs.put (masterNum m) req } }.authResult m 0

/-- Bit of SEC.LC that shows a port's owner session. -/
def sessBit : Master → Nat
  | .spit => 5
  | _ => 4

/-- A check ends (R569, R577). (Log entries 9: DESIGN CHOICE, 25: DESIGN CHOICE.) -/
def State.authDone (s : State) (m : Master) (good : Bool) : State :=
  match s.sec.runs.find (masterNum m) with
  | none => s
  | some req =>
    let s := { s with sec := { s.sec with runs := s.sec.runs.del (masterNum m) } }
    if good then
      let s := s.authResult m 1
      if req = 1 then
        (s.setB Regs.SEC_LC (sessBit m) true).incF Regs.SEC_EVT 0 8
      else
        let v := s.sec.vendorOk || req == 2
        let o := s.sec.ownerOk || req == 3
        let s := { s with sec := { s.sec with vendorOk := v, ownerOk := o } }
        if v && (o || s.lc == lcBlank) then (s.setB Regs.SEC_LC 15 true).dropChal m else s
    else
      let s := { s with sec := { s.sec with failAt := s.sec.failAt.set none (masterNum m) (some s.tb) } }
      (((s.authResult m 2).dropChal m).incF Regs.SEC_EVT 8 8).event pgSec 0

/-! ### The OTP (R574, R584) -/

/-- Domain `d` may program OTP word `i` (R574). -/
def State.otpProgOk (s : State) (d : Domain) (i : Nat) : Bool :=
  decide (d = .owner) &&
    ((i == 0x042 && (s.lc == lcBlank || s.lc == lcOwned)) ||
      ((decide (0x048 ≤ i ∧ i < 0x058)) && s.lc == lcBlank) ||
      (decide (0x060 ≤ i ∧ i < 0x200) && (s.lc == lcBlank || s.lc == lcOwned)))

/-- OTP.DATA as domain `d` reads word `i` (R574). -/
def State.otpRead (s : State) (d : Domain) (i : Nat) : Word :=
  if 0x008 ≤ i ∧ i < 0x040 then (if d = .owner ∨ d = .test then s.otp i else 0)
  else if 0x040 ≤ i ∧ i < 0x043 then s.otp i
  else if 0x048 ≤ i ∧ i < 0x050 then s.otp i
  else if 0x060 ≤ i ∧ i < 0x200 then (if d = .owner then s.otp i else 0)
  else 0

/-- `s` with the bits of `v` set in OTP word `i`. -/
def State.otpSet (s : State) (i : Nat) (v : Word) : State := s.setW (otpKey i) (s.otp i ||| v)

/-- OTP.PROG starts programming (R574). -/
def State.otpProgram (s : State) (i : Nat) (v : Word) : State :=
  ({ s with sec := { s.sec with otpProg := some (i, if i = 0x042 then v &&& 7 else v) } }).setB Regs.OTP_STAT 0 true

/-- Programming ends; on a failed check some of the bits have been set. -/
def State.otpProgDone (s : State) (ok : Bool) : State :=
  match s.sec.otpProg with
  | none => s
  | some (i, v) =>
    let s := ({ s with sec := { s.sec with otpProg := none } }).setB Regs.OTP_STAT 0 false
    if ok then s.otpSet i v
    else ((s.otpSet i (v &&& Config.freeWord s.free)).tickFree).setB Regs.OTP_STAT 1 true

/-- An OWNER write of SEC.RB that advances the counter (R584). -/
def State.rbOk (s : State) (v : Nat) : Bool := decide (s.f Regs.SEC_RB 0 6 < v) && decide (v ≤ s.f Regs.SEC_RB 8 6)

/-- The thermometer is programmed up to `v`. -/
def State.rbAdvance (s : State) (v : Nat) : State :=
  (s.otpSet 0x041 (Word.of (2 ^ v - 1))).setF Regs.SEC_RB 0 6 v

/-! ### The life cycle (R575, R576) -/

/-- A key row is programmed: neither all zeros nor all ones. -/
def State.keyProgrammed (s : State) (lo : Nat) : Bool :=
  let l := (List.range 8).map fun i => s.otp (lo + i)
  (l.any (· != 0)) && (l.any (· != 0xFFFFFFFF))

/-- A life-cycle request to state `to` is accepted (R575). -/
def State.lcOk (s : State) (dest : Nat) : Bool :=
  s.f Regs.IMG_STAT 24 4 == 0 &&
    ((dest == lcOwned && s.lc == lcBlank && s.keyProgrammed 0x048 && s.keyProgrammed 0x050) ||
      (dest == lcField && s.lc == lcOwned) ||
      (dest == lcReturned && (s.lc == lcOwned || s.lc == lcField)))

/-- SEC.LC and the locks follow the OTP; the sessions and TEST_OPEN stand. -/
def State.lcFollow (s : State) : State :=
  let v := lcWord (s.otp 0x040) (s.otp 0x042)
  ((s.setF Regs.SEC_LC 0 3 (bits v 0 3)).setF Regs.SEC_LC 8 3 (bits v 8 3)).event pgSec 1

/-- The sequence of R576: the owner's secrets go, and the device resets. What the reset itself clears is left to it. -/
def State.returnDevice (s : State) : State :=
  let s := s.otpSet 0x040 4
  let s := (List.range 8).foldl (fun s i => s.otpSet (0x050 + i) 0xFFFFFFFF) s.quench
  (s.otpSet 0x040 8).deviceReset 4 true

/-! ### Stock access through SPIT (R527, R568, R572) -/

/-- A queue whose billets read as OWNER (R572): bound for a stage, a port or the partner, or made by a finishing chain. -/
def Queue.ownerBound (x : Queue) (dirOut : Nat → Bool) : Bool :=
  let cu := x.consumer / 256
  let cs := x.consumer % 256
  let pu := x.producer / 256
  decide (0x48 ≤ cu ∧ cu < 0x59) || cu == 0x09 || (decide (0x10 ≤ cu ∧ cu < 0x16) && decide (cs < 16)) || cu == 0x7C ||
    (decide (0x18 ≤ cu ∧ cu < 0x24) && dirOut (cu - 0x18)) || decide (0x48 ≤ pu ∧ pu < 0x59)

/-- The billet's domain as a Stock access sees it. -/
def State.billetDomain (s : State) (b : Nat) : Nat :=
  match s.own b with
  | none => (s.billet b).tag.domain
  | some o =>
    if (s.queue o.queue).ownerBound (fun n => s.b (Regs.ASRC_CFG n) 0) then 0
    else if (s.w Regs.PAIR_MIRQ).toNat % 1024 = o.queue ∧ s.f Regs.PAIR_STAT 0 4 ≠ 0 then 0
    else match o.loc with
      | .waiting => (s.billet b).tag.domain
      | _ => (s.queue o.queue).domain

/-- Domain `d` may read and write that billet through SPIT (the matrix of R568). -/
def State.stockOk (s : State) (d : Domain) (b : Nat) : Bool :=
  match d with
  | .owner => true
  | .host => !s.ownerLock 2 && s.billetDomain b != 0
  | _ => false

/-- A Stock read of the word at word address `a` of the Stock: the value and the machine with a refusal counted. -/
def State.stockRead (s : State) (d : Domain) (a : Nat) : Word × State :=
  let b := a / 16
  if s.isFree b || s.stock.quar.contains b then (0, s)
  else if s.stockOk d b then ((s.billet b).data.getD (a % 16) 0, s)
  else (0, s.violation d 0x06 0 false)

/-- A Stock write of one byte at byte address `a`. -/
def State.stockWrite (s : State) (d : Domain) (a : Nat) (v : BitVec 8) : State :=
  let b := a / 64
  if s.isFree b || s.stock.quar.contains b then s
  else if s.stockOk d b then
    let x := s.billet b
    let k := a % 64 / 4
    let w := putBits (x.data.getD k 0) (8 * (a % 4)) 8 v.toNat
    s.setBillet b { x with data := (List.range (max x.data.length (k + 1))).map fun j => if j = k then w else x.data.getD j 0 }
  else s.violation d 0x06 0 true

/-! ### The image loader (R580 to R583) -/

/-- A LOAD is accepted: IDLE (R580). -/
def State.loadOk (s : State) : Bool := s.f Regs.IMG_STAT 24 4 == 0

/-- A load begins. -/
def State.loadStart (s : State) (boot : Bool) : State :=
  ({ s with img := { s.img with boot := boot } }).setF Regs.IMG_STAT 24 4 1

/-- A load ends with `result` and the failing section. (Log entry 77: DEDUCED.) -/
def State.loadEnd (s : State) (result index : Nat) : State :=
  let s := { s with img := { s.img with lists := [], gos := [], weld := none, boot := false, ty := 0 } }
  (((s.setF Regs.IMG_STAT 28 4 result).setF Regs.IMG_STAT 24 4 0).setF Regs.IMG_STAT 16 8 index).event pgImg 0

/-- The source holds the image: any part of the flash, or a RING queue of the loader's with room for it (R580, R581). -/
def State.sourceOk (s : State) (len : Nat) : Bool :=
  if s.b Regs.IMG_SRC 31 then
    let x := s.queue (s.f Regs.IMG_SRC 0 10)
    x.on && x.isRing && x.producer == 0x0C00 && x.consumer == 0x0C00 && decide (len ≤ 64 * x.depth)
  else true

/-- Check 7 of R581 for one section. -/
def sectionOk (ty : Nat) (x : Section) : Bool :=
  between1to (if ty = 2 then 4 else 7) x.kind &&
    (match x.kind with
     | 1 => decide (x.target < 64) && decide (x.addr + x.words.length ≤ 2048)
     | 2 => decide (x.target < 64) && x.addr % 4 == 0 && decide (x.addr + 4 * x.words.length ≤ 0x4000)
     | 3 => decide (x.target < 64) && x.words.isEmpty
     | 7 => true
     | _ => x.words.length % 2 == 0)
where
  /-- From 1 to `hi`. -/
  between1to (hi v : Nat) : Bool := decide (1 ≤ v) && decide (v ≤ hi)

/-- Check 8 of R581 for one section. -/
def State.targetOk (s : State) (x : Section) : Bool :=
  if x.kind ≤ 3 then s.anvState x.target == anEmpty || s.anvState x.target == anHalted
  else if x.kind = 7 then s.img.boot || !s.en pgTongs
  else true

/-- The index of the first section that fails `p`. -/
def failIndex (p : Section → Bool) (l : List Section) : Option Nat :=
  ((List.range l.length).zip l).findSome? fun x => if p x.2 then none else some x.1

/-- The checks of R581 in order: the RESULT and INDEX of the first that fails. -/
def State.imageFail (s : State) (g : Image) : Option (Nat × Nat) :=
  let st := s.lc
  let hostKey := (List.range 8).map fun i => s.w (Regs.SEC_HOSTKEY i)
  let mark := (List.range 8).map fun i => s.otp (0x048 + i)
  let open_ := st == lcOwned || st == lcField
  if !(g.formatOk && decide (192 ≤ g.length) && decide (g.length ≤ 2097152) && s.sourceOk g.length && !g.sections.isEmpty &&
      decide (g.sections.length ≤ 255)) then some (2, 0)
  else if !((g.ty == 1 && open_) || (g.ty == 2 && open_ && hostKey.any (· != 0) && !s.ownerLock 1)) then some (3, 0)
  else if g.keyHash ≠ (if g.ty = 1 then mark else hostKey) then some (4, 0)
  else if g.sigOk = false then some (5, 0)
  else if g.rollback < s.f Regs.SEC_RB 0 6 then some (6, 0)
  else if g.ty = 1 ∧ g.tagOk = false then some (7, 0)
  else match failIndex (sectionOk g.ty) g.sections with
    | some i => some (8, i)
    | none => match failIndex s.targetOk g.sections with
      | some i => some (9, i)
      | none => none

/-- Register-list words as entries: byte address and value. -/
def entriesOf : List Word → List KeyVal
  | a :: v :: t => (a.toNat % 0x40000, v) :: entriesOf t
  | _ => []

/-- A list cut into pieces of 2,048 entries; the empty list is one empty piece (R579, R583). -/
def piecesOf : Nat → List KeyVal → List (List KeyVal)
  | 0, l => [l]
  | n + 1, l => if l.length ≤ 2048 then [l] else l.take 2048 :: piecesOf n (l.drop 2048)

/-- Steps 1 to 3 of R582 for one section. (Log entry 77: DEDUCED.) -/
def State.applySection (s : State) (ty : Nat) (x : Section) : State :=
  let n := x.target
  let loaded := fun (s : State) =>
    ((s.setF (Regs.ANV_STAT n) 30 2 (ty - 1)).setAnvState n anHalted).setB (Regs.ANV_STAT n) 29 false
  match x.kind with
  | 1 => loaded (s.setWs (((List.range x.words.length).zip x.words).map fun y => (codeKey n (x.addr + y.1), y.2)))
  | 2 => loaded (s.setWs (((List.range x.words.length).zip x.words).map fun y => (dataKey n (x.addr / 4 + y.1), y.2)))
  | 3 =>
    let s := (s.setF (Regs.ANV_ENTRY n) 0 11 x.addr).setB (Regs.ANV_MODE n) 0 (x.flags.testBit 0)
    if x.flags.testBit 1 then { s with img := { s.img with gos := s.img.gos ++ [n] } } else s
  | 5 => { s with img := { s.img with pairList := s.img.pairList ++ entriesOf x.words } }
  | 6 => { s with img := { s.img with soloList := s.img.soloList ++ entriesOf x.words } }
  | 7 => s.setB Regs.TONGS_STAT 8 true
  | _ => s

/-- The register lists of an image as the welds that will apply them, with their section's index. -/
def listsOf (l : List Section) : List (Nat × List KeyVal) :=
  ((List.range l.length).zip l).flatMap fun x =>
    if x.2.kind = 4 then (piecesOf (x.2.words.length / 4096 + 1) (entriesOf x.2.words)).map fun p => (x.1, p) else []

/-- The checks end: the load fails, or steps 1 to 3 of R582 run and the register lists follow (R581, R582). -/
def State.imageVerified (s : State) (g : Image) : State :=
  if s.f Regs.IMG_STAT 24 4 = 1 then
    match s.imageFail g with
    | some (r, i) => s.loadEnd r i
    | none =>
      let s := { s with img := { s.img with
        ty := g.ty, rollback := g.rollback, length := g.length, lists := listsOf g.sections, gos := [], weld := none
        pairList := if g.sections.any (fun x => x.kind == 5) then [] else s.img.pairList
        soloList := if g.sections.any (fun x => x.kind == 6) then [] else s.img.soloList } }
      (g.sections.foldl (fun s x => s.applySection g.ty x) s).setF Regs.IMG_STAT 24 4 2
  else s

/-- Step 5 of R582: GO, RESULT OK and IMG.LAST; an OWNER image raises ALLOWED (R584). -/
def State.imageDone (s : State) : State :=
  let g := s.img
  let s := g.gos.foldl (fun s n => if s.anvCmdOk n 1 then s.anvGo n else s) s
  let s := s.setW Regs.IMG_LAST (Word.of (g.ty % 4 * 0x40000000 + g.rollback % 64 * 0x1000000 + g.length % 0x400000))
  let s := if g.ty = 1 then s.setF Regs.SEC_RB 8 6 (max (s.f Regs.SEC_RB 8 6) g.rollback) else s
  s.loadEnd 1 0

end Sys2Proof.Machine
end

