-- ==== Sys2Proof/Machine/Clocks.lean ====
section
/-!
DEFINITION. The 210 clock domains (R96 to R99): where each may run, what requests it, and how it starts and stops. A domain runs while it
is requested; `Power.clkOn` lists those that an access or a request has started and that have not yet stopped.
-/

namespace Sys2Proof.Machine

/-! ### Pages and domains (R96) -/

/-- The page whose CLKREQ holds domain `d` running. -/
def domainPage (d : Nat) : Option Nat :=
  if d < 64 then some (0x80 + d)
  else if d < 72 then some (0xC0 + (d - 64))
  else if d < 88 then some 0x06
  else if d < 96 then some (0x60 + (d - 88))
  else if d < 104 then some (0x68 + (d - 96))
  else if d < 136 then some 0x70
  else if d < 148 then some (0x10 + (d - 136) / 2)
  else if d < 152 then some 0x16
  else if d < 160 then some 0x24
  else if d < 164 then some 0x26
  else if d < 166 then some 0x27
  else if d < 190 then some (0x18 + (d - 166) / 2)
  else if d = 190 then some 0x17
  else if d < 193 then some (0x74 + (d - 191))
  else if d = 193 then some 0x76
  else if d < 197 then some (0x77 + (d - 194))
  else if d = 197 then some 0x7A
  else if d < 200 then some 0x7C
  else if d = 200 then some 0x72
  else if d = 201 then some 0x04
  else if d = 202 then some 0x05
  else if d = 203 then some 0x0A
  else if d = 204 then some 0x02
  else if d = 205 then some 0x07
  else if d = 208 then some 0x0E
  else none

/-- `n` domains from `d` on. -/
def domainsFrom (d n : Nat) : List Nat := (List.range n).map (d + ·)

/-- The domains of page `p`, rising; a page without one runs with the control fabric. -/
def pageDomains (p : Nat) : List Nat :=
  if 0x80 ≤ p ∧ p < 0xC0 then [p - 0x80]
  else if 0xC0 ≤ p ∧ p < 0xC8 then [64 + (p - 0xC0)]
  else if 0x60 ≤ p ∧ p < 0x70 then [88 + (p - 0x60)]
  else if 0x10 ≤ p ∧ p < 0x16 then domainsFrom (136 + 2 * (p - 0x10)) 2
  else if 0x18 ≤ p ∧ p < 0x24 then domainsFrom (166 + 2 * (p - 0x18)) 2
  else match p with
    | 0x06 => domainsFrom 72 16
    | 0x70 => domainsFrom 104 32
    | 0x16 => domainsFrom 148 4
    | 0x24 => domainsFrom 152 8
    | 0x26 => domainsFrom 160 4
    | 0x27 => [164, 165]
    | 0x17 => [190]
    | 0x74 => [191]
    | 0x75 => [192]
    | 0x76 => [193]
    | 0x77 => [194]
    | 0x78 => [195]
    | 0x79 => [196]
    | 0x7A => [197]
    | 0x7C => [198, 199]
    | 0x72 => [200]
    | 0x04 => [201]
    | 0x05 => [202]
    | 0x0A => [203]
    | 0x02 => [204]
    | 0x07 => [205]
    | 0x0E => [208]
    | _ => []

/-! ### Where a domain may run (R98) -/

/-- The domain of the listener's microphone: an analogue input's, or its PDM interface's (R72). -/
def State.listenDomain (s : State) : Nat :=
  let k := s.f Regs.WAKE_CTRL 0 4
  if k < 8 then 152 + k else 148 + (k - 8) / 2

/-- The domains that may run in the present state (R98); the link's never on a device strapped SINGLE (R533). EMBER's are those of R72: ANV63, WAKE.MIC's path, the slab that holds the history,
and TWT. -/
def State.domainAllowed (s : State) (d : Nat) : Bool :=
  if s.power.cold then false
  else if d = 204 then true
  else if (d = 198 ∨ d = 199) ∧ s.f Regs.PAIR_STAT 30 2 = 0 then false
  else if s.awake then decide (d < 210)
  else if s.inEmber then d == 63 || d == s.listenDomain || d == 72 + (s.queue (s.f Regs.WAKE_QA 16 10)).slab || d == 193
  else false

/-! ### Requests (R97, R119) -/

/-- Work is queued for the unit of domain `d`. (Log entry 85: DEDUCED.) -/
def State.domainWork (s : State) (d : Nat) : Bool :=
  if d < 64 then s.anvRuns d
  else if d < 72 then (List.range 8).any fun i => s.anvRuns (8 * (d - 64) + i)
  else if d < 88 then s.stock.own.any fun x => slabOf x.1 == d - 72 && x.2.loc != .waiting && !(match x.2.loc with | .ring _ => true | _ => false)
  else if d < 104 then !([chStopped, chLatched, chSlave].contains (s.chState (d - 88)))
  else if d < 136 then !([chStopped, chLatched, chSlave].contains (s.chState ((d - 104) / 2)))
  else if d < 148 then s.sapState ((d - 136) / 2) ((d - 136) % 2 == 1) != 0
  else if d < 152 then
    let k := 8 + 2 * (d - 148)
    (List.range 2).any fun i => (s.capt (k + i)).on || (s.capt (16 + k + i)).on
  else if d < 160 then (s.capt (d - 152)).on || (s.capt (16 + (d - 152))).on
  else if d < 164 then (s.capt (32 + (d - 160))).on
  else if d < 166 then s.hpoState != 0
  else if d < 190 then s.en (0x18 + (d - 166) / 2)
  else if d = 190 then s.spdifState != 0
  else if d < 193 then s.auxRuns (d - 191)
  else if d = 193 ∨ d = 197 then false
  else if d < 197 then !((s.twcs.get {} (d - 194)).ops.isEmpty)
  else if d < 200 then s.f Regs.VHK_STAT 0 4 != 0
  else if d = 200 then s.en 0x72
  else if d = 202 then !s.weld.welds.isEmpty || !s.weld.cmdq.isEmpty
  else if d = 203 then !s.sec.runs.isEmpty || s.sec.otpProg.isSome
  else if d = 205 then s.stock.rebuilding || s.stock.auditReq
  else if d = 208 then s.tst.loop.isSome
  else false

/-- The domains of the units that an action names, by its kind and payload (R116). -/
def actionDomains (kind : Nat) (payload : Word) : List Nat :=
  let l := setBitsOf 20 payload.toNat
  match kind with
  | 1 | 2 => l.flatMap fun i =>
      if i < 6 then [136 + 2 * i] else if i < 14 then [137 + 2 * (i - 8)] else if i = 16 then domainsFrom 148 4 else if i = 17 then [190]
      else if i = 18 then domainsFrom 160 4 else [164, 165]
  | 3 | 4 | 5 => l.map (88 + ·)
  | 6 => [202]
  | 7 => l.map (191 + ·)
  | 11 => [208]
  | _ => []

/-- A scheduler action aimed at domain `d` is due within 256 ticks (R119). -/
def State.domainAimed (s : State) (d : Nat) : Bool :=
  s.sched.any fun e => !e.fired && decide ((if e.boundary then s.boundaryTick e.time else e.time) ≤ s.tb + 256) &&
    (actionDomains e.kind e.payload).contains d

/-- PG_CTRL.CLKREQ of the domain's page. -/
def State.domainHeld (s : State) (d : Nat) : Bool :=
  match domainPage d with
  | some p => s.b (Regs.PG_CTRL p) 1
  | none => false

/-- The audio domains of R76: modulators, senses, ports, PDM, analogue inputs and outputs, rate conversion and the receiver. What is queued
for them waits in WARM (R72). (Log entry 24: DEDUCED.) -/
def audioDomain (d : Nat) : Bool := decide (88 ≤ d ∧ d ≤ 190)

/-- Domain `d` is requested (R97). -/
def State.domainRequested (s : State) (d : Nat) : Bool :=
  (s.domainWork d && (s.forging || !audioDomain d)) || s.domainHeld d || s.domainAimed d

/-- Domains 204, and in WARM and FORGING 201 and 209, always run (R98). -/
def State.domainAlways (s : State) (d : Nat) : Bool := d == 204 || ((d == 201 || d == 209) && s.awake)

/-- A domain runs: always, while it is requested, or until it stops after a request (R97, R98). -/
def State.domainOn (s : State) (d : Nat) : Bool :=
  s.domainAllowed d && (s.domainAlways d || s.domainRequested d || s.power.clkOn.contains d)

/-! ### Starts and stops (R52, R97) -/

/-- The clock of domain `d` has started. -/
def State.clockOn (s : State) (d : Nat) : State :=
  if s.power.clkOn.contains d then s else { s with power := { s.power with clkOn := insertUp d s.power.clkOn } }

/-- A request starts a domain's clock (R97). -/
def State.domainStart (s : State) (d : Nat) : State := if s.domainAllowed d ∧ s.domainRequested d then s.clockOn d else s

/-- A domain without a request for 32 cycles stops (R97). -/
def State.domainStop (s : State) (d : Nat) : State :=
  if s.domainRequested d then s else { s with power := { s.power with clkOn := s.power.clkOn.filter (· != d) } }

/-- An access to a register of page `p` raises the clock requests of the page's domains, and is served once they run (R52, R97). -/
def State.touchPage (s : State) (p : Nat) : State :=
  (pageDomains p).foldl (fun (s : State) (d : Nat) => if s.domainAllowed d then s.clockOn d else s) s

/-! ### What CLK.ON and PG_STAT show (R53, R97) -/

/-- CLK.ONw. -/
def State.clkOnWord (s : State) (i : Nat) : Word :=
  Word.of (maskOf ((List.range 32).filter fun b => s.domainOn (32 * i + b)))

/-- Some domain of page `p` runs: PG_STAT.CLKON. A page without a domain of its own runs with the control fabric. -/
def State.pageClkOn (s : State) (p : Nat) : Bool :=
  if (pageDomains p).isEmpty then s.awake else (pageDomains p).any fun d => s.domainOn d

end Sys2Proof.Machine
end

