-- ==== Sys2Proof/Machine/View.lean ====
section
/-!
DEFINITION. What a register word reads as, before rights and per-master copies: stored words, and the words the specification computes
from the rest of the state (PG_STAT, IRQ, FAULT, STOCK, TB, WELD and the windows). A read here changes nothing.
-/

namespace Sys2Proof.Machine

/-- PG_STAT.STATE of page `p`: the block state that its chapter names, 0 on a page that names none. (Log entry 15: DEDUCED.) -/
def State.pageState (s : State) (p : Nat) : Nat :=
  match pageKind p with
  | some .pwr => s.f Regs.PWR_STAT 0 3
  | some .sap => s.f (Regs.SAP_STAT (p - 0x10)) 0 8
  | some .spdif => s.f Regs.SPDIF_STAT 0 4
  | some .asrc => s.f (Regs.ASRC_STAT (p - 0x18)) 0 3
  | some .anv => s.anvState (p - 0x80)
  | some .stg => s.chState (p - 0x60)
  | some .xst => s.chState (p - 0x60)
  | some .tongs => s.f Regs.TONGS_STAT 0 4
  | some .wake => s.f Regs.WAKE_STAT 0 4
  | some .lin => s.f Regs.LIN_STAT 0 4
  | some .hpo => s.f Regs.HPO_STAT 0 4
  | some .aux => b2n (s.auxRuns (p - 0x74))
  | some .twt => s.f Regs.TWT_STAT 0 2
  | some .vhk => s.f Regs.VHK_STAT 0 4
  | some .pair => s.f Regs.PAIR_STAT 0 4
  | some .sec => s.lc
  | some .img => s.f Regs.IMG_STAT 0 4
  | some .test => s.f Regs.TEST_LSTAT 28 4
  | _ => 0

/-- PG_STAT.RUN of page `p`: enabled and processing. A block with an idle state processes outside it. (Log entry 15: DEDUCED.) -/
def State.pageRuns (s : State) (p : Nat) : Bool :=
  !s.pageOff p && s.awake &&
    (match pageKind p with
     | some .anv => s.anvRuns (p - 0x80)
     | some .stg => s.chState (p - 0x60) == chRun
     | some .xst => s.chState (p - 0x60) == chRun
     | some .sap | some .spdif | some .asrc | some .tongs | some .lin | some .hpo | some .aux | some .vhk | some .img | some .test =>
       s.pageState p != 0
     | _ => true)

/-- PG_STAT (R53): STATE, FAULT (R590), BUSY (R51, R150), CLKON and RUN. -/
def State.pgStat (s : State) (p : Nat) : Word :=
  Word.of (s.pageState p * 256 + b2n (s.fault.active.any fun f => f.src == p) * 8 +
    b2n (s.pageBusy p || (p == 0x06 && s.stock.rebuilding)) * 4 + b2n (s.pageClkOn p) * 2 + b2n (s.pageRuns p))

/-- A word of the descriptor window of queue `q` (R155): CFG, ENDS, CREDIT, ISSUED, RETURNED, STAT. -/
def State.queueWord (s : State) (q i : Nat) : Word :=
  let x := s.queue q
  match i with
  | 0 => x.cfg
  | 1 => x.ends
  | 2 => Word.of (x.held * 65536 + x.outstanding)
  | 3 => x.issued
  | 4 => x.returned
  | 5 => Word.of (x.gen * 0x1000000 + x.drained)
  | _ => 0

/-- A word of the fault log's window: LOG_TB and LOG_ID of entry `e`, the newest being 0 (R597); an entry never written reads 0. -/
def State.logWord (s : State) (e i : Nat) : Word :=
  match s.fault.log[e]? with
  | none => 0
  | some x => if i = 0 then Word.of x.tb else x.idWord

/-- A register of anvil `a` as DBG.RDATA shows it (R374): control registers, d0 to d15, and the accumulators in two words each. -/
def State.dbgReg (s : State) (a r : Nat) : Word :=
  let x := s.anv a
  if r < 0x40 then Word.of (s.readCr a r)
  else if r < 0x50 then Word.of (x.reg (r - 0x40))
  else
    let v := x.accv ((r - 0x50) / 2)
    Word.of (if r % 2 = 0 then unsign 32 v else unsign 32 (v / 2 ^ 32))

/-- SCHED.COUNT_LO: armed and free entries of the 4,096 (R126). (Log entry 32: DEDUCED.) -/
def State.schedCount (s : State) : Word :=
  let armed := (s.sched.filter fun e => !e.fired).length
  Word.of (armed * 65536 + (4096 - s.sched.length))

/-- The status byte of SPIT as it would next be sent (R524). -/
def State.spitStatus (s : State) : Nat := b2n (!s.signalling.isEmpty) * 64 + s.wire.sticky * 2

/-- What the word with key `k` reads as. (Log entry 72: DEDUCED.) -/
def State.view (s : State) (k : Nat) : Word :=
  if k < 0x10000 then
    if k % 256 = 3 then s.pgStat (k / 256)
    else if k = Regs.TB_LO then Word.of s.tbShown
    else if k = Regs.TB_HI then Word.of (s.tbShown / 2 ^ 32)
    else if k = Regs.TB_STROKE then Word.of s.strokeNo
    else if 0x118 ≤ k ∧ k < 0x11F then s.clkOnWord (k - 0x118)
    else if k = Regs.SCHED_COUNT_LO then s.schedCount
    else if k = Regs.SCHED_COUNT_HI then putBits (s.w k) 0 13 ((s.sched.filter (·.fired)).length)
    else if k = Regs.STOCK_BUDGET then Word.of s.committed
    else if k = Regs.TRK_CMDV then putBits (s.w k) 0 16 (trkMv s.trk.c)
    else if k = Regs.FAULT_STAT then s.faultStat
    else if Regs.FAULT_ACT 0 ≤ k ∧ k ≤ Regs.FAULT_ACT 3 then s.faultAct (k - Regs.FAULT_ACT 0)
    else if k = Regs.IRQ_FIRST then s.irqFirst
    else if Regs.IRQ_SUM 0 ≤ k ∧ k ≤ Regs.IRQ_SUM 7 then s.irqSum (k - Regs.IRQ_SUM 0)
    else if 0x10 ≤ k / 256 ∧ k / 256 < 0x16 ∧ k % 256 = 0x18 then
      let n := k / 256 - 0x10
      putBits (s.w k) 8 2 (b2n (s.sapLockedCond n false) + 2 * b2n (s.sapLockedCond n true))
    else if k = Regs.SPDIF_STAT then putBits (s.w k) 4 1 (b2n s.spdifLockedCond)
    else if k = Regs.GPIO_IN then s.gpioIn
    else if k = Regs.SEC_ID_LO then Word.of Config.identity
    else if k = Regs.SEC_ID_HI then Word.of (Config.identity / 2 ^ 32)
    else if k = Regs.TWT_STAT then putBits (s.w k) 4 4 8
    else if k = Regs.SPIT_STAT then Word.of s.spitStatus
    else s.w k
  else if 0x18000 ≤ k ∧ k < 0x1A000 then s.queueWord ((k - 0x18000) / 8) (k % 8)
  else if 0x1A000 ≤ k ∧ k < 0x1C000 then s.streamWord ((k - 0x1A000) / 8) (k % 8)
  else if 0x1D000 ≤ k ∧ k < 0x1F000 then s.dbgReg ((k - 0x1D000) / 128) (k % 128)
  else if 0x1F000 ≤ k ∧ k < 0x1F020 then s.logWord ((k - 0x1F000) / 2) (k % 2)
  else s.w k

end Sys2Proof.Machine
end

