-- ==== Sys2Proof/Machine/Link.lean ====
section
/-!
DEFINITION. The Viheska link and the pairing unit (chapter 20): training, superframes, messages, audio slots, mirror and digests, the pair
states, death and ORPHAN. What needs welds or control accesses (the profiles, the remote access, adoption's writes) is in `Machine.Twin`.
-/

namespace Sys2Proof.Machine

/-- VHK's page. -/
def pgVhk : Nat := 0x7C
/-- PAIR's page. -/
def pgPair : Nat := 0x7D

/-- The pairing states of R553: SEEK. -/
def prSeek : Nat := 1
/-- AUTH. -/
def prAuth : Nat := 2
/-- SYNC. -/
def prSync : Nat := 3
/-- MIRROR. -/
def prMirror : Nat := 4
/-- LIVE. -/
def prLive : Nat := 5
/-- SOLO. -/
def prSolo : Nat := 6
/-- ORPHAN. -/
def prOrphan : Nat := 7
/-- DETACHING. -/
def prDetaching : Nat := 8
/-- DETACHED. -/
def prDetached : Nat := 9

/-- The device is strapped for pairing (R533, R534). -/
def State.paired (s : State) : Bool := s.f Regs.PAIR_STAT 30 2 != 0

/-- PAIR.STAT.STATE. -/
def State.pr (s : State) : Nat := s.f Regs.PAIR_STAT 0 4

/-- The pairing state changes; STATE_CHG is raised. -/
def State.setPr (s : State) (st : Nat) : State :=
  if s.pr = st then s else (s.setF Regs.PAIR_STAT 0 4 st).event pgPair 0

/-- The device acts as lead (R534). -/
def State.actsLead (s : State) : Bool := s.b Regs.PAIR_STAT 29

/-- The device's epoch (R562). -/
def State.epoch (s : State) : Nat := s.f Regs.PAIR_EPOCH 0 16

/-- VHK.STAT.LINK: 0 OFF, 1 TRAIN, 2 UP (R536). -/
def State.link (s : State) : Nat := s.f Regs.VHK_STAT 0 4

/-- The link changes state; LINK_CHG is raised. -/
def State.setLink (s : State) (v : Nat) : State :=
  if s.link = v then s else (s.setF Regs.VHK_STAT 0 4 v).event pgVhk 0

/-! ### The link (R535, R536) -/

/-- Everything that belongs to one stay of the link in UP. -/
def State.linkClear (s : State) : State :=
  { s with pair := { s.pair with
    trained := false, rtts := [], secure := false, sfseq := 0, sfack := 0xFFFF, txSeq := [0, 0, 0], rxSeq := [0, 0, 0], out := [],
    owns := [], matchIn := [], matchOut := [] } }

/-- The link enters TRAIN: on enabling (R536, step 1), after 16 invalid characters (step 4) and after a failed message (R545). -/
def State.linkTrain (s : State) : State := s.linkClear.setLink 1

/-- VHK.PG_CTRL.EN falls: both transmit pins are at high impedance (R535). -/
def State.linkOff (s : State) : State := s.linkClear.setLink 0

/-- VHK.PG_CTRL.EN rises on a device strapped for pairing (R533, R536). -/
def State.linkEnable (s : State) : State := if s.paired ∧ s.awake then s.linkTrain else s

/-- 256 consecutive valid idle sets have been received (R536, step 1). -/
def State.idleSets (s : State) : State :=
  if s.awake ∧ s.en pgVhk ∧ s.paired then
    let s := if s.link = 0 then s.linkTrain else s
    if s.link = 1 then { s with pair := { s.pair with trained := true } } else s
  else s

/-- A PING and its ECHO (R536, step 2): the acting lead notes the round trip in ticks. -/
def State.ping (s : State) (rtt : Nat) : State :=
  if s.link = 1 ∧ s.pair.trained ∧ s.actsLead ∧ s.pair.rtts.length < 16 then
    { s with pair := { s.pair with rtts := s.pair.rtts ++ [rtt] } }
  else s

/-! ### Messages (R544, R545) -/

/-- The position of a message class in the SEQ lists: WELD 0, REG 1, PAIR 2. -/
def clsIdx (cls : Nat) : Nat := cls - 1

/-- `l` with element `i` set. -/
def setAt (l : List Nat) (i v : Nat) : List Nat := l.set i v

/-- A message joins its class's queue with the next SEQ. -/
def State.queueMsg (s : State) (cls ty : Nat) (payload : List Word) : State :=
  let q := s.pair.txSeq.getD (clsIdx cls) 0
  let m : OutMsg := { msg := { cls := cls, ty := ty, seq := q, payload := payload } }
  { s with pair := { s.pair with
    out := s.pair.out ++ [m], txSeq := setAt s.pair.txSeq (clsIdx cls) ((q + 1) % 65536) } }

/-- The SEQ the next message of a class will take. -/
def State.nextSeq (s : State) (cls : Nat) : Nat := s.pair.txSeq.getD (clsIdx cls) 0

/-- The acknowledgement of a class: the SEQ last accepted in order, 0xFFFF before the first. (Log entry 74: DEDUCED.) -/
def State.ackOf (s : State) (cls : Nat) : Nat := (s.pair.rxSeq.getD (clsIdx cls) 0 + 65535) % 65536

/-- An acknowledgement `a` of class `cls` arrives: every message up to it leaves the queue. -/
def State.acked (s : State) (cls a : Nat) : State :=
  { s with pair := { s.pair with
    out := s.pair.out.filter fun m => !(m.msg.cls == cls && decide ((a + 65536 - m.msg.seq) % 65536 < 32768)) } }

/-- Bytes a message takes in the field (R544). -/
def messageBytes (m : Message) : Nat := 4 + 4 * m.payload.length

/-- The first 16 unacknowledged messages of a class are the ones a sender holds (R545). -/
def State.window (s : State) (cls : Nat) : List OutMsg := (s.pair.out.filter fun m => m.msg.cls == cls).take 16

/-- The message is due in the superframe of stroke `k`: never sent, or last sent two strokes before. -/
def OutMsg.due (m : OutMsg) (k : Nat) : Bool := m.sends == 0 || decide (m.last + 2 ≤ k)

/-- The messages of one class for the superframe of stroke `k`: those never sent, and from the first that is due again on, every one. -/
def State.classMsgs (s : State) (cls k : Nat) : List OutMsg :=
  let w := s.window cls
  let late := w.dropWhile fun m => !(decide (m.sends ≠ 0) && m.due k)
  (w.filter fun m => m.sends == 0 && !late.contains m) ++ late

/-- The messages that fit the 224 bytes of the field, in order. -/
def fitMsgs : Nat → List OutMsg → List OutMsg
  | _, [] => []
  | room, m :: t => if messageBytes m.msg ≤ room then m :: fitMsgs (room - messageBytes m.msg) t else []

/-- Some message has been sent 8 times and is due again (R545). -/
def State.msgFailed (s : State) (k : Nat) : Bool := s.pair.out.any fun m => decide (8 ≤ m.sends) && m.due k

/-- The messages of the superframe of stroke `k`, and the queue after sending them: RETX counts each sent again. -/
def State.takeMsgs (s : State) (k : Nat) : List Message × State :=
  let l := fitMsgs 224 ([1, 2, 3].map fun c => s.classMsgs c k).flatten
  let again := (l.filter fun m => m.sends != 0).length
  let out := s.pair.out.map fun m => if l.contains m then { m with sends := m.sends + 1, last := k } else m
  (l.map (·.msg), ({ s with pair := { s.pair with out := out } }).addF Regs.VHK_EVT2 0 16 again)

/-- The link reaches UP with delay `d`: every SEQ and SFSEQ start at 0 (R536, R538, R545). -/
def State.linkUp (s : State) (d : Nat) : State :=
  let s := (s.linkClear.setF Regs.VHK_STAT 16 8 d).setLink 2
  { s with pair := { s.pair with trained := true, nextSf := s.strokeNo } }

/-! ### Attach (R555, R556) -/

/-- A refused or failed attach (R556): the states before the attach return. (Log entry 74: DEDUCED.) -/
def State.attachFail (s : State) (reason : Nat) : State :=
  let s := ((s.setF Regs.PAIR_STAT 8 4 reason).incF Regs.PAIR_EVT 16 8).event pgPair 4
  match s.pair.attachAt with
  | none => s
  | some _ =>
    let s := s.setPr s.pair.before
    let s := (s.setB Regs.PAIR_STAT 29 s.pair.wasLead).setF Regs.PAIR_EPOCH 0 16 s.pair.epoch0
    { s with pair := { s.pair with
      attachAt := none, failAt := some s.tb, secure := false, adopting := false, peer := none, weld := none, left := [] } }

/-- The words of this device's identity and the hearth rate, as HELLO and PROOF carry them. -/
def idWords : List Word := [Word.of Config.identity, Word.of (Config.identity / 2 ^ 32)]

/-- `n` words the specification fills with random or keyed bytes. -/
def State.secretWords (s : State) (n : Nat) : List Word × State :=
  ((List.range n).map fun i => Config.freeWord (s.free + i), { s with free := s.free + n })

/-- The lead sends HELLO (R555, step 2). -/
def State.sendHello (s : State) : State :=
  let r := s.secretWords 4
  r.2.queueMsg 3 2 (r.1 ++ [s.otp 0x048, s.otp 0x049] ++ idWords ++ [Word.of (b2n (s.b Regs.CLK_HEARTH 0) + 2 * b2n s.pair.adopt)])

/-- Round half to even of the mean of 16 round trips less 1,024, halved (R536, step 3). -/
def trainDelay (rtts : List Nat) : Int := divConv ((rtts.foldl (· + ·) 0 : Nat) - 16 * 1024) 32

/-- The lead computes D: the link is UP and TRAIN is sent, or training fails with reason TRAIN (R536, step 3). -/
def State.linkUpLead (s : State) : State :=
  if s.link = 1 ∧ s.pair.trained ∧ s.actsLead ∧ s.pair.rtts.length = 16 then
    let d := trainDelay s.pair.rtts
    if 8 ≤ d ∧ d ≤ 128 then
      let s := (s.linkUp d.toNat).queueMsg 3 1 [Word.of d.toNat]
      if s.pr = prAuth then s.sendHello else s
    else (s.attachFail 6).linkTrain
  else s

/-- ATTACH is accepted (R555, R556): on the acting lead in SEEK, SOLO or DETACHED, 1 s after a failure at the earliest. -/
def State.attachOk (s : State) : Bool :=
  s.paired && s.actsLead && s.en pgPair && [prSeek, prSolo, prDetached].contains s.pr &&
    (match s.pair.failAt with | none => true | some t => decide (t + 98304000 ≤ s.tb))

/-- An attach begins (R555, step 1). -/
def State.attach (s : State) (adopt : Bool) : State :=
  let s := { s with pair := { s.pair with
    before := s.pr, wasLead := s.actsLead, epoch0 := s.epoch, attachAt := some s.tb, adopt := adopt, peer := none } }
  let s := s.setPr prAuth
  if s.link = 2 then s.sendHello else s

/-- DETACH (R565): the target is four strokes ahead. -/
def State.detachCmd (s : State) : State :=
  let t := s.strokeNo + 4
  let s := { s with pair := { s.pair with detach := some t } }
  (s.setPr prDetaching).queueMsg 3 7 [Word.of t]

/-- A write of PAIR.CMD would be refused with RANGE (R533, R555, R565). -/
def State.pairCmdRefused (s : State) (v : Word) : Bool :=
  !s.paired || (bit v 0 && !s.attachOk) || (bit v 1 && !(s.pr == prLive && s.en pgPair))

/-- A write of PAIR.CMD acts. -/
def State.writePairCmd (s : State) (v : Word) : State :=
  if bit v 0 then s.attach (bit v 2) else if bit v 1 then s.detachCmd else s

/-! ### Image, mirror and digests (R549 to R552) -/

/-- The key of image word `i` of this device, `none` for a word not assigned (R549). -/
def State.imageKey (s : State) (i : Nat) : Option Nat :=
  if i < 0x880 then
    let n := i / 0x80
    let r := i % 0x80
    match r with
    | 0 => some (Regs.FIN_HPF n) | 1 => some (Regs.FIN_GAIN n) | 2 => some (Regs.FIN_EQ_SEL n) | 3 => some (Regs.FIN_DELAY n)
    | 4 => some (Regs.FIN_LIM n) | 5 => some (Regs.FIN_CTRL n) | 6 => none | 7 => none
    | _ => if r < 108 then some (Regs.FIN_BQ n ((r - 8) / 5) ((r - 8) % 5)) else none
  else if i < 0x8E0 then
    let n := (i - 0x880) / 4
    match (i - 0x880) % 4 with | 0 => some (Regs.INC_HPF n) | 1 => some (Regs.INC_GAIN n) | _ => none
  else if 0x900 ≤ i ∧ i < 0x1120 then
    let n := (i - 0x900) / 0x41
    let r := (i - 0x900) % 0x41
    some (if r = 0 then nodeKey n 0x044 else nodeKey n (0x100 + 4 * (r - 1)))
  else if 0x1200 ≤ i ∧ i < 0x1400 then some (entryKey (s.bankBase + (i - 0x1200) / 2) + i % 2)
  else if 0x1400 ≤ i ∧ i < 0x1440 then
    let c := (i - 0x1400) / 4
    match i % 4 with | 0 => some (Regs.CH_CFG c) | 1 => some (Regs.CH_MUTE c) | _ => none
  else if 0x1440 ≤ i ∧ i < 0x1447 then
    some ([Regs.TONGS_MEAS, Regs.TONGS_TAMB, Regs.TONGS_CEIL].getD (i - 0x1440) (Regs.TONGS_SAFE (i - 0x1443)))
  else if 0x1450 ≤ i ∧ i < 0x14D0 then
    let c := (i - 0x1450) / 8
    let r := (i - 0x1450) % 8
    if r < 6 then some (tongsKey c (0x060 + 4 * r)) else none
  else if 0x1500 ≤ i ∧ i < 0x1540 then some (Regs.ANV_MODE (i - 0x1500))
  else if 0x1540 ≤ i ∧ i < 0x1546 then some (Regs.SAP_MUTE (i - 0x1540))
  else if i = 0x1546 then some Regs.HPO_MUTE
  else if i = 0x1547 then some Regs.JACK_STAT
  else if 0x1600 ≤ i ∧ i < 0x16F0 then some (0x0D10 + (i - 0x1600))
  else none

/-- Image word `i` of this device. -/
def State.imageWord (s : State) (i : Nat) : Word := match s.imageKey i with | none => 0 | some k => s.view k

/-- Number of words of an image. -/
def imageSize : Nat := 8192

/-- The term f(i, v) of a digest (R551). -/
def digestTerm (i : Nat) (v : Word) : Nat := (i * 2 ^ 32 + v.toNat) * 0x9E3779B97F4A7C15 % 2 ^ 64

/-- The digest of the words `w` (R551). (Log entry 9: DESIGN CHOICE.) -/
def digest (w : Nat → Word) : Nat := (List.range imageSize).foldl (fun a i => a ^^^ digestTerm i (w i)) 0

/-- The ring queue of the mirror. -/
def State.mirq (s : State) : Nat := s.f Regs.PAIR_MIRQ 0 10

/-- Setting PAIR.PG_CTRL.EN is accepted: MIRQ names a fit queue (R549). -/
def State.pairEnableOk (s : State) : Bool :=
  let q := s.queue s.mirq
  q.on && q.isRing && decide (512 ≤ q.depth) && q.domain == 0 && q.producer == 0x7D00 && q.consumer == 0x7D00

/-- Word `i` of the mirror of the partner's image. -/
def State.mirrorWord (s : State) (i : Nat) : Word :=
  match s.ringBillet s.mirq (i / 16) with
  | none => 0
  | some b => (s.billet b).data.getD (i % 16) 0

/-- `l` lengthened with zeros to hold index `i`, and element `i` set. -/
def setWord (l : List Word) (i : Nat) (v : Word) : List Word := ((l ++ List.replicate (16 - l.length) 0).set i v)

/-- Word `i` of the mirror takes the value `v`. -/
def State.setMirror (s : State) (i : Nat) (v : Word) : State :=
  match s.ringBillet s.mirq (i / 16) with
  | none => s
  | some b => let x := s.billet b; s.setBillet b { x with data := setWord x.data (i % 16) v }

/-- The value words of a record are written into the words they name, the index wrapping at 8,192 (R549). -/
def State.takeRecord (s : State) (r : MirrorRecord) : State :=
  (r.words.foldl (fun (a : State × Nat) v => (a.1.setMirror (a.2 % imageSize) v, a.2 + 1)) (s, r.first)).1

/-- The runs of consecutive indices at the head of the log, at most `n` records of 15 words (R550). -/
def deltaRuns : Nat → Nat → List Nat → List (Nat × Nat)
  | 0, _, _ => []
  | _, 0, _ => []
  | _, _, [] => []
  | fuel + 1, n + 1, i :: t =>
    let len := ((List.range 15).takeWhile fun j => (i :: t)[j]? == some (i + j)).length
    (i, len) :: deltaRuns fuel n ((i :: t).drop len)

/-- The records of a superframe in ordinary mirroring: DELTA records, oldest change first, then SWEEP records (R550). -/
def State.ordinaryRecords (s : State) : List MirrorRecord × State :=
  let runs := deltaRuns 24 24 s.pair.log
  let used := runs.foldl (fun a r => a + r.2) 0
  let deltas := runs.map fun r =>
    ({ kind := 1, first := r.1, words := (List.range r.2).map fun j => s.imageWord (r.1 + j) } : MirrorRecord)
  let n := 24 - runs.length
  let sweeps := (List.range n).map fun k =>
    let p := (s.pair.sweep + 15 * k) % imageSize
    ({ kind := 2, first := p, words := (List.range 15).map fun j => s.imageWord ((p + j) % imageSize) } : MirrorRecord)
  (deltas ++ sweeps,
    { s with pair := { s.pair with log := s.pair.log.drop used, sweep := (s.pair.sweep + 15 * n) % imageSize } })

/-- The records of a superframe while adopting: the mirror of the former partner in word order, and ADOPT_END after the last (R557). -/
def State.adoptRecords (s : State) : List MirrorRecord × State :=
  let n := min 24 ((imageSize - s.pair.adoptPos + 14) / 15)
  let recs := (List.range n).map fun k =>
    let p := s.pair.adoptPos + 15 * k
    ({ kind := 3, first := p, words := (List.range (min 15 (imageSize - p))).map fun j => s.mirrorWord (p + j) } : MirrorRecord)
  let s := { s with pair := { s.pair with adoptPos := min imageSize (s.pair.adoptPos + 15 * n) } }
  if s.pair.adoptPos = imageSize ∧ s.pair.adoptEnd = false then
    let d := digest s.mirrorWord
    (recs, { s with pair := { s.pair with adoptEnd := true } }.queueMsg 3 6 [Word.of d, Word.of (d / 2 ^ 32)])
  else (recs, s)

/-- The mirror records of the next superframe: none before MIRROR and in SOLO (R553, R561). (Log entry 74: DEDUCED.) -/
def State.takeRecords (s : State) : List MirrorRecord × State :=
  if s.pair.secure && [prMirror, prLive, prDetaching].contains s.pr then
    if s.pair.adopting then s.adoptRecords else s.ordinaryRecords
  else ([], s)

/-- The device logs changes of its image: while it mirrors (R550). -/
def State.mirrors (s : State) : Bool := [prSync, prMirror, prLive, prDetaching].contains s.pr

/-- Words of the image whose value differs between `s` and `t`, in word order. -/
def imageChanges (s t : State) : List Nat := (List.range imageSize).filter fun i => s.imageWord i != t.imageWord i

/-- The changes between `old` and `s` join the log; one that finds 4,096 words waiting counts in LOG_OVF (R550). (Log entry 74: DEDUCED.) -/
def State.logChanges (s old : State) : State :=
  if s.mirrors ∧ (old.words ≠ s.words ∨ old.fault ≠ s.fault) then
    (imageChanges old s).foldl (fun s i =>
      if s.pair.log.contains i then s
      else if s.pair.log.length < 4096 then { s with pair := { s.pair with log := s.pair.log ++ [i] } }
      else s.incF Regs.PAIR_EVT 0 4) s
  else s

/-! ### Audio slots (R541 to R543) -/

/-- Queue of TX or RX slot `q`. -/
def State.slotQueue (s : State) (rx : Bool) (q : Nat) : Nat := s.f Regs.VHK_QB (if rx then 16 else 0) 10 + q

/-- The queue may serve the slot (R541). -/
def State.slotQueueOk (s : State) (rx : Bool) (q : Nat) : Bool :=
  let x := s.queue (s.slotQueue rx q)
  x.on && !x.packed && !x.isRing && (if rx then x.producer == unitId pgVhk (0x10 + q) else x.consumer == unitId pgVhk q)

/-- A write of VHK.SLOT would enable a slot whose queue does not serve it (R541). -/
def State.slotRefused (s : State) (v : Word) : Bool :=
  let old := s.w Regs.VHK_SLOT
  ((List.range 16).any fun q => bit v q && !bit old q && !s.slotQueueOk false q) ||
    ((List.range 16).any fun q => bit v (16 + q) && !bit old (16 + q) && !s.slotQueueOk true q)

/-- Stroke of a waiting item. -/
def State.itemStroke (s : State) (i : QItem) : Nat := s.fullStamp (s.itemBillet i).tag.stamp / s.strokeLen

/-- Items at the head of TX slot `q`'s queue whose stamps lie before stroke `k` are released unsent: TX_LATE (R542). -/
def State.dropLate (s : State) (q k : Nat) : State :=
  let n := s.slotQueue false q
  ((s.queue n).ready.takeWhile fun i => decide (s.itemStroke i < k)).foldl (fun s _ =>
    match s.take n .transit with
    | (none, s) => s
    | (some i, s) => (s.releaseItem i).incF Regs.VHK_EVT3 16 16) s

/-- Both billets of stroke `k` of TX slot `q`, in transit from now on: their flags and samples. -/
def State.takeSlot (s : State) (q k : Nat) : Option (List Nat × List Word) × State :=
  let s := s.dropLate q k
  let n := s.slotQueue false q
  match (s.queue n).ready with
  | a :: b :: _ =>
    let ta := (s.itemBillet a).tag
    let tb := (s.itemBillet b).tag
    if s.itemStroke a = k ∧ s.itemStroke b = k ∧ ta.offset = 0 ∧ tb.offset = 16 then
      let w := (s.itemBillet a).samples ++ (s.itemBillet b).samples
      let s := (s.take n .transit).2
      let s := (s.take n .transit).2
      let bs := [a, b].filterMap fun i => match i with | .billet x => some x | .made _ _ => none
      (some ([ta.flags % 64, tb.flags % 64], w), { s with pair := { s.pair with transit := s.pair.transit ++ bs } })
    else (none, s)
  | _ => (none, s)

/-- Sent billets return to FREE with their credits once their superframe has left (R542). -/
def State.transitDone (s : State) : State :=
  if s.pair.transit = [] ∨ s.tb < s.pair.leftAt then s
  else { (s.pair.transit.foldl (fun s b => s.release b) s) with pair := { s.pair with transit := [] } }

/-- The audio of the superframe of stroke `k + 1`: AUD_VALID, flags and samples of every slot. -/
def State.takeAudio (s : State) (k : Nat) : (Nat × List Nat × List (List Word)) × State :=
  let r := (List.range 16).foldl (fun (a : List Nat × List Nat × List (List Word) × State) q =>
    if bit s.pair.slots q then
      match a.2.2.2.takeSlot q k with
      | (some (f, w), t) => (a.1 ++ [q], a.2.1 ++ f, a.2.2.1 ++ [w], t)
      | (none, t) => (a.1, a.2.1 ++ [0, 0], a.2.2.1 ++ [List.replicate 32 0], t)
    else (a.1, a.2.1 ++ [0, 0], a.2.2.1 ++ [List.replicate 32 0], a.2.2.2)) ([], [], [], s)
  ((maskOf r.1, r.2.1, r.2.2.1), r.2.2.2)

/-- Slot `q`'s last stroke was received. -/
def State.clearMiss (s : State) (q : Nat) : State := { s with pair := { s.pair with missing := putBit s.pair.missing q false } }

/-- One RX slot at boundary `b` (R542, R543): the billets of stroke b - 2. -/
def State.putSlot (s : State) (b q : Nat) : State :=
  let k := b - 2
  let n := s.slotQueue true q
  let x := s.queue n
  let got := match s.pair.got with
    | some f => if f.audValid.testBit q && !f.solo && s.pair.secure then some f else none
    | none => none
  let st := s.boundaryTick k
  let half := fun (i : Nat) => st + 16 * i * s.sampleTicks
  match got with
  | some f =>
    if x.depth < x.outstanding + 2 then (s.incF Regs.VHK_EVT3 8 8).clearMiss q
    else
      let raw := f.audio.getD q []
      let w := if s.pair.missing.testBit q then (List.range 32).map fun i => fadeIn i (raw.getD i 0) else raw
      let put := fun (s : State) (i : Nat) =>
        s.produce n { stamp := half i, count := 16, offset := 16 * i, flags := f.audFlags.getD (2 * q + i) 0 }
          ((List.range 16).map fun j => w.getD (16 * i + j) 0)
      let a := put s 0
      let b := put a.2 1
      (if a.1 && b.1 then b.2 else b.2.incF Regs.VHK_EVT3 8 8).clearMiss q
  | none =>
    let put := fun (s : State) (i : Nat) =>
      let r := s.produce n { stamp := half i, count := 16, offset := 16 * i, flags := flMissing } (List.replicate 16 0)
      if r.1 then (r.2.incF Regs.VHK_EVT2 16 16).event pgVhk 2 else r.2
    let s := put (put s 0) 1
    { s with pair := { s.pair with missing := putBit s.pair.missing q true } }

/-- VHK at boundary `b`: the RX slots put the stroke before last, and a change of VHK.SLOT takes effect (R541 to R543). -/
def State.vhkBoundary (s : State) (b : Nat) : State :=
  let s := if s.en pgVhk && s.paired then
      (List.range 16).foldl (fun s q => if bit s.pair.slots (16 + q) then s.putSlot b q else s) s
    else s
  { s with pair := { s.pair with got := none, slots := s.w Regs.VHK_SLOT, dead := s.f Regs.PAIR_CFG 0 6 } }

/-- D_OWN as it stands after step 2 of R28 at the boundary (R551). -/
def State.digestBoundary (s : State) : State :=
  if s.mirrors then { s with pair := { s.pair with dOwn := digest s.imageWord } } else s

/-! ### Superframes (R537 to R548) -/

/-- The stroke of the next superframe and its launch tick: the boundary for the acting lead, half a stroke later for the follower (R537). -/
def State.launch (s : State) : Nat × Nat :=
  let k := max s.strokeNo s.pair.nextSf
  (k, s.boundaryTick k + (if s.actsLead then 0 else s.strokeLen / 2))

/-- The transmit pair is driven: on a device strapped for pairing, while the link is enabled (R533, R535). -/
def State.vhkDrives (s : State) : Bool := s.awake && s.paired && s.en pgVhk

/-- The device sends superframes: link UP, and a state that does not send idle sets only (R564, R565), unless a HELLO waits for its answer
(R555). (Log entry 98: DEDUCED.) -/
def State.sends (s : State) : Bool :=
  s.vhkDrives && s.link == 2 && (!([0, prOrphan, prDetached].contains s.pr) || s.pair.out.any fun m => m.msg.cls == 3)

/-- STATUS of the heartbeat (R547). -/
def State.hbStatusOwn (s : State) : Nat :=
  b2n (s.f Regs.TONGS_STAT 0 4 == 2) + 2 * b2n s.braced + 4 * b2n (s.b Regs.TB_SYNC 2) + 8 * b2n (s.b Regs.TB_SYNC 1) +
    16 * b2n (!s.fault.active.isEmpty)

/-- The coil and magnet state of channel `c` of the partner, aged by R412 with the parameters of its mirror over the time since its last
valid superframe (R557, step 2). -/
def State.agedCoils (s : State) : State :=
  let par := (allChans.map fun c => (List.range 6).map fun r => (tongsKey c (0x060 + 4 * r), s.mirrorWord (0x1450 + 8 * c + r))).flatten
  let t := (s.setWs par).setW Regs.TONGS_TAMB (s.mirrorWord 0x1441)
  let t := allChans.foldl (fun t c =>
    let r := s.pair.coils.get {} c
    t.setCoil c { t.coil c with tc := r.tc * 16, tm := r.tm * 16 }) t
  t.coolAll (s.tb - s.pair.seenAt)

/-- The Tongs field (R548): the values of the last pass, or the former partner's while ADOPTING. -/
def State.coilReports (s : State) : List CoilReport :=
  if s.pair.adopting then
    let t := s.agedCoils
    allChans.map fun c =>
      let r := s.pair.coils.get {} c
      { tc := (t.coil c).tc / 16, tm := (t.coil c).tm / 16, level := r.level, flags := r.flags }
  else
    allChans.map fun c =>
      { tc := (s.coil c).tc / 16, tm := (s.coil c).tm / 16, level := s.level16 (tongsKey c 0x088) 16
        flags := s.f (tongsKey c 0x08C) 29 1 + 2 * s.f (tongsKey c 0x08C) 30 1 + 16 * s.chState c }

/-- DIG_OK (R552): the last four received and the last four sent all matched. -/
def State.digOk (s : State) : Bool :=
  s.pair.matchIn.length == 4 && s.pair.matchIn.all id && s.pair.matchOut.length == 4 && s.pair.matchOut.all id

/-- PAIR.STAT.DIG_OK follows the last four superframes each way. -/
def State.digUpdate (s : State) : State :=
  let s := s.setB Regs.PAIR_STAT 28 s.digOk
  if s.digOk then { s.clearFault 0x52 pgPair with pair := { s.pair with okAt := s.strokeNo } } else s

/-- The device assembles and sends its superframe at its launch tick (R537, R538, R561). -/
def State.superframeSend (s : State) : State :=
  if s.sends then
    let k := s.launch.1
    let s := (s.reach s.launch.2).transitDone
    if s.msgFailed k then s.linkTrain
    else
      let solo := s.pr == prSolo
      let ra := if solo then ((0, [], []), s) else s.takeAudio (k - 1)
      let rm := if solo then ([], ra.2) else ra.2.takeMsgs k
      let rr := if solo then ([], rm.2) else rm.2.takeRecords
      let s := rr.2
      let dm := if s.mirrors then digest s.mirrorWord else 0
      let f : Superframe :=
        { lead := s.actsLead, solo := solo, secure := s.pair.secure, rate96 := s.b Regs.CLK_HEARTH 0, adopting := s.pair.adopting
          epoch := s.epoch, sfseq := s.pair.sfseq, sfack := s.pair.sfack, stamp := s.tb
          ackWeld := s.ackOf 1, ackReg := s.ackOf 2, ackPair := s.ackOf 3
          audValid := ra.1.1, status := s.hbStatusOwn, state := s.pr, cls := s.highestClass, dOwn := s.pair.dOwn, dMir := dm
          outcomes := s.weld.outcomes.take 16, err := s.f Regs.TB_SYNC 16 16, coils := s.coilReports, msgs := rm.1
          audFlags := ra.1.2.1, audio := ra.1.2.2, records := rr.1 }
      let s := s.setWs [(Regs.PAIR_DIG_OWN_LO, Word.of s.pair.dOwn), (Regs.PAIR_DIG_OWN_HI, Word.of (s.pair.dOwn / 2 ^ 32)),
        (Regs.PAIR_DIG_MIR_LO, Word.of dm), (Regs.PAIR_DIG_MIR_HI, Word.of (dm / 2 ^ 32))]
      let ok := dm == s.pair.peerOwn
      { s with pair := { s.pair with
        sent := some f, sfseq := (s.pair.sfseq + 1) % 2 ^ 48, nextSf := k + 1, leftAt := s.tb + 6695
        owns := ((s.pair.sfseq % 65536, s.pair.dOwn) :: s.pair.owns).take 4
        matchOut := (ok :: s.pair.matchOut).take 4 } }.digUpdate
  else s

/-- The partner's heartbeat: its flags, WARN PEER_FB, and whether the image digests match (R427, R547, R552). -/
def State.takeHeartbeat (s : State) (f : Superframe) : State :=
  let fb := f.status.testBit 0
  let s := if fb && !s.b Regs.PAIR_STAT 27 then (s.raiseLocal 0x51 pgPair 0).event pgPair 5
    else if fb then s else s.clearFault 0x51 pgPair
  let s := ((s.setB Regs.PAIR_STAT 27 fb).setB Regs.PAIR_STAT 26 (f.status.testBit 1)).setB Regs.PAIR_STAT 25 (f.status.testBit 2)
  let hit := (s.pair.owns.find? fun x => x.1 == f.sfack).map fun x => x.2 == f.dMir
  { s with pair := { s.pair with
    hbStatus := f.status, hbState := f.state, peerOwn := f.dOwn, matchIn := ((hit.getD false) :: s.pair.matchIn).take 4 } }.digUpdate

/-- The Tongs field is kept as the partner's mirror (R427, R548). -/
def State.takeCoils (s : State) (f : Superframe) : State :=
  (f.coils.foldl (fun (a : State × Nat) r =>
    ({ a.1 with pair := { a.1.pair with coils := a.1.pair.coils.set {} a.2 r } }, a.2 + 1)) (s, 0)).1

/-- DIG_OK has read 0 for 64 strokes in LIVE (R552). -/
def State.mirrorStale (s : State) : State :=
  if s.pr = prLive ∧ s.b Regs.PAIR_STAT 28 = false ∧ s.faultActive 0x52 pgPair = false then
    let s := s.reach (s.boundaryTick (s.pair.okAt + 64))
    ((s.raiseLocal 0x52 pgPair 0).incF Regs.PAIR_EVT 4 4).event pgPair 7
  else s

/-- The device finds itself superseded (R562 to R564). -/
def State.enterOrphan (s : State) : State :=
  let s := s.setPr prOrphan
  let s := (List.range 6).foldl (fun s n => s.sapStop n false) s
  let s := { s with pair := { s.pair with orphan := true, orphanMute := true, out := [], attachAt := none, detach := none } }
  ((s.incF Regs.PAIR_EVT 8 8).event pgPair 2).raiseDevice 0x54 pgPair false

/-- An attach not LIVE one second after ATTACH ends with TIMEOUT (R555). -/
def State.attachTimeout (s : State) : State :=
  match s.pair.attachAt with
  | none => s
  | some t => if [prAuth, prSync, prMirror].contains s.pr then (s.reach (t + 98304000)).attachFail 7 else s

/-- Epoch `a` is higher than epoch `b` (R562). -/
def epochHigher (a b : Nat) : Bool := let d := (a + 65536 - b % 65536) % 65536; decide (1 ≤ d ∧ d ≤ 32767)

/-- The due tick of the partner's superframe of stroke `k` (R539). -/
def State.sfDue (s : State) (k : Nat) : Nat := s.boundaryTick k + (if s.actsLead then 3 else 1) * (s.strokeLen / 4)

end Sys2Proof.Machine
end

