-- ==== Sys2Proof/Machine/Loops.lean ====
section
/-!
DEFINITION. The loop controller, fault injection and the boundary-scan port (chapter 23). The access register's accesses are in
`Machine.PortRows`. What returns from a loop is a free value: no command of the table reports it.
-/

namespace Sys2Proof.Machine

/-- TEST's page. -/
def pgTest : Nat := 0x0E

/-- The check of an interface's loop (R600): 0 BIT, 1 TONE, 2 TONE and LOAD, 3 DUTY, 4 REF, 5 the host's own. -/
def loopCheck (iface : Nat) : Nat :=
  if iface < 6 ∨ iface = 0x09 ∨ iface = 0x0B then 0
  else if iface = 0x08 then 5
  else if iface = 0x21 then 4
  else if 0x18 ≤ iface ∧ iface < 0x20 then 3
  else if 0x10 ≤ iface ∧ iface < 0x18 then 2
  else 1

/-- A loop of the table of R600: `some true` where it is open to HOST, `some false` where only TEST may run it. -/
def loopKind (iface inst depth : Nat) : Option Bool :=
  let host := fun (insts : Nat) (d : List Nat) (h : List Nat) =>
    if inst < insts ∧ d.contains depth then some (h.contains depth) else none
  if iface < 6 then host 1 [0, 1, 2, 3] [0, 1]
  else if iface = 0x08 then host 1 [1, 2] [1]
  else if iface = 0x09 then host 2 [0, 1, 2, 3] [0, 1]
  else if iface = 0x0A then host 4 [1, 2] []
  else if iface = 0x0B then host 1 [1, 2] [1]
  else if iface = 0x0C then host 2 [1, 2] [1]
  else if iface = 0x0D then host 1 [1, 2] [1]
  else if 0x10 ≤ iface ∧ iface < 0x18 then host 1 [1, 2] [1]
  else if 0x18 ≤ iface ∧ iface < 0x20 then host 1 [2] []
  else if iface = 0x20 then host 8 [1, 2] []
  else if iface = 0x21 then host 2 [1] [1]
  else none

/-- The page of a loop's interface. -/
def loopPage (iface inst : Nat) : Nat :=
  if iface < 6 then 0x10 + iface
  else if iface = 0x08 then 0x7A
  else if iface = 0x09 then 0x7C
  else if iface = 0x0A then 0x16
  else if iface = 0x0B then 0x17
  else if iface = 0x0C then 0x26
  else if iface = 0x0D then 0x27
  else if 0x10 ≤ iface ∧ iface < 0x20 then 0x60 + (iface - 0x10)
  else if iface = 0x20 then 0x24
  else 0x74 + inst

/-- LSTAT.STATE. -/
def State.loopState (s : State) : Nat := s.f Regs.TEST_LSTAT 28 4

/-- The conditions of R601 hold for the loop. -/
def State.loopOk (s : State) (iface inst : Nat) : Bool :=
  !s.en (loopPage iface inst) &&
    (if iface = 0x0D then !s.en pgLin
     else if iface = 0x09 then [0, prSeek, prDetached].contains s.pr
     else if iface = 0x21 then s.b (Regs.AUX_STAT inst) 9
     else if iface = 0x20 ∨ iface = 0x0A then !s.privacy
     else true)

/-- A GO in a write of TEST.LOOP is refused with RANGE (R600, R601, R606). -/
def State.loopGoRefused (s : State) (v : Word) : Bool :=
  (loopKind (bits v 8 8) (bits v 16 4) (bits v 24 2)).isNone || !s.loopOk (bits v 8 8) (bits v 16 4) || s.loopState != 0 || !s.awake

/-- A write of TEST.LOOP acts (R604): GO requests the named loop, STOP ends the running one at the next boundary. (Log entry 23: DEDUCED.) -/
def State.writeLoop (s : State) (v : Word) : State :=
  if bit v 31 then
    let iface := bits v 8 8
    let l : Loop := { iface := iface, inst := bits v 16 4, depth := bits v 24 2, start := s.boundaryTick (s.strokeNo + 1) }
    let st := if loopCheck iface = 0 then 1 else 2
    let s := (s.setW Regs.TEST_LSTAT (Word.of (st * 0x10000000))).setW Regs.TEST_WORDS 0
    { s with tst := { s.tst with loop := some { l with ran := st == 2 } } }
  else if bit v 30 then
    match s.tst.loop with
    | none => s
    | some l => { s with tst := { s.tst with loop := some { l with stopReq := true } } }
  else s

/-- A loop runs on page `p` (R602). -/
def State.loopOn (s : State) (p : Nat) : Bool :=
  match s.tst.loop with
  | none => false
  | some l => loopPage l.iface l.inst == p

/-- A failure of the running loop: the first sets FAILED and FAIL (R603, R604). -/
def State.loopFail (s : State) (cause : Nat) : State :=
  match s.tst.loop with
  | none => s
  | some l =>
    if s.b Regs.TEST_LSTAT 23 then s
    else ({ s with tst := { s.tst with loop := some { l with cause := cause } } }.setB Regs.TEST_LSTAT 23 true).event pgTest 0

/-- 32 matching words lock a BIT check (R603, R604). -/
def State.loopLock (s : State) : State :=
  match s.tst.loop with
  | none => s
  | some l =>
    if s.loopState = 1 then
      let s := s.reach l.start
      let s := { s with tst := { s.tst with loop := some { l with ran := true } } }
      ((s.setF Regs.TEST_LSTAT 28 4 2).setW Regs.TEST_WORDS 0).event pgTest 1
    else s

/-- A BIT loop unlocked 64 strokes after its start (R603). -/
def State.loopNoLock (s : State) : State :=
  match s.tst.loop with
  | none => s
  | some l => if s.loopState = 1 then (s.reach (l.start + 64 * s.strokeLen)).loopFail 2 else s

/-- The loop ends with a result. -/
def State.loopEnd (s : State) (result : Nat) : State :=
  ({ s with tst := { s.tst with loop := none } }.setF Regs.TEST_LSTAT 28 4 0).setF Regs.TEST_LSTAT 24 4 result

/-- A condition of R605 stands: sleep, a quench, the privacy mute, or the link lost. -/
def State.loopAborts (s : State) (l : Loop) : Bool :=
  !s.awake || (s.fault.quenching && (l.iface == 0x0D || decide (0x10 ≤ l.iface ∧ l.iface < 0x20))) ||
    (s.privacy && (l.iface == 0x20 || l.iface == 0x0A)) || (l.iface == 0x09 && decide (2 ≤ l.depth) && s.link == 0 && l.start < s.tb)

/-- A running loop aborts where R605 says so. -/
def State.loopAbort (s : State) : State :=
  match s.tst.loop with
  | none => s
  | some l => if s.loopAborts l then (s.loopEnd 9).event pgTest 2 else s

/-- One stroke's checks of a running loop, whose outcome is free (R603): the words compared, a number of errors, and the tone's result. -/
def State.loopStroke (s : State) (l : Loop) : State :=
  let a := (Config.freeWord s.free).toNat
  let b := Config.freeWord (s.free + 1)
  let c := (Config.freeWord (s.free + 2)).toNat
  let s := { s with free := s.free + 3 }
  let s := s.setW Regs.TEST_WORDS (s.w Regs.TEST_WORDS + Word.of (c % 65536))
  let k := loopCheck l.iface
  if k = 5 then s
  else
    let s := if k = 1 ∨ k = 2 then s.setW Regs.TEST_TRES b else if k = 4 then s.setW Regs.TEST_TRES (Word.of (bits b 16 16 * 65536)) else s
    let n := a % 65536
    if n = 0 then s
    else
      let cause := match k with | 0 => 3 | 1 => 4 + a / 65536 % 2 | 2 => 4 + a / 65536 % 3 | 3 => 7 | _ => 8
      (s.addF Regs.TEST_LSTAT 0 16 n).loopFail cause

/-- The loop at boundary `b` (R604): a STOP ends it, a requested loop begins, a running one has checked for a stroke. -/
def State.loopBoundary (s : State) (b : Nat) : State :=
  match s.tst.loop with
  | none => s
  | some l =>
    let s := if l.start < b ∧ s.loopState = 2 then s.loopStroke l else s
    if l.stopReq then
      let ran := match s.tst.loop with | some x => x.ran | none => false
      let cause := match s.tst.loop with | some x => x.cause | none => 0
      s.loopEnd (if !s.b Regs.TEST_LSTAT 23 && ran then 1 else if cause = 0 then 2 else cause)
    else s

/-! ### Fault injection (R608) -/

/-- A TEST write of TEST.INJ acts: EN holds until device reset, and each kind bit injects one event while it is on. -/
def State.writeInj (s : State) (v : Word) : State :=
  let s := if bit v 31 then (s.setB Regs.TEST_INJ 31 true).setB Regs.LEDGER_AUDIT 27 true else s
  if s.b Regs.TEST_INJ 31 then
    { s with
      tst := { s.tst with
        injLedger := s.tst.injLedger || bit v 0, injCe := s.tst.injCe || bit v 1, injUe := s.tst.injUe || bit v 2 }
      tongs := { s.tongs with injMis := s.tongs.injMis || bit v 3, injStrike := s.tongs.injStrike || bit v 4 } }
  else s

/-! ### The boundary-scan port (R609 to R611) -/

/-- A JTAG instruction becomes current; EXTEST (0) and HIGHZ (3) hold the stages safe (R609, R611). -/
def State.jtagIr (s : State) (ir : Nat) : State :=
  let s := { s with tst := { s.tst with ir := ir } }
  if ir = 0 ∨ ir = 3 then allChans.foldl (fun s c => s.safeChan c) s else s

/-- The words the AUTH instruction reaches (R609). -/
def jtagAuthWord (a : Nat) : Bool :=
  a / 1024 == 0x0A && (decide (0x048 ≤ a % 1024 ∧ a % 1024 < 0x058) || decide (0x060 ≤ a % 1024 ∧ a % 1024 ≤ 0x0A0))

end Sys2Proof.Machine
end

