-- ==== Sys2Proof/Machine/WeldBase.lean ====
section
/-!
DEFINITION. Parameter welds (chapter 06) up to their boundary: identifiers, selectors, staging's bookkeeping, commit, abort, undo, cold
shuts, CMDQ's credits and the pair protocol. What a boundary does is in `Machine.WeldApply`.
-/

namespace Sys2Proof.Machine

/-- WELD's page. -/
def pgWeld : Nat := 0x05

/-- The code of a cold shut's reason (R167). -/
def ShutReason.code : ShutReason → Nat
  | .access => 1 | .range => 2 | .late => 3 | .conflict => 4 | .brace => 5 | .pair => 6 | .capacity => 7 | .targetBusy => 8
  | .aborted => 9 | .rebuild => 10

/-- The weld's identifier is not FREE (R156). -/
def Weld.live (w : Weld) : Bool := w.st == .open_ || w.st == .pending || w.st == .committed

/-- The weld whose identifier is `id`, where it is not FREE. -/
def State.weldOf (s : State) (id : Nat) : Option Weld := s.weld.welds.find? fun w => w.live && w.id == id

/-- The weld with a serial number. -/
def State.weldBySerial (s : State) (n : Nat) : Option Weld := s.weld.welds.find? fun w => w.serial == n

/-- FREE identifiers, rising. -/
def State.freeIds (s : State) : List Nat := ((List.range 15).map (· + 1)).filter fun i => (s.weldOf i).isNone

/-- Staging entries in use (R156, R164). -/
def State.staged (s : State) : Nat := s.weld.welds.foldl (fun a w => if w.live then a + w.entries.length else a) 0

/-- `s` with the weld of the same serial replaced. -/
def State.putWeld (s : State) (w : Weld) : State :=
  { s with weld := { s.weld with welds := s.weld.welds.map fun x => if x.serial = w.serial then w else x } }

/-- IDS_EMPTY is present while no identifier is FREE. -/
def State.idsLevel (s : State) : State :=
  let e := s.freeIds.isEmpty
  if s.b (Regs.IRQ_RAW pgWeld) 4 = e then s else s.level pgWeld 4 e

/-! ### Selectors (R158, R159) -/

/-- The register that is master `m`'s selector, where it has one in the control space. -/
def selReg : Master → Option Nat
  | .twt => some Regs.WELD_SEL_TWT
  | .spit => some Regs.WELD_SEL_SPI
  | .vhk => some Regs.WELD_SEL_VHK
  | .anvil n => some (Regs.ANV_WELDSEL n)
  | _ => none

/-- The identifier in master `m`'s selector; the boot ROM, the loader and the pair master hold theirs internally. -/
def State.selector (s : State) (m : Master) : Nat :=
  match selReg m with
  | some k => s.f k 0 4
  | none => s.weld.sel.get 0 (masterNum m)

/-- Master `m`'s selector takes `id`. -/
def State.setSelector (s : State) (m : Master) (id : Nat) : State :=
  match selReg m with
  | some k => s.setF k 0 4 id
  | none => { s with weld := { s.weld with sel := s.weld.sel.set 0 (masterNum m) id } }

/-- The OPEN weld that master `m` has selected. -/
def State.selected (s : State) (m : Master) : Option Weld :=
  (s.weldOf (s.selector m)).bind fun w => if w.st = .open_ ∧ w.opener = m then some w else none

/-- A selector value is accepted from its own master: 0, or an OPEN weld the master opened (R159). -/
def State.selOk (s : State) (m : Master) (id : Nat) : Bool :=
  id == 0 || (match s.weldOf id with | some w => w.st == .open_ && w.opener == m | none => false)

/-- A selector returns to 0 when its weld is committed, aborted or cold-shut (R159). -/
def State.deselect (s : State) (w : Weld) : State :=
  if s.selector w.opener = w.id then s.setSelector w.opener 0 else s

/-! ### Opening and cold shut -/

/-- Master `m` of domain `d` opens a weld (R157): its identifier, 0 where none is FREE. -/
def State.weldOpen (s : State) (m : Master) (d : Domain) : Nat × State :=
  match s.freeIds with
  | [] => (0, s)
  | id :: _ =>
    let old := s.weld.latest.get 0 (masterNum m)
    let n := s.weld.serial + 1
    let w : Weld := { id := id, serial := n, opener := m, domain := d, session := s.inSession m }
    (id, { s with weld := { s.weld with
      serial := n, latest := s.weld.latest.set 0 (masterNum m) n
      welds := (s.weld.welds.filter fun x => x.live || x.serial != old) ++ [w] } })

/-- An outcome of a pair half for the heartbeat (R183, R547): 1 applied, 2 cold shut, 3 deferred. (Log entry 53: DEDUCED.) -/
def State.pairOutcome (s : State) (w : Weld) (o : Nat) : State :=
  match w.pairHalf with
  | none => s
  | some p =>
    let e : PairOutcome := { seq := p.seq, target := w.target, outcome := o, reason := w.reason, id := w.id }
    { s with weld := { s.weld with outcomes := e :: s.weld.outcomes.filter fun x => x.seq != p.seq } }

/-- The weld cold-shuts: none of its entries apply, its identifier is FREE (R164, R167). INDEX shows an index past 2,047 modulo 2,048.
(Log entry 84: DESIGN CHOICE.) -/
def State.shutWeld (s : State) (w : Weld) (r : ShutReason) (index : Nat) : State :=
  let w' := { w with st := .coldShut, entries := [], undo := [], reason := r.code, index := index % 2048 }
  let s := ((s.deselect w).putWeld w').pairOutcome w' 2
  (s.incF Regs.WELD_SHUTS 0 16).event pgWeld 0

/-- Writes of a weld in order: (entry index, key). -/
def Weld.keys (w : Weld) : List (Nat × Nat) :=
  ((List.range w.entries.length).zip w.entries).foldl (fun a e => a ++ e.2.map fun kv => (e.1, kv.1)) []

/-- The keys a weld or its accepted undo writes at stroke `t`, `none` when it writes nothing there. (Log entry 38: DEDUCED.) -/
def Weld.keysAt (w : Weld) (t : Nat) : List Nat :=
  if w.st = .pending ∧ w.target = t then w.keys.map (·.2)
  else if w.st = .committed ∧ w.undoAt = some t then w.undo.map (·.key)
  else []

/-- Index of the first entry of `w` that writes a register another weld already due at stroke `t` writes (R168). -/
def State.conflictIndex (s : State) (w : Weld) (t : Nat) : Option Nat :=
  let others := (s.weld.welds.filter fun x => x.serial != w.serial).foldl (fun a x => a ++ x.keysAt t) []
  (w.keys.find? fun e => others.contains e.2).map (·.1)

/-- The weld swaps the patch banks. (Log entry 37: DEDUCED.) -/
def Weld.swaps (w : Weld) : Option Nat :=
  (((List.range w.entries.length).zip w.entries).find? fun e => e.2.any fun kv => kv.1 == Regs.PATCH_SWAP && bit kv.2 0).map (·.1)

/-! ### Commit (R165 to R168, R179) -/

/-- The first boundary at least 256 ticks from now (R165). -/
def State.nextTarget (s : State) : Nat := s.strokeFrom (s.tb + 256)

/-- The stroke a non-zero target names, `none` for one already past (R165). -/
def State.namedStroke (s : State) (t : Nat) : Option Nat :=
  let d := (t + 2 ^ 32 - s.strokeNo % 2 ^ 32) % 2 ^ 32
  if 2 ^ 31 ≤ d then none
  else if s.boundaryTick (s.strokeNo + d) < s.tb + 256 then none else some (s.strokeNo + d)

/-- The stroke that a target word names, ahead of the current stroke or past (R165). -/
def State.strokeOf (s : State) (t : Nat) : Nat :=
  let d := (t + 2 ^ 32 - s.strokeNo % 2 ^ 32) % 2 ^ 32
  if d < 2 ^ 31 then s.strokeNo + d else s.strokeNo + d - 2 ^ 32

/-- The target of a commit with target word `t`: a stroke, or LATE. -/
def State.commitTarget (s : State) (t : Nat) (lateOk pair : Bool) : Option Nat :=
  let c := if t = 0 then some s.nextTarget else s.namedStroke t
  let least := if pair then max s.nextTarget (s.strokeNo + 3) else s.nextTarget
  match c with
  | none => if lateOk then some least else none
  | some k => if k < least then (if lateOk then some least else none) else some k

/-- PAIR_DRIFT is in force on either device of the pair (R179, R186). -/
def State.pairDrift (s : State) : Bool := s.b Regs.TB_SYNC 2 || s.b Regs.PAIR_STAT 25

/-- The lead refuses a pair commit at once (R179). -/
def State.pairRefused (s : State) : Bool := !s.paired || !s.actsLead || s.pr != prLive || s.b Regs.PAIR_STAT 25

/-- First validation of an OPEN weld for stroke `t`, `none` for LATE: the reason and index of a failure (R167). -/
def State.firstFail (s : State) (w : Weld) (t : Option Nat) : Option (ShutReason × Nat) :=
  match w.mark with
  | some m => some m
  | none =>
    match t with
    | none => some (.late, 0)
    | some t =>
      match w.swaps with
      | some i => if s.b Regs.PATCH_STAT 1 then some (.rebuild, i) else (s.conflictIndex w t).map fun i => (.conflict, i)
      | none => (s.conflictIndex w t).map fun i => (.conflict, i)

/-- The weld commits for stroke word `t`; `pair` names the follower half of a pair weld. -/
def State.commitWeld (s : State) (w : Weld) (t : Nat) (lateOk : Bool) (pair : Option Nat) : State :=
  if pair.isSome ∧ s.pairRefused then s.shutWeld w .pair 0
  else
    let c := s.commitTarget t lateOk pair.isSome
    match s.firstFail w c with
    | some f => s.shutWeld w f.1 f.2
    | none =>
      let k := c.getD 0
      let half := pair.map fun p => ({ lead := true, peerId := p, seq := s.nextSeq 1 } : PairHalf)
      let w' := { w with st := .pending, target := k, lateOk := lateOk, order := s.weld.order, pairHalf := half }
      let s := (s.deselect w).putWeld w'
      let s := { s with weld := { s.weld with order := s.weld.order + 1 } }
      match pair with
      | none => s
      | some p => s.queueMsg 1 1 [Word.of k, Word.of (p * 16 + w.id)]

/-- A commit of identifier `id` by master `m` is not ignored: an OPEN weld of its own (R165). -/
def State.commitTakes (s : State) (m : Master) (id : Nat) : Bool :=
  match s.weldOf id with
  | none => false
  | some w => w.st == .open_ && w.opener == m

/-- A write of WELD.COMMIT by master `m` (R165). -/
def State.weldCommit (s : State) (m : Master) (v : Word) : State :=
  match s.weldOf (bits v 0 4) with
  | none => s.range pgWeld 0x054
  | some w =>
    if s.commitTakes m (bits v 0 4) then
      s.commitWeld w (s.w (perKey m Regs.WELD_TARGET)).toNat (bit v 31) (if bit v 30 then some (bits v 4 4) else none)
    else s.range pgWeld 0x054

/-! ### Abort and undo (R170 to R173) -/

/-- An abort of a pair half comes too late: a follower half that has voted YES, a lead half at or after boundary t - 1 (R170). -/
def State.abortLate (s : State) (w : Weld) : Bool :=
  match w.pairHalf with
  | none => false
  | some p => w.st == .pending && (if p.lead then decide (s.boundaryTick (w.target - 1) ≤ s.tb) else p.vote == some true)

/-- An abort of identifier `id` by master `m` is not ignored (R170). -/
def State.abortTakes (s : State) (m : Master) (id : Nat) : Bool :=
  match s.weldOf id with
  | none => false
  | some w => w.opener == m && (w.st == .open_ || w.st == .pending) && !s.abortLate w

/-- A write of WELD.ABORT by master `m` (R170). -/
def State.weldAbort (s : State) (m : Master) (v : Word) : State :=
  match s.weldOf (bits v 0 4) with
  | none => s.range pgWeld 0x058
  | some w =>
    if s.abortTakes m (bits v 0 4) then
      let s := match w.pairHalf with
        | some p => if p.lead then s.queueMsg 1 3 [Word.of (p.seq * 65536)] else s
        | none => s
      s.shutWeld w .aborted 0
    else s.range pgWeld 0x058

/-- An undo cold-shuts: the weld stays COMMITTED (R172). -/
def State.shutUndo (s : State) (w : Weld) (r : ShutReason) : State :=
  (s.putWeld { w with undoAt := none, reason := r.code }).incF Regs.WELD_SHUTS 0 16

/-- An accepted undo of `w` at stroke `c` (R171, R172). -/
def State.acceptUndo (s : State) (w : Weld) (c : Nat) (pair : Bool) : State :=
  let others := (s.weld.welds.filter fun x => x.serial != w.serial).foldl (fun a x => a ++ x.keysAt c) []
  if w.undo.any fun u => others.contains u.key then s.shutUndo w .conflict
  else
    let s := s.putWeld { w with undoAt := some c, undoOrder := s.weld.order, undoPair := pair }
    { s with weld := { s.weld with order := s.weld.order + 1 } }

/-- An undo of identifier `id` by master `m` of domain `d` is not ignored: its window is open (R171). -/
def State.undoTakes (s : State) (m : Master) (d : Domain) (id : Nat) : Bool :=
  match s.weldOf id with
  | none => false
  | some w =>
    w.st == .committed && (w.opener == m || d == .owner) && w.undoAt.isNone && decide (s.tb < s.boundaryTick (w.applied + 4))

/-- A write of WELD.UNDO by master `m` of domain `d` (R171). -/
def State.weldUndo (s : State) (m : Master) (d : Domain) (v : Word) : State :=
  match s.weldOf (bits v 0 4) with
  | none => s.range pgWeld 0x05C
  | some w =>
    if s.undoTakes m d (bits v 0 4) then s.acceptUndo w s.nextTarget false else s.range pgWeld 0x05C

/-! ### Status (R164, R189) -/

/-- The code of a weld's state. -/
def WeldState.code : WeldState → Nat
  | .open_ => 1 | .pending => 2 | .committed => 3 | .coldShut => 4 | .undone => 5 | .closed => 6

/-- WELD.STATUS as master `m` reads it. -/
def State.weldStatus (s : State) (m : Master) : Word :=
  match s.weldBySerial (s.weld.latest.get 0 (masterNum m)) with
  | none => 0
  | some w =>
    Word.of (w.st.code * 0x10000000 + w.id * 0x1000000 + w.reason * 0x10000 + b2n w.drifted * 0x8000 + b2n w.split * 0x4000 + w.index)

/-- WELD.IDS (R156). -/
def State.weldIds (s : State) : Word :=
  let opens := (s.weld.welds.filter fun w => w.st == .open_).length
  let used := (s.weld.welds.filter fun w => w.st == .pending || w.st == .committed).length
  Word.of (s.staged * 65536 + used * 256 + opens * 16 + s.freeIds.length)

/-! ### CMDQ (R186, R187) -/

/-- Master `m`'s STG writes enter CMDQ: WELD.MODE.QACTIVE (R186). -/
def State.queueActive (s : State) (m : Master) : Bool :=
  let sel := s.f (perKey m Regs.WELD_MODE) 0 2
  sel == 1 || (sel == 2 && (s.freeIds.isEmpty || s.staged == 2048 || s.pairDrift))

/-- WELD.CMDQ as master `m` reads it. -/
def State.cmdqWord (s : State) (m : Master) : Word :=
  Word.of ((256 - s.weld.cmdq.length) * 65536 + (s.weld.cmdq.filter fun e => e.master == m).length)

/-- A write enters CMDQ; with none of the 256 entries free it is refused (R187). (Log entry 39: DEDUCED.) -/
def State.cmdqPut (s : State) (m : Master) (d : Domain) (kvs : List KeyVal) : Bool × State :=
  if 256 ≤ s.weld.cmdq.length then (false, s.incF Regs.WELD_CMDQ_EVT 0 16)
  else
    let e : CmdqEntry := { master := m, domain := d, session := s.inSession m, words := kvs, at_ := s.tb }
    (true, { s with weld := { s.weld with cmdq := s.weld.cmdq ++ [e] } })

/-! ### Staging (R162, R166) -/

/-- A write under the weld has failed: the weld is marked with its reason and index (R166). -/
def State.markWeld (s : State) (w : Weld) (r : ShutReason) : State :=
  s.putWeld { w with writes := w.writes + 1, mark := some (w.mark.getD (r, w.writes)) }

/-- A write is staged as one entry, or counts only under a marked weld; one that finds no free entry marks the weld (R162, R166).
(Log entry 38: DEDUCED.) -/
def State.stageWrite (s : State) (w : Weld) (kvs : List KeyVal) : State :=
  if w.mark.isSome then s.putWeld { w with writes := w.writes + 1 }
  else if 2048 ≤ s.staged then s.markWeld w .capacity
  else s.putWeld { w with writes := w.writes + 1, entries := w.entries ++ [kvs] }

/-! ### The pair protocol (R180 to R185) -/

/-- The follower receives PREPARE: it validates its half and votes (R181). One that comes after boundary t - 1 fails with PAIR. -/
def State.prepare (s : State) (seq target id : Nat) : State :=
  let vote := fun (s : State) (r : Nat) => s.queueMsg 1 2 [Word.of (seq % 65536 * 65536 + (if r = 0 then 256 else r))]
  match s.weldOf id with
  | none => vote s 6
  | some w =>
    if w.st = .open_ then
      let t := s.strokeOf target
      let w1 := { w with target := t, pairHalf := some { lead := false, peerId := id, seq := seq, vote := some true } }
      if s.b Regs.TB_SYNC 2 ∨ s.braced ∨ s.boundaryTick (t - 1) < s.tb then vote (s.shutWeld w1 .pair 0) 6
      else match s.firstFail w (some t) with
        | some f => vote (s.shutWeld w1 f.1 f.2) f.1.code
        | none =>
          let s := (s.deselect w).putWeld { w1 with st := .pending, order := s.weld.order }
          vote { s with weld := { s.weld with order := s.weld.order + 1 } } 0
    else vote s 6

/-- The pending lead or follower half whose PREPARE had that SEQ. -/
def State.halfOf (s : State) (lead : Bool) (seq : Nat) : Option Weld :=
  s.weld.welds.find? fun w => w.st == .pending && (match w.pairHalf with | some p => p.lead == lead && p.seq == seq | none => false)

/-- The lead receives the follower's vote (R180, R182). -/
def State.takeVote (s : State) (seq : Nat) (yes : Bool) : State :=
  match s.halfOf true seq with
  | none => s
  | some w => s.putWeld { w with pairHalf := w.pairHalf.map fun p => { p with vote := some yes } }

/-- An ABORT cold-shuts the named follower half with PAIR (R182). -/
def State.takeAbort (s : State) (seq : Nat) : State :=
  match s.halfOf false seq with
  | none => s
  | some w => s.shutWeld w .pair 0

/-- The lead decides its pair welds due at boundary b + 1 (R182). -/
def State.pairDecide (s : State) (b : Nat) : State :=
  (s.weld.welds.filter fun w => w.st == .pending && w.target == b + 1).foldl (fun s w =>
    match w.pairHalf with
    | some p =>
      if p.lead && !p.decided then
        if p.vote == some true && !s.braced && !s.b Regs.PAIR_STAT 26 then
          s.putWeld { w with pairHalf := some { p with decided := true } }
        else (s.queueMsg 1 3 [Word.of (p.seq * 65536)]).shutWeld w .pair 0
      else s
    | none => s) s

/-- Every PENDING pair half cold-shuts with PAIR (R185, R565). -/
def State.shutPairHalves (s : State) : State :=
  (s.weld.welds.filter fun w => w.st == .pending && w.pairHalf.isSome).foldl (fun s w => s.shutWeld w .pair 0) s

/-- The partner's outcomes (R183): an applied half whose other half cold-shut is undone at the next boundary; a deferral on either side
splits the pair weld. -/
def State.compareOutcomes (s : State) (l : List PairOutcome) : State :=
  l.foldl (fun s o =>
    match s.weld.outcomes.find? fun x => x.seq == o.seq with
    | none => s
    | some mine =>
      match s.weld.welds.reverse.find? fun w => w.live && (match w.pairHalf with | some p => p.seq == o.seq | none => false) with
      | none => s
      | some w =>
        if mine.outcome = 1 ∧ o.outcome = 2 ∧ w.st = .committed ∧ w.undoAt = none then
          s.acceptUndo w (s.strokeNo + 1) true
        else if (mine.outcome = 3 ∧ o.outcome = 1) ∨ (mine.outcome = 1 ∧ o.outcome = 3) then s.putWeld { w with split := true }
        else s) s

end Sys2Proof.Machine
end

