-- ==== Sys2Proof/Machine/SchedBase.lean ====
section
/-!
DEFINITION. The scheduler's entries (chapter 04): arming, cancelling, the sleep drop, and the change of the hearth rate. Firing is in
`Machine.Sched`.
-/

namespace Sys2Proof.Machine

/-- SCHED's page. -/
def pgSched : Nat := 0x04

/-- The entries of the scheduler (R115). -/
def schedSize : Nat := 4096

/-- The payload bits a kind names (R116); `none` for a reserved kind. -/
def kindBits : Nat → Option Nat
  | 1 | 2 => some 0xF3F3F
  | 3 | 4 | 5 => some 0xFFFF
  | 6 => some 0xF
  | 7 => some 3
  | 8 | 9 | 10 => some 0xFFFF
  | 11 => some 0xFFFFFFFF
  | _ => none

/-- The kind may carry an empty payload: IRQ's tag, and TEST's word. -/
def kindEmptyOk (kind : Nat) : Bool := kind == 10 || kind == 11

/-- The page of bit `i` of a PORT_START payload. -/
def portPage (i : Nat) : Nat :=
  if i < 6 then 0x10 + i else if i < 14 then 0x10 + (i - 8) else if i = 16 then 0x16 else if i = 17 then 0x17
  else if i = 18 then 0x26 else 0x27

/-- The units an action names: the bit of its payload, the page, and the byte offset of the word that the action acts on. -/
def actionUnits (kind : Nat) (payload : Word) : List (Nat × Nat × Nat) :=
  match kind with
  | 1 | 2 => (setBitsOf 20 payload.toNat).map fun i =>
      (i, portPage i, if i < 14 then 0x05C else if i = 16 then 0x008 else if i = 17 then 0x040 else if i = 18 then 0x048 else 0x044)
  | 3 => (setBitsOf 16 payload.toNat).map fun i => (i, chPage i, 0x044)
  | 4 | 5 => (setBitsOf 16 payload.toNat).map fun i => (i, chPage i, 0x048)
  | 7 => (setBitsOf 2 payload.toNat).map fun i => (i, 0x74 + i, 0x040)
  | 8 | 9 => if payload = 0 then [] else [(0, 0x7E, 0x04C)]
  | _ => []

/-- The check of an entry's kind and payload at arm (R116): true where RANGE refuses it. -/
def kindRefused (kind : Nat) (payload : Word) : Bool :=
  match kindBits kind with
  | none => true
  | some m => (payload.toNat &&& m) != payload.toNat || (payload == 0 && !kindEmptyOk kind)

/-- The arming domain may arm the action (R118): read-and-write rights on every page it names, and TEST for kind TEST. -/
def State.armRights (s : State) (d : Domain) (kind : Nat) (payload : Word) : Bool :=
  if kind = 11 then d == .test else (actionUnits kind payload).all fun u => s.rights d u.2.1 == 3

/-- The due tick of an entry (R119 to R121). -/
def SchedEntry.due (e : SchedEntry) (s : State) : Nat := if e.boundary then s.boundaryTick e.time else e.time

/-- The reason of R118 with which a read of SCHED.ARM refuses the entry, 0 where it arms. -/
def State.armReason (s : State) (d : Domain) (boundary lateOk : Bool) (time kind : Nat) (payload : Word) : Nat :=
  if kindRefused kind payload then 2
  else if !s.armRights d kind payload then 1
  else if (if boundary then s.boundaryTick time else time) < s.tb + 256 ∧ lateOk = false then 3
  else if schedSize ≤ s.sched.length then 4 else 0

/-- The lowest index at or above `i` that no entry of the list holds. -/
def freeIndex (l : List SchedEntry) : Nat → Nat → Nat
  | 0, i => i
  | fuel + 1, i => if l.any fun e => e.idx == i then freeIndex l fuel (i + 1) else i

/-- FULL is present while no entry is free (R126). -/
def State.schedLevel (s : State) : State :=
  let full := decide (schedSize ≤ s.sched.length)
  if s.b (Regs.IRQ_RAW pgSched) 3 = full then s else s.level pgSched 3 full

/-- An entry is armed at the lowest free index (R117, R121): a past one keeps the first moment at which it may fire. -/
def State.armEntry (s : State) (m : Master) (d : Domain) (boundary lateOk : Bool) (time kind : Nat) (payload : Word) : Nat × State :=
  let past := decide ((if boundary then s.boundaryTick time else time) < s.tb + 256)
  let i := freeIndex s.sched s.sched.length 0
  let e : SchedEntry :=
    { idx := i, master := m, domain := d, session := s.inSession m
      time := if past then (if boundary then s.strokeNo + 1 else s.tb) else time
      boundary := boundary, lateOk := lateOk, past := past, kind := kind, payload := payload, order := s.schedOrder }
  (i, ({ s with sched := s.sched ++ [e], schedOrder := s.schedOrder + 1 } : State).schedLevel)

/-- A read of SCHED.ARM by master `m` of domain `d` (R117, R118). -/
def State.schedArm (s : State) (m : Master) (d : Domain) : Word × State :=
  let lo := (s.w (perKey m Regs.SCHED_NEW_LO)).toNat
  let hi := (s.w (perKey m Regs.SCHED_NEW_HI)).toNat
  let ctrl := s.w (perKey m Regs.SCHED_NEW_CTRL)
  let payload := s.w (perKey m Regs.SCHED_NEW_PAYLOAD)
  let time := lo + 2 ^ 32 * hi
  let r := s.armReason d (bit ctrl 31) (bit ctrl 30) time (bits ctrl 0 4) payload
  if r ≠ 0 then (Word.of (r * 0x1000000), s)
  else
    let x := s.armEntry m d (bit ctrl 31) (bit ctrl 30) time (bits ctrl 0 4) payload
    (Word.of (0x80000000 + x.1), x.2)

/-- The entries without the one at index `i`. -/
def State.freeEntry (s : State) (i : Nat) : State := ({ s with sched := s.sched.filter fun e => e.idx != i } : State).schedLevel

/-- A write of SCHED.CANCEL by master `m` of domain `d` (R124). -/
def State.schedCancel (s : State) (m : Master) (d : Domain) (v : Word) : State :=
  let k := perKey m Regs.SCHED_CANCEL_STAT
  match s.sched.find? fun e => e.idx == bits v 0 12 && !e.fired with
  | none => s.setW k 1
  | some e => if d = e.domain ∨ d = .owner then (s.freeEntry e.idx).setW k 0 else s.setW k 2

/-- Entry to BANKED or EMBER returns every entry to free; DROPPED records how many (R125). -/
def State.schedDrop (s : State) : State :=
  let s := s.setF Regs.SCHED_COUNT_HI 16 16 s.sched.length
  ({ s with sched := [] } : State).schedLevel

/-- A miss of entry `idx` (R118, R126): SCHED.MISS and cause MISS. (Log entry 33: DEDUCED.) -/
def State.schedMiss (s : State) (idx reason : Nat) : State :=
  let k := Regs.SCHED_MISS
  (s.setW k (Word.of (reason * 0x10000000 + idx % 4096 * 65536 + satU 0xFFFF (s.f k 0 16 + 1)))).event pgSched 1

/-- A change of the hearth rate (R111): boundary actions whose boundary is past under the new rate fire at the next boundary with
LATE_OK, and miss with LATE otherwise. -/
def State.schedRate (s : State) : State :=
  let late := s.sched.filter fun e => e.boundary && !e.fired && decide (e.due s < s.tb + 256)
  late.foldl (fun (s : State) (e : SchedEntry) =>
    if e.lateOk then
      { s with sched := s.sched.map fun x => if x.idx = e.idx then { x with time := s.strokeNo + 1, past := true } else x }
    else (s.freeEntry e.idx).schedMiss e.idx 3) s

end Sys2Proof.Machine
end

