-- ==== Sys2Proof/Machine/RegCheck.lean ====
section
/-!
DEFINITION. Which register row a key belongs to, and the refusals of a write that depend on the state its block is in (R46 and the
register rules of chapters 03 to 25).
-/

namespace Sys2Proof.Machine

/-! ### Keys and rows -/

/-- Page and byte offset of the register that the word with key `k` is shown at. -/
def keyPlace (k : Nat) : Nat × Nat :=
  let k := keyLow k
  if k < 0x10000 then (k / 256, k % 256 * 4)
  else if k < 0x12000 then (0x09, k % 256 * 4)
  else if k < 0x13000 then (0x72, k % 256 * 4)
  else if k < 0x14000 then (0x73, k % 256 * 4)
  else if k < 0x18000 then (0x08, if k % 2 = 0 then 0x04C else 0x050)
  else if k < 0x1A000 then (0x06, 0x058 + k % 8 * 4)
  else if k < 0x1C000 then (0x08, 0x064 + k % 8 * 4)
  else if k < 0x1D000 then (0x0F, 0x044 + k % 4 * 4)
  else if k < 0x1F000 then (0x0F, 0x05C)
  else if k < 0x1F100 then (0x0D, if k % 2 = 0 then 0x05C else 0x060)
  else if k < 0x200000 then (0x0B, 0x044)
  else (0x80 + (k - 0x200000) / 0x8000, 0x074)

/-- The register row of key `k`. -/
def keyRow (k : Nat) : Option RegRow := rowAt (keyPlace k).1 (keyPlace k).2

/-- The bits of a row that a write reaches (R42). -/
def RegRow.writable (r : RegRow) : Nat := r.rw ||| r.stg ||| r.w1c ||| r.wo ||| r.rws

/-- The bits of a row that are assigned; a 1 written elsewhere is RESERVED (R45). -/
def RegRow.assigned (r : RegRow) : Nat := r.writable ||| r.ro

/-- The row is an STG register: a write of it is staged or applied by R47 and R62. -/
def RegRow.isStg (r : RegRow) : Bool := r.stg != 0

/-- Node of a mixer key, channel of a TONGS key, anvil of a memory key: the instance a windowed key stands for. -/
def keyUnit (k : Nat) : Nat :=
  let k := keyLow k
  if k < 0x12000 then (k - 0x10000) / 256
  else if k < 0x13000 then (k - 0x12000) / 256
  else if k < 0x14000 then (k - 0x13000) / 256
  else if k < 0x18000 then (k - 0x14000) / 2
  else if k < 0x1A000 then (k - 0x18000) / 8
  else if k < 0x1C000 then (k - 0x1A000) / 8
  else if k < 0x1D000 then (k - 0x1C000) / 4
  else if k < 0x1F000 then (k - 0x1D000) / 128
  else (k - 0x200000) / 0x8000

/-! ### Ranges that the key's own value decides -/

/-- FIN LIM.THR: off, or from -48 dBFS to 0 (R277). -/
def limThrOk (t : Int) : Bool := t == -0x8000 || (decide (-0x3000 ≤ t) && decide (t ≤ 0))

/-- The field values that are legal in any state, of the register that key `k` stands for. -/
def keyRangeOk (k : Nat) (v : Word) : Bool :=
  let p := (keyPlace k).1
  let off := (keyPlace k).2
  rangeOk p off v &&
    (match pageKind p with
     | some .inc => off != 0x040 || decide (bits v 0 4 ≤ 8)
     | some .fin => (off != 0x040 || decide (bits v 0 4 ≤ 8)) && (off != 0x064 || limThrOk (sext 16 (bits v 0 16)))
     | some .mix =>
       (off != 0x044 || bits v 0 2 != 3) &&
         (off < 0x100 || decide (sext 16 (bits v 0 16) ≤ 0x1800))
     | _ => true)

/-! ### Starts and enables -/

/-- Setting EN to 1 on page `p` is refused with RANGE. -/
def State.enableRefused (s : State) (p : Nat) : Bool :=
  s.loopOn p ||
    (match pageKind p with
     | some .asrc => !s.asrcEnableOk (p - 0x18)
     | some .fin => !s.delayOk (p - 0x48) (s.f (Regs.FIN_DELAY (p - 0x48)) 0 13)
     | some .trk => !s.trkEnableOk
     | some .tongs => !s.senseQueuesOk
     | some .pair => !s.pairEnableOk
     | some .vhk => !s.paired
     | _ => false)

/-- A write of PG_CTRL of page `p` is refused with RANGE: an enable that may not be, or a soft reset of the Stock outside WARM (R150). -/
def State.ctrlRefused (s : State) (p : Nat) (v : Word) : Bool :=
  let fixed := match pageKind p with | some k => alwaysOn k | none => true
  if p = 0x06 then bit v 2 && s.pst != stWarm
  else !fixed && bit v 0 && !s.en p && s.enableRefused p

/-! ### Refusals by page -/

/-- Refusals of the ports and converters that carry audio (chapters 07, 08, 16, 17). (Log entry 42: DEDUCED.) -/
def State.audioRefused (s : State) (p off : Nat) (v : Word) : Bool :=
  match pageKind p with
  | some .sap =>
    let n := p - 0x10
    if off = 0x040 ∨ off = 0x044 ∨ off = 0x048 then s.sapState n false != 0
    else if off = 0x04C ∨ off = 0x050 ∨ off = 0x054 then s.sapState n true != 0
    else if off = 0x05C then s.loopOn p && (bit v 0 || bit v 1)
    else false
  | some .spdif =>
    let old := s.w Regs.SPDIF_CTRL
    off == 0x040 && ((s.spdifState != 0 && (bits v 16 10 != bits old 16 10 || bit v 0 != bit old 0)) ||
      (bit v 3 && s.loopOn p))
  | some .pdm => off == 0x040 && s.pdmIfRefused v
  | some .asrc => (off == 0x040 || off == 0x044 || off == 0x048 || off == 0x04C) && s.en p
  | some .mic =>
    if off < 0x080 then s.micCfgRefused ((off - 0x040) / 4) v
    else if off < 0x0C0 then
      let k := (off - 0x080) / 4
      let old := s.w (Regs.MIC_Q k)
      (s.b (Regs.MIC_CFG k) 31 && bits v 0 10 != bits old 0 10) || (s.b (Regs.MIC_CFG k) 30 && bits v 16 10 != bits old 16 10)
    else false
  | some .lin =>
    if off = 0x040 ∨ off = 0x044 then s.linRunning
    else off == 0x048 && bit v 0 && s.loopOn p
  | some .hpo =>
    if off = 0x040 then s.hpoState != 0
    else off == 0x044 && ((bit v 0 && (s.loopOn p || !s.hpoStartOk)) || (bit v 1 && !s.hpoStopOk))
  | _ => false

/-- Refusals of the chains, the patch and the stages (chapters 08, 09, 13, 14, 15). -/
def State.driveRefused (s : State) (p off : Nat) (v : Word) : Bool :=
  match pageKind p with
  | some .patch =>
    if off = 0x040 then bit v 0 && s.b Regs.PATCH_STAT 2
    else off == 0x058
  | some .fin =>
    let n := p - 0x48
    if off = 0x05C then !s.delayOk n (bits v 0 13) || !s.trkKeeps n (bits v 0 13) (s.level16 (Regs.FIN_LIM n) 0)
    else if off = 0x060 then s.en p
    else if off = 0x064 then
      let thr := sext 16 (bits v 0 16)
      (s.en p && ((thr == -0x8000) != (s.level16 (Regs.FIN_LIM n) 0 == -0x8000))) || !s.trkKeeps n (s.f (Regs.FIN_DELAY n) 0 13) thr
    else false
  | some .stg | some .xst =>
    let c := p - 0x60
    if off = 0x040 then s.chCfgRefused c v
    else off == 0x044 && (!s.chanCmdOk c v || (bit v 0 && s.loopOn p))
  | some .trk => (decide (0x040 ≤ off) && decide (off ≤ 0x050)) && s.en p
  | some .sns => off == 0x040 && s.en pgTongs
  | some .diag =>
    if off = 0x05C then s.diagRunRefused
    else decide (0x040 ≤ off) && decide (off ≤ 0x058) &&
      (s.f Regs.DIAG_STAT 16 16 != 0 || ((off == 0x04C || off == 0x050) && !s.diagThrOk off v))
  | _ => false

/-- Refusals of the forge (chapters 10 and 12): `k` names the word. -/
def State.forgeRefused (s : State) (k p off : Nat) (v : Word) : Bool :=
  match pageKind p with
  | some .anv =>
    let n := p - 0x80
    let st := s.anvState n
    if off = 0x040 then !s.anvCmdOk n v.toNat
    else if off = 0x048 then st != anEmpty && st != anHalted
    else if off = 0x064 ∨ off = 0x068 then st == anRun || st == anLate
    else off == 0x074 && decide (0x4000 ≤ (k - 0x200000) % 0x8000)
  | some .dbg =>
    if off = 0x058 then decide (bits v 0 7 < 0x40) && (crWide (bits v 0 7)).isNone
    else off == 0x05C && s.anvState (keyUnit k) != anHalted
  | _ => false

/-- Refusals of power, security, test and link (chapters 02, 03, 05, 18 to 23, 25): `k` names the word. A write of CLK.HEARTH that
leaves RATE as it stands is accepted in every state. (Log entries 20: DEDUCED, 87: DESIGN CHOICE.) -/
def State.systemRefused (s : State) (k p off : Nat) (v : Word) : Bool :=
  match pageKind p with
  | some .sys => off == 0x048 && bits v 16 16 != 0x5253
  | some .pwr => off == 0x040 && !s.b Regs.PWR_STAT 3 && s.sleepRefused (bits v 0 3)
  | some .clk =>
    if off = 0x040 then s.pst != stWarm
    else off == 0x044 &&
      ((bit v 0 != s.b Regs.CLK_HEARTH 0 && s.pst != stWarm) || (bits v 4 2 == 1 && s.actingFollow))
  | some .stock =>
    if off = 0x058 then s.qdCfgRefused (keyUnit k) v
    else off == 0x05C && (s.queue (keyUnit k)).on && v != (s.queue (keyUnit k)).ends
  | some .aux =>
    let n := p - 0x74
    if off = 0x040 then (bit v 1 && !s.auxStartOk n) || (bit v 2 && !s.auxRuns n)
    else decide (0x044 ≤ off) && decide (off ≤ 0x054) && s.auxRuns n
  | some .twc =>
    let n := p - 0x77
    if off = 0x040 then s.b (Regs.TWC_STAT n) 0
    else off == 0x044 && !s.twcRoom n
  | some .qspi => (off == 0x044 || off == 0x048) && (s.b Regs.QSPI_STAT 1 || !s.en p)
  | some .vhk =>
    if off = 0x040 then s.link != 0
    else if off = 0x048 then s.slotRefused v
    else off == 0x04C && s.w Regs.VHK_SLOT != 0
  | some .pair =>
    if off = 0x044 then s.pairCmdRefused v
    else if off = 0x050 then s.en p
    else off == 0x064 && s.b Regs.PAIR_RRES 30
  | some .sec =>
    if off = 0x044 then bits v 16 16 != 0x4C43 || !s.lcOk (bits v 0 3)
    else off == 0x0E8 && !s.rbOk (bits v 0 6)
  | some .img => off == 0x048 && bit v 0 && !s.loadOk
  | some .fault => off == 0x044 && !s.faultClearOk (bits v 0 8) (bits v 8 8)
  | some .test =>
    if off = 0x040 then bit v 31 && s.loopGoRefused v
    else off == 0x044 && s.tst.loop.isSome
  | _ => false

/-- The code with which a direct write of `v` to the word with key `k` is refused by the state of its block, for a page out of its soft
reset; `none` where it is accepted. Patch entries are judged by `entryRefused`. -/
def State.dynRefused (s : State) (k : Nat) (v : Word) : Option Nat :=
  let p := (keyPlace k).1
  let off := (keyPlace k).2
  if off < 0x040 then (if off = 0x008 ∧ s.ctrlRefused p v then some errRange else none)
  else if p = 0x0B ∧ off = 0x048 ∧ s.b Regs.OTP_STAT 0 then some errBusy
  else if !keyRangeOk k v || s.audioRefused p off v || s.driveRefused p off v || s.forgeRefused k p off v || s.systemRefused k p off v
  then some errRange else none

end Sys2Proof.Machine
end

