-- ==== Sys2Proof/Machine/Ledger.lean ====
section
/-!
DEFINITION. The ledger (R151 to R155): audits, breaches and the rebuild that follows one.
-/

namespace Sys2Proof.Machine

/-- LEDGER's page. -/
def pgLedger : Nat := 0x07

/-- TRIGGER codes of LEDGER.AUDIT: a boundary, a change of power state, a request. -/
def trigBoundary : Nat := 0
/-- A change of power state. -/
def trigState : Nat := 1
/-- A write of AUDIT_NOW, and the audit that ends a rebuild. -/
def trigRequest : Nat := 2

/-- A breach (R155): fault LEDGER, BREACH's count and cause, the rebuild of the Stock, and the anvils held until an audit passes.
`cause` is 1 billet audit, 2 scheduler audit, 3 credit check, 4 ledger memory. -/
def State.breach (s : State) (cause : Nat) : State :=
  let k := Regs.LEDGER_BREACH
  let s := s.setW k (Word.of (cause * 65536 + satU 0xFFFF (s.f k 0 16 + 1)))
  let s := s.raiseDevice 0x12 pgLedger false
  let s := { s with stock := { s.stock with breached := true, passedSince := false } }
  let s := if cause = 2 then ({ s with sched := [] } : State).schedLevel else s
  if s.stock.rebuilding then s else s.stockEmpty

/-- The six terms of an audit; an injected double count adds one to the queue-held billets (R608). -/
def State.auditTerms (s : State) : Terms :=
  let t := s.terms
  if s.tst.injLedger then { t with queue := t.queue + 1 } else t

/-- The billet equation (R151). -/
def Terms.balanced (t : Terms) : Bool := t.free + t.queue + t.anvil + t.weld + t.link + t.quar == 65536

/-- The scheduler equation (R115, R151): free, armed and fired-pending entries make 4,096. -/
def State.schedBalanced (s : State) : Bool :=
  let armed := (s.sched.filter fun e => !e.fired).length
  let fired := (s.sched.filter fun e => e.fired).length
  (schedSize - s.sched.length) + armed + fired == schedSize

/-- An audit (R153): the equations are checked and LEDGER shows the result, the trigger, the stroke and the six terms; a failed one is a
breach (R154). (Log entry 30: DESIGN CHOICE.) -/
def State.audit (s : State) (trigger : Nat) : State :=
  let t := s.auditTerms
  let b := !t.balanced
  let c := !s.schedBalanced
  let m := s.stock.lmemBad
  let bad := b || c || m
  let s := { s with tst := { s.tst with injLedger := false }, stock := { s.stock with auditReq := false, lmemBad := false } }
  let s := s.setWs
    [(Regs.LEDGER_AUDIT, Word.of ((if bad then 2 else 1) * 0x40000000 + trigger * 0x10000000 + b2n (s.b Regs.TEST_INJ 31) * 0x8000000 +
        b2n b * 0x4000000 + b2n c * 0x2000000 + b2n m * 0x1000000 + s.strokeNo % 0x1000000)),
     (Regs.LEDGER_B_FREE, Word.of t.free), (Regs.LEDGER_B_QUEUE, Word.of t.queue), (Regs.LEDGER_B_ANVIL, Word.of t.anvil),
     (Regs.LEDGER_B_WELD, Word.of t.weld), (Regs.LEDGER_B_LINK, Word.of t.link), (Regs.LEDGER_B_QUAR, Word.of t.quar)]
  if bad then (s.event pgLedger 0).breach (if b then 1 else if c then 2 else 4)
  else { s with stock := { s.stock with passedSince := s.stock.passedSince || !s.stock.rebuilding } }

/-- The credit equation of queue `q` holds (R136, R151): ISSUED - RETURNED is the number of billets it owns, and none is granted beyond
DEPTH. -/
def State.creditOk (s old : State) (q : Nat) : Bool :=
  let x := s.queue q
  (s.billetsOf q).length == x.outstanding && (x.issued == (old.queue q).issued || decide (x.outstanding ≤ max x.depth (old.queue q).depth))

/-- The credit equation holds for every queue that has granted a credit or taken one back since `old`. -/
def State.creditsOk (s old : State) : Bool :=
  s.stock.rebuilding || s.stock.queues == old.stock.queues || s.stock.queues.all fun e =>
    (e.2.issued == (old.queue e.1).issued && e.2.returned == (old.queue e.1).returned) || s.creditOk old e.1

/-- The Stock checks the credit equation of every queue that has granted a credit or taken one back since `old` (R153); a queue that fails
it is a breach (R154). -/
def State.creditCheck (s old : State) : State := if s.creditsOk old then s else s.breach 3

/-- The ledger reads the location record of a billet that moves, or that the scrubber reads; `bad` says that the record holds an
uncorrectable error, which is a breach (R154). -/
def State.locationRead (s : State) (bad : Bool) : State := if bad then s.breach 4 else s

/-- The scrubber's pass over the ledger's own memory (R149, R154): an uncorrectable error of a location record is a breach at once, one of a
counter (`ctr`) at the next audit. -/
def State.scrubLedger (s : State) (rec ctr : Bool) : State :=
  let s := if ctr then { s with stock := { s.stock with lmemBad := true } } else s
  s.locationRead rec

/-- A write of AUDIT_NOW (R153): at once in WARM, at the next boundary in FORGING. (Log entry 35: DEDUCED.) -/
def State.auditNow (s : State) : State :=
  if s.forging then { s with stock := { s.stock with auditReq := true } } else s.audit trigRequest

/-- A boundary's audit (R153): a requested one shows as requested. -/
def State.auditBoundary (s : State) : State := s.audit (if s.stock.auditReq then trigRequest else trigBoundary)

/-- The soft reset or rebuild of the Stock finishes (R150, R155): the billets of `bad` have failed their check; a rebuild audits.
(Log entry 35: DEDUCED.) -/
def State.rebuildDone (s : State) (bad : List Nat) : State :=
  if s.stock.rebuilding then
    let s := (s.stockFill (rising 65536 bad)).busyFlush 0x06
    if s.stock.breached then s.audit trigRequest else s
  else s

end Sys2Proof.Machine
end

