-- ==== Sys2Proof/Machine/Session.lean ====
section
/-!
DEFINITION. The end of an owner session (R570) and the dropping of CMDQ entries (R187).
-/

namespace Sys2Proof.Machine

/-- A dropped CMDQ entry is recorded in its page's PG_ERR, counted, and raises CMDQ_DROP (R187). -/
def State.cmdqDrop (s : State) (e : CmdqEntry) (code : Nat) : State :=
  let place := keyPlace ((e.words.getLast?.map (·.1)).getD 0)
  ((s.err place.1 place.2 code).incF Regs.WELD_CMDQ_EVT 16 16).event pgWeld 2

/-- The CMDQ entries of `p` leave the queue, dropped with `code`. -/
def State.cmdqDropIf (s : State) (p : CmdqEntry → Bool) (code : Nat) : State :=
  let out := s.weld.cmdq.filter p
  let s := { s with weld := { s.weld with cmdq := s.weld.cmdq.filter fun e => !p e } }
  out.foldl (fun (s : State) (e : CmdqEntry) => s.cmdqDrop e code) s

/-- The owner session of port `m` ends (R570): its OPEN and PENDING welds of the session cold-shut with ACCESS, its queued entries are
dropped, and the scheduler entries it armed as OWNER are cancelled. -/
def State.endSession (s : State) (m : Master) : State :=
  if s.inSession m then
    let s := s.setB Regs.SEC_LC (sessBit m) false
    let mine := s.weld.welds.filter fun w => w.opener == m && w.session && (w.st == .open_ || w.st == .pending)
    let s := mine.foldl (fun (s : State) (w : Weld) => s.shutWeld w .access 0) s
    let s := s.cmdqDropIf (fun e => e.master == m && e.session) errAccess
    let gone := s.sched.filter fun e => e.master == m && e.session && !e.fired
    gone.foldl (fun (s : State) (e : SchedEntry) => s.freeEntry e.idx) s
  else s

/-- Both ports' owner sessions end. -/
def State.endSessions (s : State) : State := (s.endSession .twt).endSession .spit

end Sys2Proof.Machine
end

