-- ==== Sys2Proof/Machine/Windows.lean ====
section
/-!
DEFINITION. Windows and per-master words: which word of the store an address of the control space names for a master, given the
selectors that the master holds (chapters 02, 04 to 06, 08 to 10, 12, 14, 15, 21, 22).
-/

namespace Sys2Proof.Machine

/-- How many copies stand behind the word at byte offset `off` of page `p`; 1 where it is no window. -/
def windowCount (p off : Nat) : Nat :=
  if p = 0x06 ∧ 0x058 ≤ off ∧ off ≤ 0x06C then 1024
  else if p = 0x08 ∧ (off = 0x04C ∨ off = 0x050) then 512
  else if p = 0x08 ∧ 0x064 ≤ off ∧ off ≤ 0x080 then 1024
  else if p = 0x09 ∧ ((0x044 ≤ off ∧ off ≤ 0x04C) ∨ (0x100 ≤ off ∧ off ≤ 0x1FC)) then 32
  else if p = 0x72 ∧ ((0x060 ≤ off ∧ off ≤ 0x074) ∨ (0x084 ≤ off ∧ off ≤ 0x08C)) then 16
  else if p = 0x73 ∧ 0x068 ≤ off ∧ off ≤ 0x078 then 16
  else if p = 0x0F ∧ 0x044 ≤ off ∧ off ≤ 0x050 then 64
  else if p = 0x0F ∧ off = 0x05C then 8192
  else if p = 0x0D ∧ (off = 0x05C ∨ off = 0x060) then 16
  else if p = 0x0B ∧ off = 0x044 then 512
  else if 0x80 ≤ p ∧ p < 0xC0 ∧ off = 0x074 then 0x8000
  else 1

/-- The key of copy `i` of the word at byte offset `off` of page `p`. (Log entry 13: DESIGN CHOICE.) -/
def windowKey (p off i : Nat) : Nat :=
  if windowCount p off = 1 then p * 256 + off / 4
  else if p = 0x06 then 0x18000 + i * 8 + (off - 0x058) / 4
  else if p = 0x08 then (if off ≤ 0x050 then 0x14000 + 2 * i + (off - 0x04C) / 4 else 0x1A000 + i * 8 + (off - 0x064) / 4)
  else if p = 0x09 then 0x10000 + i * 256 + off / 4
  else if p = 0x72 then 0x12000 + i * 256 + off / 4
  else if p = 0x73 then 0x13000 + i * 256 + off / 4
  else if p = 0x0F then (if off = 0x05C then 0x1D000 + i else 0x1C000 + i * 4 + (off - 0x044) / 4)
  else if p = 0x0D then 0x1F000 + 2 * i + (off - 0x05C) / 4
  else if p = 0x0B then 0x1F100 + i
  else 0x200000 + (p - 0x80) * 0x8000 + i

/-- The register is kept per master. (Log entry 13: DESIGN CHOICE.) -/
def perMaster (p off : Nat) : Bool :=
  match pageKind p with
  | some .sched => decide (off < 0x050 ∧ 0x040 ≤ off) || off == 0x058
  | some .weld => off == 0x050 || off == 0x060 || off == 0x068 || off == 0x080
  | some .stock => off == 0x054
  | some .patch => off == 0x048 || off == 0x060
  | some .mix => off == 0x040
  | some .tongs => off == 0x080
  | some .diag => off == 0x064
  | some .dbg => off == 0x040 || off == 0x058
  | some .fault => off == 0x058
  | some .otp => off == 0x040
  | some .anv => off == 0x070
  | some .sec => decide (0x048 ≤ off ∧ off < 0x058) || decide (0x060 ≤ off ∧ off ≤ 0x0A0)
  | _ => false

/-- The copy that master `m`'s selector names. -/
def State.windowSel (s : State) (m : Master) (p off : Nat) : Nat :=
  let at_ := fun (k lo len : Nat) => s.f (perKey m k) lo len
  if p = 0x06 then at_ Regs.STOCK_QSEL 0 10
  else if p = 0x08 then (if off ≤ 0x050 then at_ Regs.PATCH_ESEL 0 9 else at_ Regs.PATCH_SSEL 0 10)
  else if p = 0x09 then at_ Regs.MIX_NSEL 0 5
  else if p = 0x72 then at_ Regs.TONGS_CSEL 0 4
  else if p = 0x73 then at_ Regs.DIAG_CSEL 0 4
  else if p = 0x0F then
    (if off = 0x05C then at_ Regs.DBG_ASEL 0 6 * 128 + at_ Regs.DBG_RSEL 0 7 else at_ Regs.DBG_ASEL 0 6)
  else if p = 0x0D then at_ Regs.FAULT_LSEL 0 4
  else if p = 0x0B then at_ Regs.OTP_SEL 0 9
  else at_ (Regs.ANV_MSEL (p - 0x80)) 31 1 * 0x4000 + at_ (Regs.ANV_MSEL (p - 0x80)) 0 12

/-- The key that master `m` reaches at byte offset `off` of page `p`. (Log entry 13: DESIGN CHOICE.) -/
def State.resolve (s : State) (m : Master) (p off : Nat) : Nat :=
  if perMaster p off then perKey m (p * 256 + off / 4) else windowKey p off (s.windowSel m p off)

/-- The masters that have words of their own. -/
def allMasters : List Master :=
  [.twt, .spit, .vhk, .jtag, .boot, .pair, .loader, .testAction] ++ (List.range 64).map Master.anvil

/-- Every key behind the word at byte offset `off` of page `p`. -/
def keysAt (p off : Nat) : List Nat :=
  if perMaster p off then allMasters.map fun m => perKey m (p * 256 + off / 4)
  else (List.range (windowCount p off)).map (windowKey p off)

/-- A word whose read acts, and which FREEZE therefore leaves alone: WELD.OPEN, SCHED.ARM and TWCn.RXD. (Log entry 18: DEDUCED.) -/
def readActs (p off : Nat) : Bool :=
  (p == 0x05 && off == 0x040) || (p == 0x04 && off == 0x050) || (decide (0x77 ≤ p ∧ p ≤ 0x79) && off == 0x048)

/-- The keys of the RO words of page `p` (R53). -/
def roKeys (p : Nat) : List Nat :=
  ((List.range 256).map fun i =>
    match rowAt p (4 * i) with
    | none => []
    | some r => if r.writable = 0 ∧ readActs p (4 * i) = false then keysAt p (4 * i) else []).flatten

/-- The LO word of a wide value (R67), whose HI word follows it. SCHED.NEW is two words of their own (R69). (Log entry 32: DEDUCED.) -/
def wideLo (p off : Nat) : Bool :=
  (p == 0x02 && off == 0x058) || (p == 0x03 && (off == 0x040 || (decide (0x060 ≤ off ∧ off < 0x080) && off % 8 == 0))) ||
    (p == 0x04 && off == 0x060) || (p == 0x05 && off == 0x078) ||
    (p == 0x08 && (off == 0x04C || (decide (0x064 ≤ off ∧ off ≤ 0x07C) && off % 8 == 4))) ||
    (p == 0x25 && (off == 0x054 || off == 0x05C)) || (p == 0x7D && (off == 0x054 || off == 0x05C)) || (p == 0x0A && off == 0x0E0)

/-- The HI word of a wide value. (Log entry 32: DEDUCED.) -/
def wideHi (p off : Nat) : Bool := decide (4 ≤ off) && wideLo p (off - 4)

/-- What the word with key `k` reads as for master `m`: the masters' own words of WELD and SEC, and all others as `view` gives.
(Log entry 18: DEDUCED.) -/
def State.viewFor (s : State) (m : Master) (p off k : Nat) : Word :=
  if p = 0x05 ∧ off = 0x060 then s.weldStatus m
  else if p = 0x05 ∧ off = 0x064 then s.weldIds
  else if p = 0x05 ∧ off = 0x068 then putBits (s.w k) 8 1 (b2n (s.queueActive m))
  else if p = 0x05 ∧ off = 0x080 then s.cmdqWord m
  else s.view k

/-- FREEZE goes to 1: the RO words of page `p` hold their values (R53). (Log entry 18: DEDUCED.) -/
def State.freezePage (s : State) (p : Nat) : State :=
  let val := fun (k : Nat) =>
    let m := (allMasters.find? fun m => decide (0x1000000 * (1 + masterNum m) ≤ k ∧ k < 0x1000000 * (2 + masterNum m))).getD .twt
    (k, s.viewFor m (keyPlace k).1 (keyPlace k).2 k)
  { s with fabric := { s.fabric with frozen := s.fabric.frozen ++ (roKeys p).map val } }

/-- FREEZE goes to 0. -/
def State.unfreezePage (s : State) (p : Nat) : State :=
  { s with fabric := { s.fabric with frozen := s.fabric.frozen.filter fun kv => (keyPlace kv.1).1 != p } }

end Sys2Proof.Machine
end

