-- ==== Sys2Proof/Machine/RegEffect.lean ====
section
/-!
DEFINITION. What an accepted write of a register does: the fields change by their access types (R42), and then the register acts as its
chapter says. Rights, locks, welds and refusals have been judged before; `Machine.Bus` and `Machine.WeldApply` call this.
-/

namespace Sys2Proof.Machine

/-- The word after a write of `v` by the types of its fields (R42): RW and STG fields take the value, a W1C bit written 1 clears, an RWS
bit written 1 sets, RO fields stay, and WO fields are not stored. -/
def RegRow.merge (r : RegRow) (old v : Word) : Word :=
  let plain := Word.of (r.rw ||| r.stg)
  (((old &&& ~~~plain) ||| (v &&& plain)) &&& ~~~(v &&& Word.of r.w1c)) ||| (v &&& Word.of r.rws)

/-! ### The common header (R49 to R54) -/

/-- EN goes from 0 to 1 on page `p`. -/
def State.enRise (s : State) (p : Nat) : State :=
  match pageKind p with
  | some .asrc => s.asrcStart (p - 0x18)
  | some .fin => s.finEnable (p - 0x48)
  | some .trk => s.trkEnable
  | some .tongs => s.tongsStart
  | some .vhk => s.linkEnable
  | _ => s

/-- EN goes from 1 to 0 on page `p`. (Log entries 42: DEDUCED, 59: DEDUCED.) -/
def State.enFall (s : State) (p : Nat) : State :=
  match pageKind p with
  | some .asrc => s.asrcStop (p - 0x18)
  | some .trk => s.trkDisable
  | some .tongs => s.tongsStop
  | some .stg | some .xst => s.disableChan (p - 0x60)
  | some .lin => s.linStop
  | some .hpo => if s.hpoStopOk then s.hpoStop else s
  | some .diag => s.testsAbort 3
  | some .anv => s.anvStop (p - 0x80)
  | some .aux => s.auxHalt (p - 0x74)
  | some .vhk => s.linkOff
  | some .sap => (s.sapStop (p - 0x10) false).sapStop (p - 0x10) true
  | some .spdif => s.spdifStop
  | _ => s

/-- EN of page `p` takes the value `on`. -/
def State.setEn (s : State) (p : Nat) (on : Bool) : State :=
  if on = s.en p then s
  else
    let s := s.setB (Regs.PG_CTRL p) 0 on
    if on then s.enRise p else s.enFall p

/-- The header words that a soft reset keeps (R51). (Log entry 19: DEDUCED.) -/
def keptBySoftReset (off : Nat) : Bool :=
  off == 0x020 || off == 0x024 || off == 0x02C || off == 0x030 || off == 0x034

/-- The engine behind page `p` stands as after reset: what a soft reset does beside the page's registers. (Log entry 19: DEDUCED.) -/
def State.softResetEngine (s : State) (p : Nat) : State :=
  match pageKind p with
  | some .anv => s.anvStop (p - 0x80)
  | some .lin => s.linReset
  | some .sap =>
    let n := p - 0x10
    let s := s.sideDrop (sapSide n true) (s.sapQueues n true)
    { s with sides := (s.sides.del (sapSide n false)).del (sapSide n true) }
  | some .spdif =>
    let s := s.sideDrop sideSpdif s.spdifQueues
    { s with sides := s.sides.del sideSpdif }
  | some .asrc => { s with asrc := s.asrc.del (p - 0x18) }
  | some .inc => { s with incs := s.incs.del (p - 0x30) }
  | some .fin => { s with fins := s.fins.del (p - 0x48) }
  | some .mix => { s with nodes := [], ports := [] }
  | some .stg | some .xst => (s.safeChan (p - 0x60)).setChan (p - 0x60) {}
  | some .trk => { s with trk := {} }
  | some .tongs => s.tongsStop
  | some .diag => s.testsAbort 3
  | some .mic => (List.range 32).foldl (fun (s : State) (i : Nat) => s.captDrop i) s
  | some .wake => { s with wake := {} }
  | some .hpo => { s with hpo := {} }
  | some .aux => { s with auxs := s.auxs.del (p - 0x74) }
  | some .twc => { s with twcs := s.twcs.del (p - 0x77) }
  | some .vhk => s.linkOff
  | some .pair => { s with pair := {} }
  | some .test => { s with tst := { s.tst with loop := none } }
  | _ => s

/-- A soft reset of page `p` (R51): its registers return to their reset values but the five it keeps, its engine to its state after
reset, and the page is busy. PAIR shows its strap again, but an ORPHAN device stays one, and its
mutes stand (R557, R564); TWT shows its address, MIC the mute that no register can release (R462); TEST.INJ.EN holds until device reset
(R608).
(Log entry 19: DEDUCED.) -/
def State.softReset (s : State) (p : Nat) : State :=
  let s := s.softResetEngine p
  let t := s.resetKeys fun k =>
    (keyPlace k).1 == p && !keptBySoftReset (keyPlace k).2 && !decide (0x200000 ≤ keyLow k) && !isOtpKey k
  let t := { t.unfreezePage p with fabric := { t.fabric with
    busy := t.fabric.busy ++ [p], frozen := t.fabric.frozen.filter fun kv => (keyPlace kv.1).1 != p } }
  if p = pgPair then
    let r := t.power.strapRole
    let t := t.setW Regs.PAIR_STAT (Word.of (if r = 1 then 0x60000001 else if r = 2 then 0x80000001 else 0))
    let x := s.pair
    let t : State := { t with pair := { t.pair with orphan := x.orphan, orphanMute := x.orphanMute, adoptMute := x.adoptMute } }
    if x.orphan then (t.setF Regs.PAIR_STAT 0 4 7).setW Regs.PAIR_EPOCH (s.w Regs.PAIR_EPOCH) else t
  else match pageKind p with
    | some .mic => t.setW Regs.MIC_PRIV (s.w Regs.MIC_PRIV)
    | some .test => t.setB Regs.TEST_INJ 31 (s.b Regs.TEST_INJ 31)
    | some .fin => t.setB (Regs.FIN_CTRL (p - 0x48)) 31 (s.b (Regs.FIN_CTRL (p - 0x48)) 31)
    | some .anv => t.setW (Regs.ANV_STAT (p - 0x80)) (s.w (Regs.ANV_STAT (p - 0x80)))
    | _ => t

/-- A write of PG_CTRL (R49 to R51, R53). On STOCK, SRST is the reset of R150. SPIT's own write of EN = 0 waits for the end of its frame
(R50). -/
def State.writeCtrl (s : State) (m : Master) (p : Nat) (v : Word) : State :=
  let k := Regs.PG_CTRL p
  let fixed := match pageKind p with | some x => alwaysOn x | none => true
  if bit v 2 ∧ fixed = false then s.softReset p
  else
    let was := s.b k 3
    let s := (s.setB k 1 (bit v 1)).setB k 3 (bit v 3)
    let s := if bit v 3 && !was then s.freezePage p else if !bit v 3 && was then s.unfreezePage p else s
    if p = 0x06 then (if bit v 2 then s.stockClear else s)
    else if fixed then s
    else if p = pgSpit ∧ m = .spit ∧ bit v 0 = false then { s with wire := { s.wire with spitOff := true } }
    else s.setEn p (bit v 0)

/-- A write of a header word by its access type. -/
def State.writeHeader (s : State) (m : Master) (p off : Nat) (v : Word) : State :=
  let k := p * 256 + off / 4
  if off = 0x008 then s.writeCtrl m p v
  else if off = 0x01C then s.setW (Regs.IRQ_PEND p) (s.w (Regs.IRQ_PEND p) ||| v)
  else if off = 0x018 then s.setW k ((s.w k &&& ~~~v) ||| s.w (Regs.IRQ_RAW p))
  else if off = 0x028 then (match pageKind p with | some x => if weldableKind x then s.setB k 1 (bit v 1) else s | none => s)
  else match rowAt p off with
    | none => s
    | some r => s.setW k (r.merge (s.w k) v)

/-! ### Block registers -/

/-- A write of CLK.HEARTH (R91, R92, R111, R232): a changed rate moves every boundary; a changed reference ends PLLB's lock.
(Log entry 28: DEDUCED.) -/
def State.afterHearth (s old : State) : State :=
  let s := if s.f Regs.CLK_HEARTH 4 8 != old.f Regs.CLK_HEARTH 4 8 then s.refChanged else s
  if s.b Regs.CLK_HEARTH 0 = old.b Regs.CLK_HEARTH 0 then s
  else
    let s := { s with boundary := s.boundaryTick s.strokeNo }
    let s := s.asrcReacquire.schedRate
    let s := (s.weld.welds.filter fun w => w.st == .pending && decide (s.boundaryTick w.target < s.tb + 256)).foldl
      (fun (s : State) (w : Weld) => if w.lateOk then s.putWeld { w with target := s.strokeNo + 1 } else s.shutWeld w .late 0) s
    let d := s.strokeLen * (100 - s.f Regs.WELD_STROKE 0 5) / 100
    { s.setF Regs.WELD_STROKE 16 16 d with weld := { s.weld with deadline := d } }

/-- The default route is released (R646). -/
def State.releaseRoute (s : State) : State :=
  { (s.setB Regs.SYS_DROUTE 0 false).setB Regs.SYS_DROUTE 9 false with
    boot := { s.boot with change := none, held := none, keyAt := none } }

/-- A write of PAIR.RCMD (R546): outside SYNC, MIRROR and LIVE it completes at once with NOLINK, otherwise it is sent. -/
def State.writeRcmd (s : State) (v : Word) : State :=
  let s := s.setB Regs.PAIR_RRES 31 false
  if [prSync, prMirror, prLive].contains s.pr then
    let seq := s.nextSeq 2
    let a := Word.of (bits v 0 18)
    let s := if bit v 31 then s.queueMsg 2 2 [a, s.w Regs.PAIR_RDATA] else s.queueMsg 2 1 [a]
    { s.setB Regs.PAIR_RRES 30 true with pair := { s.pair with rreq := some seq, rread := !bit v 31 } }
  else (s.setW Regs.PAIR_RRES 0x80000001).event pgPair 6

/-- A write of SEC.AUTH (R569, R570). -/
def State.writeAuth (s : State) (m : Master) (v : Word) : State :=
  let s := if bit v 31 then s.newChal m else s
  let s := if bits v 24 2 = 0 then s else s.authRequest m (bits v 24 2)
  if bit v 30 then s.endSession m else s

/-- An accepted life-cycle request (R575, R576): the OTP bit is programmed; entry to FIELD ends the sessions while NO_SESSION is
programmed (R570). -/
def State.writeLcreq (s : State) (dest : Nat) : State :=
  if dest = lcOwned then (s.otpSet 0x040 1).lcFollow
  else if dest = lcField then
    let s := (s.otpSet 0x040 2).lcFollow
    if s.ownerLock 0 then s.endSessions else s
  else if dest = lcReturned then s.returnDevice
  else s

/-- A write of DBG.RDATA: register `r` of the halted anvil `a` (R374). -/
def State.writeDbgReg (s : State) (a r : Nat) (v : Word) : State :=
  let x := s.anv a
  if r < 0x40 then (if crReadOnly r then s else s.setAnv a (x.setCr r v.toNat))
  else if r < 0x50 then s.setAnv a (x.setReg (r - 0x40) (bits v 0 16))
  else
    let i := (r - 0x50) / 2
    let old := unsign 40 (x.accv i)
    let new := if r % 2 = 0 then old / 2 ^ 32 * 2 ^ 32 + v.toNat else bits v 0 8 * 2 ^ 32 + old % 2 ^ 32
    s.setAnv a (x.setAcc i (sext 40 new))

/-- A command bit of ANVnn.CTRL (R306). -/
def State.writeAnvCtrl (s : State) (n : Nat) (v : Word) : State :=
  match v.toNat % 8 with
  | 1 => s.anvGo n
  | 2 => s.anvHaltCmd n
  | 4 => s.anvStepCmd n
  | _ => s

/-- Some bench has its rate or its rate in force at full rate, which holds VARR at its upper value (R303).
(Log entries 25: DESIGN CHOICE, 26: DEDUCED.) -/
def State.varrHigh (s : State) : Bool := (List.range 8).any fun n => s.f (Regs.BENCH_CLK n) 0 2 == 0 || s.f (Regs.BENCH_CLK n) 8 2 == 0

/-- VARR in mV: 600 and 10 for each step of BENCH0.VARR.TRIM while a bench needs full rate, else 500 (R302, R303). -/
def State.varr (s : State) : Nat := if s.varrHigh then 600 + 10 * s.f (Regs.BENCH_VARR 0) 0 3 else 500

/-- A write of BENCHn.CLK (R303): a raise to full rate waits until VARR has settled, where it was low. -/
def State.afterBenchClk (s old : State) (n : Nat) : State :=
  if s.f (Regs.BENCH_CLK n) 0 2 ≠ 0 then { s with varrAt := s.varrAt.del n }
  else if old.varrHigh = false then { s with varrAt := s.varrAt.put n (s.tb + 9831) }
  else
    let t := s.varrAt.foldl (fun m kv => Nat.max m kv.2) 0
    if s.tb < t then { s with varrAt := s.varrAt.put n t } else s

/-- What a stored write of the word with key `k` sets off; `old` is the state before the word changed.
A write of WELD.STROKE shows its DEADLINE at once. (Log entry 88: DESIGN CHOICE.) -/
def State.regActs (s old : State) (m : Master) (k : Nat) (v : Word) : State :=
  let p := (keyPlace k).1
  let off := (keyPlace k).2
  match pageKind p with
  | some .pwr =>
    if off = 0x040 then s.psw.requestState (bits v 0 3)
    else if off = 0x058 ∨ off = 0x05C then { s with power := { s.power with alarmDone := decide (s.alarmAt < s.tb) } }
    else s
  | some .clk => if off = 0x040 then s.afterClkSrc else if off = 0x044 then s.afterHearth old else s
  | some .sched => if off = 0x054 then s.schedCancel m (s.domainOf m) v else s
  | some .stock =>
    if off = 0x058 then s.writeQdCfg (keyUnit k) v
    else if off = 0x05C then s.setQueue (keyUnit k) { s.queue (keyUnit k) with ends := v }
    else s
  | some .ledger => if off = 0x040 ∧ bit v 0 then s.auditNow else s
  | some .weld =>
    if off = 0x054 then s.weldCommit m v
    else if off = 0x058 then s.weldAbort m v
    else if off = 0x05C then s.weldUndo m (s.domainOf m) v
    else if off = 0x06C then s.setF Regs.WELD_STROKE 16 16 (s.strokeLen * (100 - bits v 0 5) / 100)
    else s
  | some .patch =>
    if off = 0x040 then (if bit v 0 then s.copyStart else s.rebuildBusy)
    else if off = 0x054 then s.writeInval v
    else if off = 0x058 then s.setW k 0
    else s
  | some .inc =>
    if off = 0x040 then s.setInc (p - 0x30) ((s.inc (p - 0x30)).hpfWritten v)
    else if off = 0x050 ∧ bit v 4 then s.meterClear p else s
  | some .fin =>
    if off = 0x040 then s.setFin (p - 0x48) ((s.fin (p - 0x48)).hpfWritten v)
    else if off = 0x058 then s.setFin (p - 0x48) ((s.fin (p - 0x48)).eqWritten v)
    else if off = 0x050 ∧ bit v 4 then s.meterClear p else s
  | some .sap => if off = 0x05C then s.writeSapCmd (p - 0x10) v else s
  | some .spdif => if off = 0x040 then s.writeSpdifCtrl v else s
  | some .anv => if off = 0x040 then s.writeAnvCtrl (p - 0x80) v else s
  | some .bench => if off = 0x040 then s.afterBenchClk old (p - 0xC0) else s
  | some .dbg => if off = 0x05C then s.writeDbgReg (keyUnit k) ((k - 0x1D000) % 128) v else s
  | some .stg | some .xst =>
    if off = 0x040 then s.afterChCfg (p - 0x60) (old.w k) else if off = 0x044 then s.writeChCmd (p - 0x60) v else s
  | some .diag => if off = 0x05C then s.diagRun (bits v 0 16) else s
  | some .wake => if off = 0x06C then s.writeFire m v else s
  | some .lin => if off = 0x048 then s.writeLinCmd v else s
  | some .hpo => if off = 0x044 then (if bit v 0 then s.hpoStart else if bit v 1 then s.hpoStop else s) else s
  | some .jack => if off = 0x040 then s.afterJackCfg else s
  | some .aux =>
    let n := p - 0x74
    if off = 0x040 then
      let s := if bit v 0 = old.b (Regs.AUX_CTRL n) 0 then s else s.refEnWrite n (bit v 0)
      if bit v 1 then s.auxStart n else if bit v 2 then s.auxStop n else s
    else if off = 0x068 then s.plausStat
    else s
  | some .twc => if off = 0x044 then s.twcPush (p - 0x77) v else s
  | some .qspi =>
    if off = 0x048 then
      let s : State := { s with wire := { s.wire with qspiOut := BitVec.ofNat 8 (bits v 0 8) } }
      (s.setF Regs.QSPI_XFER 0 8 (old.f Regs.QSPI_XFER 0 8)).setB Regs.QSPI_STAT 0 true
    else s
  | some .pair => if off = 0x044 then s.writePairCmd v else if off = 0x064 then s.writeRcmd v else s
  | some .sec =>
    if off = 0x044 then s.writeLcreq (bits v 0 3)
    else if 0x060 ≤ off ∧ off < 0x0A0 then s.setW k v
    else if off = 0x0A0 then s.writeAuth m v
    else if off = 0x0E8 then (s.setW k (old.w k)).rbAdvance (bits v 0 6)
    else s
  | some .otp => if off = 0x048 then s.otpProgram (s.f (perKey m Regs.OTP_SEL) 0 9) v else s
  | some .img => if off = 0x048 ∧ bit v 0 then s.loadStart false else s
  | some .fault => if off = 0x044 then s.clearFault (bits v 0 8) (bits v 8 8) else s
  | some .test => if off = 0x040 then s.writeLoop v else if off = 0x054 then s.writeInj v else s
  | some .sys =>
    if off = 0x044 then (if bit v 0 then s.releaseRoute else s)
    else if off = 0x048 then (if bit v 0 then s.deviceReset 4 true else s)
    else s
  | _ => s

/-- The word is not kept in the word store: queue descriptors and the debugger's view of an anvil's registers. -/
def derivedKey (k : Nat) : Bool := decide (0x18000 ≤ k ∧ k < 0x1A000) || decide (0x1D000 ≤ k ∧ k < 0x1F000)

/-- An accepted write of the word with key `k` by master `m`: its fields change and the register acts. The page's clock is requested
(R52). -/
def State.regWrite (s : State) (m : Master) (k : Nat) (v : Word) : State :=
  let p := (keyPlace k).1
  let off := (keyPlace k).2
  let s := s.touchPage p
  if off < 0x040 then s.writeHeader m p off v
  else if derivedKey k then s.regActs s m k v
  else match keyRow k with
    | none => s
    | some r =>
      if pageKind p = some .anv ∧ off = 0x044 then s.setAnv (p - 0x80) { s.anv (p - 0x80) with modeNext := some (bit v 0) }
      else (s.setW k (r.merge (s.w k) v)).regActs s m k v

/-- An accepted write of one entry: a word, or a held LO word with its HI word (R69). The words of a patch entry apply together (R249). -/
def State.entryWrite (s : State) (m : Master) (kvs : List KeyVal) : State :=
  match kvs with
  | [] => s
  | kv :: t =>
    if isEntryKey kv.1 then
      let e := entryOfKey kv.1
      let hi := ((kv :: t).find? fun x => x.1 == entryKey e + 1).map (·.2)
      let lo := ((kv :: t).find? fun x => x.1 == entryKey e).map (·.2)
      s.applyEntry e (lo.getD (s.entryLo e)) (hi.getD (s.entryHi e))
    else t.foldl (fun (s : State) (x : KeyVal) => s.regWrite m x.1 x.2) (s.regWrite m kv.1 kv.2)

/-- PG_SEQ of page `p` counts an accepted write (R65). (Log entry 17: DEDUCED.) -/
def State.pgSeq (s : State) (p : Nat) : State := s.count32 (Regs.PG_SEQ p)

end Sys2Proof.Machine
end

