-- ==== Sys2Proof/Machine/Access.lean ====
section
/-!
DEFINITION. Who may read and write what (R56 to R60, R161, R566, R568): the rights, the locks and the owner-secret items.
-/

namespace Sys2Proof.Machine

/-- The registers and memories that are owner-secret by kind (R568): coefficients of a secret chain, the Tongs' parameters and ceilings,
the memory of an anvil that runs an OWNER image, and its registers and breakpoints. `k` names the word. -/
def State.ownerSecret (s : State) (p off k : Nat) : Bool :=
  match pageKind p with
  | some .fin => decide (0x080 ≤ off ∧ off ≤ 0x20C) && s.b (Regs.FIN_CTRL (p - 0x48)) 31
  | some .tongs => decide (0x040 ≤ off ∧ off ≤ 0x058) || decide (0x060 ≤ off ∧ off ≤ 0x074)
  | some .anv => off == 0x074 && s.anvOwner (p - 0x80)
  | some .dbg =>
    if off = 0x05C then s.anvOwner ((k - 0x1D000) / 128)
    else decide (0x044 ≤ off ∧ off ≤ 0x050) && s.anvOwner (keyUnit k)
  | _ => false

/-- A register that only OWNER writes, whatever PG_ACCESS holds: PG_ACCESS, PG_LOCK (R56, R60), the page of TWC2 (R515), PAIR.RCMD (R546),
and SEC.LCREQ, SEC.HOSTKEY, SEC.RB and OTP.PROG (R568, R574, R575). -/
def ownerWrites (p off : Nat) : Bool :=
  off == 0x020 || off == 0x024 || p == 0x79 || (p == 0x7D && off == 0x064) || (p == 0x0B && off == 0x048) ||
    (p == 0x0A && (off == 0x044 || decide (0x0C0 ≤ off ∧ off ≤ 0x0DC) || off == 0x0E8))

/-- SEC.CHAL, SEC.SIG and SEC.AUTH. -/
def authWord (p off : Nat) : Bool :=
  p == 0x0A && (decide (0x048 ≤ off ∧ off < 0x058) || decide (0x060 ≤ off ∧ off ≤ 0x0A0))

/-- The master may use SEC.CHAL, SEC.SIG and SEC.AUTH (R568): OWNER, the ports, and JTAG. -/
def authMaster (m : Master) (d : Domain) : Bool := d == .owner || m == .twt || m == .spit || m == .jtag

/-- The open words of the WELD page (R161). -/
def weldWord (p off : Nat) : Bool := p == 0x05 && decide (0x040 ≤ off ∧ off ≤ 0x084)

/-- In EMBER, ANV63 reaches only WAKE.FIRE (R453). -/
def State.emberShut (s : State) (m : Master) (p off : Nat) : Bool := s.inEmber && m == .anvil 63 && !(p == 0x25 && off == 0x06C)

/-- A JTAG access outside an open TEST is refused (R566). -/
def State.jtagShut (s : State) (m : Master) : Bool := m == .jtag && !s.b Regs.SEC_LC 15

/-- A loop that this domain may not run (R600, R608): of the loops, HOST and OWNER run those open to HOST.
(Log entries 23: DEDUCED, 62: DEDUCED.) -/
def loopForbidden (d : Domain) (v : Word) : Bool :=
  d != .test && (match loopKind (bits v 8 8) (bits v 16 4) (bits v 24 2) with | some false => bit v 31 | _ => false)

/-- The write is forbidden (R59). `welded` says that it is staged under the master's weld, for which the rights value 10 suffices. -/
def State.writeForbidden (s : State) (m : Master) (d : Domain) (welded : Bool) (p off k : Nat) (v : Word) : Bool :=
  if s.emberShut m p off then true
  else if authWord p off then !authMaster m d
  else
    s.jtagShut m ||
    (match pageKind p with
     | some .test => (off == 0x054 && d != .test) || (off == 0x040 && loopForbidden d v)
     | some .otp => off == 0x048 && !s.otpProgOk d (s.f (perKey m Regs.OTP_SEL) 0 9)
     | _ => false) ||
    (d != .owner &&
      (ownerWrites p off || s.ownerSecret p off k || (off == 0x01C && d != .test) ||
        (match pageKind p with
         | some .fin => off == 0x054 && bit v 31
         | some .patch => isEntryKey k && (bit (s.entryHi (entryOfKey k)) 30 || (k % 2 == 1 && bit v 30))
         | some .test => !(off == 0x040 && d == .host) && s.rights d p != 3
         | _ =>
           if weldWord p off then s.rights d p < 2
           else if welded then s.rights d p < 2
           else s.rights d p != 3) ||
        (match pageKind p with
         | some .fin | some .patch => (if welded then s.rights d p < 2 else s.rights d p != 3)
         | _ => false)))

/-- Every domain reads these (R63, R568): PG_EVT, MIC.PRIV, SEC.LC and SEC.ID. -/
def openRead (p off : Nat) : Bool :=
  off == 0x02C || (p == 0x24 && off == 0x0C4) || (p == 0x0A && (off == 0x040 || off == 0x0E0 || off == 0x0E4))

/-- The read is forbidden (R59). -/
def State.readForbidden (s : State) (m : Master) (d : Domain) (p off k : Nat) : Bool :=
  if s.emberShut m p off then true
  else if authWord p off then !authMaster m d
  else
    s.jtagShut m ||
    (d != .owner && !openRead p off &&
      (s.ownerSecret p off k || (if weldWord p off then s.rights d p == 0 || s.rights d p == 1 else s.rights d p % 2 == 0)))

/-- The word at byte offset `off` of page `p` is locked (R56, R60). -/
def State.locked (s : State) (p off : Nat) : Bool :=
  if off = 0x020 then s.b (Regs.PG_ACCESS p) 31
  else if off = 0x008 ∨ off = 0x014 then s.b (Regs.PG_LOCK p) 30
  else decide (0x040 ≤ off) && decide ((off - 0x040) / 32 < 30) && s.b (Regs.PG_LOCK p) ((off - 0x040) / 32)

end Sys2Proof.Machine
end

