-- ==== Sys2Proof/Machine/WeldApply.lean ====
section
/-!
DEFINITION. What a boundary does with parameter welds, undos and CMDQ (chapter 06): the second validation, the apply, the undo record, the
deferrals, and the end of the re-heat windows.
-/

namespace Sys2Proof.Machine

/-! ### Validation of entries -/

/-- Page and byte offset of a key that an entry writes. -/
def kvPlace (kv : KeyVal) : Nat × Nat := keyPlace kv.1

/-- Rights, locks and owner secrecy of one word as they stand (R162, R167). -/
def State.wordAccess (s : State) (m : Master) (d : Domain) (kv : KeyVal) : Bool :=
  !s.writeForbidden m d true (kvPlace kv).1 (kvPlace kv).2 kv.1 kv.2 && !s.locked (kvPlace kv).1 (kvPlace kv).2

/-- The value of a welded word is legal against the state its block is in, but for what all words of the weld decide together (R167): the
patch bank's checks, and the look-ahead a finishing chain gives the tracker. -/
def State.wordValue (s : State) (kv : KeyVal) : Bool :=
  let p := (kvPlace kv).1
  let off := (kvPlace kv).2
  if isEntryKey kv.1 then s.entryActive (entryOfKey kv.1) || !s.b Regs.PATCH_STAT 2
  else match pageKind p with
    | some .patch => true
    | some .fin =>
      let n := p - 0x48
      if off = 0x05C then keyRangeOk kv.1 kv.2 && s.delayOk n (bits kv.2 0 13)
      else if off = 0x064 then
        let thr := sext 16 (bits kv.2 0 16)
        keyRangeOk kv.1 kv.2 && !(s.en p && ((thr == -0x8000) != (s.level16 (Regs.FIN_LIM n) 0 == -0x8000)))
      else (s.dynRefused kv.1 kv.2).isNone
    | _ => (s.dynRefused kv.1 kv.2).isNone

/-- The reason for which one entry fails the second validation on its own. (Log entry 36: DEDUCED.) -/
def State.entryFault (s : State) (w : Weld) (kvs : List KeyVal) : Option ShutReason :=
  if !kvs.all (s.wordAccess w.opener w.domain) then some .access
  else if !kvs.all s.wordValue then some .range
  else if kvs.any fun kv => s.pageOff (kvPlace kv).1 then some .targetBusy
  else if (kvs.any fun kv => kv.1 == Regs.PATCH_SWAP && bit kv.2 0) && s.b Regs.PATCH_STAT 1 then some .rebuild
  else none

/-- The weld's entries applied in staging order. -/
def State.applyEntries (s : State) (m : Master) (l : List (List KeyVal)) : State :=
  l.foldl (fun (s : State) (kvs : List KeyVal) =>
    let p := match kvs with | [] => 0 | kv :: _ => (kvPlace kv).1
    (s.entryWrite m kvs).pgSeq p) s

/-- The index of the first entry of `w` for which `p` holds. -/
def Weld.indexOf (w : Weld) (p : List KeyVal → Bool) : Option Nat :=
  (((List.range w.entries.length).zip w.entries).find? fun e => p e.2).map (·.1)

/-- What the words of a weld decide together, on the state `t` in which all of them stand: the entries written and an incoming bank pass R248,
and the finishing chains keep the tracker's look-ahead (R396). The answer is the index of the failing entry. (Log entry 36: DEDUCED.) -/
def State.jointFault (t : State) (w : Weld) : Option Nat :=
  let touches := fun (f : Nat → Bool) => w.indexOf fun kvs => kvs.any fun kv => f kv.1
  let bank := touches fun k => isEntryKey k && !t.entryOk (entryOfKey k) (t.entryLo (entryOfKey k)) (t.entryHi (entryOfKey k))
  let swap := match w.swaps with
    | none => none
    | some i => if (t.bankFail (256 - t.bankBase)).isSome then some i else none
  let chain := w.indexOf fun kvs => kvs.any fun kv =>
    match pageKind (kvPlace kv).1 with
    | some .fin =>
      let n := (kvPlace kv).1 - 0x48
      ((kvPlace kv).2 == 0x05C || (kvPlace kv).2 == 0x064) && !t.trkKeeps n (t.f (Regs.FIN_DELAY n) 0 13) (t.level16 (Regs.FIN_LIM n) 0)
    | _ => false
  match bank with
  | some i => some i
  | none => match swap with | some i => some i | none => chain

/-- The second validation (R167): reason and index of the first failing entry. `taken` are the words that welds of an earlier commit write
at this boundary (R168). (Log entry 36: DEDUCED.) -/
def State.secondFault (s : State) (w : Weld) (taken : List Nat) : Option (ShutReason × Nat) :=
  let own : Option (ShutReason × Nat) := (((List.range w.entries.length).zip w.entries).filterMap fun e => (s.entryFault w e.2).map fun r => (r, e.1)).head?
  match own with
  | some f => some f
  | none =>
    match (w.keys.find? fun e => taken.contains e.2).map (·.1) with
    | some i => some (ShutReason.conflict, i)
    | none => ((s.applyEntries w.opener w.entries).jointFault w).map fun i => (ShutReason.range, i)

/-- What R181 to R184 ask of a pair half at its boundary: a lead half has decided to proceed, and no drift has begun on the follower.
(Log entry 36: DEDUCED.) -/
def State.halfFails (s : State) (w : Weld) : Bool :=
  match w.pairHalf with
  | none => false
  | some p => if p.lead then !p.decided else s.b Regs.TB_SYNC 2

/-! ### Apply and undo -/

/-- The part of a word that a write decides: its fields that are not RO. -/
def writtenPart (k : Nat) (v : Word) : Word := match keyRow k with | none => v | some r => v &&& Word.of r.writable

/-- What the word with key `k` holds once a weld has applied: ANVnn.MODE's new value is in force later in the same boundary (R305). -/
def State.writtenWord (s : State) (k : Nat) : Word :=
  let p := k / 256
  if pageKind p = some .anv ∧ k % 256 = 0x11 then
    match (s.anv (p - 0x80)).modeNext with
    | some b => putBits (s.w k) 0 1 (b2n b)
    | none => s.w k
  else s.w k

/-- The undo record of a weld: every word it wrote, with its value just before the boundary and after it (R171, R173).
(Log entry 37: DEDUCED.) -/
def undoRecord (before after : State) (w : Weld) : List UndoWord :=
  (w.keys.map (·.2)).eraseDups.map fun k => { key := k, old := before.w k, new := after.writtenWord k }

/-- A weld that passes applies whole: its undo record is kept and its re-heat window begins at stroke `b` (R169, R171).
(Log entry 37: DEDUCED.) -/
def State.applyWeld (s : State) (w : Weld) (b : Nat) : State :=
  let t := (s.applyEntries w.opener w.entries).weldInval (w.keys.map (·.2))
  let t := if w.swaps.isSome then t.patchSwap else t
  let w' := { w with st := .committed, applied := b, undo := undoRecord s t w }
  (t.putWeld w').pairOutcome w' 1

/-- One parameter weld due at boundary `b` (R101, R167, R184). The second part of the result lists the words of a weld that targets this
boundary, whether or not it applies: a later one brought here by a deferral conflicts with them (R168). -/
def State.dueWeld (s : State) (w : Weld) (b : Nat) (taken : List Nat) : State × List Nat :=
  if s.braced then
    if w.lateOk then
      let w' := { w with target := b + 1 }
      ((s.putWeld w').pairOutcome w' 3, [])
    else (s.shutWeld w .brace 0, w.keys.map (·.2))
  else if s.halfFails w then (s.shutWeld w .pair 0, w.keys.map (·.2))
  else match s.secondFault w taken with
    | some f =>
      let s := match w.swaps with
        | none => s
        | some _ => match (s.applyEntries w.opener w.entries).bankFail (256 - s.bankBase) with
          | some e => if f.1 == ShutReason.range then s.swapErr e else s
          | none => s
      (s.shutWeld w f.1 f.2, w.keys.map (·.2))
    | none => (s.applyWeld w b, w.keys.map (·.2))

/-- Patch entries and other words of an undo record as entries to write back: the two words of a patch entry go together.
(Log entry 37: DEDUCED.) -/
def undoEntries : List UndoWord → List (List KeyVal)
  | [] => []
  | [u] => [[(u.key, u.old)]]
  | u :: v :: t =>
    if isEntryKey u.key ∧ u.key % 2 = 0 ∧ v.key = u.key + 1 then [(u.key, u.old), (v.key, v.old)] :: undoEntries t
    else [(u.key, u.old)] :: undoEntries (v :: t)

/-- One accepted undo due at stroke `b` (R172, R173): the recorded values return, or it cold-shuts and the weld stays COMMITTED. PG_SEQ
counts once for each word restored. (Log entry 83: DESIGN CHOICE.) -/
def State.dueUndo (s : State) (w : Weld) (taken : List Nat) : State × List Nat :=
  let kvs := w.undo.map fun u => (u.key, u.old)
  let keys := w.undo.map (·.key)
  if s.braced then (s.shutUndo w .brace, keys)
  else if !kvs.all (s.wordAccess w.opener w.domain) then (s.shutUndo w .access, keys)
  else if w.undo.any fun u => taken.contains u.key then (s.shutUndo w .conflict, keys)
  else if kvs.any fun kv => s.pageOff (kvPlace kv).1 then (s.shutUndo w .targetBusy, keys)
  else
    let drift := w.undo.any fun u => writtenPart u.key (s.w u.key) != writtenPart u.key u.new
    let t := (s.applyEntries w.opener (undoEntries w.undo)).weldInval keys
    let t := t.putWeld { w with
      st := .undone, entries := [], undo := [], undoAt := none, drifted := drift, reason := if w.undoPair then ShutReason.pair.code else 0 }
    (if w.undoPair then t.event pgWeld 3 else t, keys)

/-- The welds and undos due at stroke `b`, in the order of their commits. -/
def State.dueAt (s : State) (b : Nat) : List Weld :=
  let key := fun (w : Weld) => if w.st = .pending then w.order else w.undoOrder
  let due := s.weld.welds.filter fun w => (w.st == .pending && w.target == b) || (w.st == .committed && w.undoAt == some b)
  (rising s.weld.order (due.map key)).filterMap fun n => due.find? fun w => key w == n

/-- Every parameter weld and undo due at stroke `b` (group 2 of R169). -/
def State.applyDue (s : State) (b : Nat) : State :=
  ((s.dueAt b).foldl (fun (a : State × List Nat) (w : Weld) =>
    let r := if w.st = .pending then a.1.dueWeld w b a.2 else a.1.dueUndo w a.2
    (r.1, a.2 ++ r.2)) (s, [])).1

/-- The stroke weld cold-shut: every weld and undo due at `b` is deferred whole to the next boundary (R176). -/
def State.deferDue (s : State) (b : Nat) : State :=
  (s.dueAt b).foldl (fun (s : State) (w : Weld) =>
    if w.st = .pending then
      let w' := { w with target := b + 1 }
      (s.putWeld w').pairOutcome w' 3
    else s.putWeld { w with undoAt := some (b + 1) }) s

/-! ### CMDQ (R187) -/

/-- The code with which a queued entry is dropped, `none` where it applies. -/
def State.cmdqFault (s : State) (e : CmdqEntry) : Option Nat :=
  match e.words with
  | [] => none
  | kv :: t =>
    let p := (kvPlace kv).1
    let off := (kvPlace kv).2
    if (kv :: t).any fun x => s.writeForbidden e.master e.domain false (kvPlace x).1 (kvPlace x).2 x.1 x.2 then some errAccess
    else if s.locked p off then some errLocked
    else if s.pageOff p then some errBusy
    else if isEntryKey kv.1 then
      let n := entryOfKey kv.1
      let lo := (((kv :: t).find? fun x => x.1 == entryKey n).map (·.2)).getD (s.entryLo n)
      let hi := (((kv :: t).find? fun x => x.1 == entryKey n + 1).map (·.2)).getD (s.entryHi n)
      if s.entryRefused n lo hi then some errRange else none
    else if (kv :: t).any fun x => (s.dynRefused x.1 x.2).isSome then some errRange
    else none

/-- CMDQ at a boundary of tick `tick`: every entry queued 256 ticks before it applies or is dropped, in arrival order. An entry dropped for
its rights or a lock counts in PG_EVT as such a write does (R59, R60). -/
def State.applyCmdq (s : State) (tick : Nat) : State :=
  let due := s.weld.cmdq.filter fun e => decide (e.at_ + 256 ≤ tick)
  let s := { s with weld := { s.weld with cmdq := s.weld.cmdq.filter fun e => decide (tick < e.at_ + 256) } }
  due.foldl (fun (s : State) (e : CmdqEntry) =>
    match s.cmdqFault e with
    | some code =>
      let p := kvPlace ((e.words.getLast?).getD (0, 0))
      let s := if code = errAccess ∨ (code = errLocked ∧ e.domain ≠ .owner) then s.violation e.domain p.1 p.2 true else s
      s.cmdqDrop e code
    | none => s.applyEntries e.master [e.words]) s

/-! ### The end of the windows -/

/-- After step 2 of boundary `b`: a window without an accepted undo ends four strokes after its weld (R171), and outcomes older than the
heartbeat's span are dropped (R183). -/
def State.closeWindows (s : State) (b : Nat) : State :=
  let close := fun (w : Weld) =>
    if w.st = .committed ∧ w.undoAt = none ∧ w.applied + 4 ≤ b then { w with st := .closed, entries := [], undo := [] } else w
  { s with weld := { s.weld with
    welds := s.weld.welds.map close, outcomes := s.weld.outcomes.filter fun o => decide (b ≤ o.target + 4) } }

/-- Groups 2 and 3 of R169 at the boundary of stroke `b`; `shut` says that the stroke weld has cold-shut. -/
def State.weldsBoundary (s : State) (b : Nat) (shut : Bool) : State :=
  let s := if shut then s.deferDue b else s.applyDue b
  (s.applyCmdq (s.boundaryTick b)).closeWindows b

/-- Entry to BANKED or EMBER (R189): OPEN and PENDING welds cold-shut with TARGET_BUSY, windows close, and every CMDQ entry is dropped. -/
def State.weldsSleep (s : State) : State :=
  let s := (s.weld.welds.filter fun w => w.st == .open_ || w.st == .pending).foldl
    (fun (s : State) (w : Weld) => s.shutWeld w .targetBusy 0) s
  let s := { s with weld := { s.weld with
    welds := s.weld.welds.map fun (w : Weld) =>
      if w.st = WeldState.committed then { w with st := WeldState.closed, entries := [], undo := [], undoAt := none } else w } }
  s.cmdqDropIf (fun _ => true) errBusy

end Sys2Proof.Machine
end

