-- ==== Sys2Proof/Machine/Bus.lean ====
section
/-!
DEFINITION. The control fabric (chapter 02): one read or write of one word by one master, through rights, locks, welds, CMDQ, refusals and
wide values, and the reads that act.
-/

namespace Sys2Proof.Machine

/-! ### What the fabric keeps per master -/

/-- The LO word that master `m` holds for the HI word with key `k` (R69). -/
def State.heldLo (s : State) (m : Master) (k : Nat) : Option KeyVal :=
  (s.fabric.held.find? fun x => x.1 == masterNum m && x.2.1 + 1 == k).map (·.2)

/-- Master `m` holds a LO word. -/
def State.holdLo (s : State) (m : Master) (k : Nat) (v : Word) : State :=
  { s with fabric := { s.fabric with
    held := s.fabric.held.filter (fun x => x.1 != masterNum m || x.2.1 != k) ++ [(masterNum m, (k, v))] } }

/-- The entry that a write of `v` to the word with key `k` makes, with the LO word that the master holds for it (R69).
(Log entry 38: DEDUCED.) -/
def State.entryOf (s : State) (m : Master) (k : Nat) (v : Word) : List KeyVal :=
  match s.heldLo m k with
  | some lo => [lo, (k, v)]
  | none => [(k, v)]

/-- Master `m`'s held LO word of the HI word `k` is used up. -/
def State.dropLo (s : State) (m : Master) (k : Nat) : State :=
  { s with fabric := { s.fabric with held := s.fabric.held.filter fun x => x.1 != masterNum m || x.2.1 + 1 != k } }

/-- Each access to ANVnn.MDATA moves the master's MSEL.WORD on by one (R309). Instruction memory has 2,048 words. (Log entry 22: DEDUCED.) -/
def State.mselNext (s : State) (m : Master) (p : Nat) : State :=
  let k := perKey m (Regs.ANV_MSEL (p - 0x80))
  s.setF k 0 12 ((s.f k 0 12 + 1) % (if s.b k 31 then 2048 else 4096))

/-- An access to MDATA, whatever became of it. (Log entries 22: DEDUCED, 27: DEDUCED.) -/
def State.afterAccess (s : State) (m : Master) (p off : Nat) : State :=
  if 0x80 ≤ p ∧ p < 0xC0 ∧ off = 0x074 then s.mselNext m p else s

/-! ### Writes -/

/-- The word is a weld selector: WELD.SEL_TWT, SEL_SPI, SEL_VHK and ANVnn.WELDSEL (R158). -/
def selWord (p off : Nat) : Bool :=
  (p == 0x05 && (off == 0x044 || off == 0x048 || off == 0x04C)) || (decide (0x80 ≤ p ∧ p < 0xC0) && off == 0x04C)

/-- A write of a selector (R159): only its own master's, of 0 or of an OPEN weld it opened; the rest is RANGE in WELD.PG_ERR. -/
def State.writeSel (s : State) (m : Master) (p off : Nat) (v : Word) : State :=
  if selReg m = some (p * 256 + off / 4) ∧ s.selOk m (bits v 0 4) then
    let s := if bits v 4 28 = 0 then s else s.err p off errReserved
    (s.pgSeq p).setSelector m (bits v 0 4)
  else s.errOn pgWeld p off errRange

/-- The write falls outside R47: the WELD page and ANVnn.WELDSEL (R160). -/
def weldExempt (p off : Nat) : Bool := p == 0x05 || selWord p off

/-- Master `m`'s selected weld is marked with a failed write. -/
def State.markSelected (s : State) (m : Master) (r : ShutReason) : State :=
  match s.selected m with
  | some w => s.markWeld w r
  | none => s

/-- A write while a weld is selected (R45 to R47, R60, R69, R166). A write to a locked word marks the weld and records nothing in PG_ERR or
PG_EVT. (Log entries 21: DEDUCED, 83: DESIGN CHOICE.) -/
def State.stagedWrite (s : State) (m : Master) (w : Weld) (r : RegRow) (p off k : Nat) (v : Word) : State :=
  if r.isStg = false then (s.err p off errNotWeldable).markWeld w .access
  else if s.locked p off then s.markWeld w .access
  else
    let s := if v &&& ~~~(Word.of r.assigned) = 0 then s else s.err p off errReserved
    let v := v &&& Word.of r.assigned
    if wideLo p off then s.holdLo m k v
    else if !keyRangeOk k v then s.markWeld w .range
    else
      let kvs := s.entryOf m k v
      (s.dropLo m k).stageWrite w kvs

/-- The entry's refusal as a direct write: its value, its block's state, or the patch table's checks. -/
def State.directRefused (s : State) (kvs : List KeyVal) : Option Nat :=
  match kvs with
  | [] => none
  | kv :: t =>
    if isEntryKey kv.1 then
      let e := entryOfKey kv.1
      let lo := (((kv :: t).find? fun x => x.1 == entryKey e).map (·.2)).getD (s.entryLo e)
      let hi := (((kv :: t).find? fun x => x.1 == entryKey e + 1).map (·.2)).getD (s.entryHi e)
      if s.entryRefused e lo hi then some errRange else none
    else ((kv :: t).filterMap fun x => s.dynRefused x.1 x.2).head?

/-- A command register's write that its block ignores with RANGE, and which PG_SEQ therefore does not count (R65): WELD.COMMIT, ABORT and
UNDO (R165, R170, R171), a SAPn.CMD none of whose sides acts (R192, R193), LIN.CMD and WAKE.FIRE. -/
def State.cmdIgnored (s : State) (m : Master) (d : Domain) (p off : Nat) (v : Word) : Bool :=
  match pageKind p with
  | some .weld =>
    if off = 0x054 then !s.commitTakes m (bits v 0 4)
    else if off = 0x058 then !s.abortTakes m (bits v 0 4)
    else if off = 0x05C then !s.undoTakes m d (bits v 0 4)
    else false
  | some .sap =>
    let n := p - 0x10
    off == 0x05C && s.sapCmdRefused n v && !bit v 2 && !bit v 3 && !(bit v 0 && s.sapStartOk n false) && !(bit v 1 && s.sapStartOk n true)
  | some .lin => off == 0x048 && bit v 0 && !s.linStartOk
  | some .wake => off == 0x06C && !(decide (m = .anvil 63) && s.inEmber)
  | _ => false

/-- What a direct write of a finishing chain's GAIN does beside the store (R259). -/
def State.gainWritten (s : State) (p off : Nat) : State :=
  if pageKind p = some .fin ∧ off = 0x044 then s.finGainWritten (p - 0x48) else s

/-- A write to an assigned register with no weld selected, by a domain with the right to make it. (Log entry 17: DEDUCED.) -/
def State.directWrite (s : State) (m : Master) (d : Domain) (r : RegRow) (p off k : Nat) (v : Word) : State :=
  if s.locked p off then (if d = .owner then s else s.violation d p off true).err p off errLocked
  else if r.writable = 0 then s.err p off errReadOnly
  else
    let s := if v &&& ~~~(Word.of r.assigned) = 0 then s else s.err p off errReserved
    let v := v &&& Word.of r.assigned
    if r.isStg && !s.b (Regs.PG_WELD p) 1 then s.err p off errDirect
    else if wideLo p off then (s.pgSeq p).holdLo m k v
    else
      let kvs := s.entryOf m k v
      match s.directRefused kvs with
      | some code => (s.dropLo m k).err p off code
      | none =>
        let t := s.dropLo m k
        ((if s.cmdIgnored m d p off v then t else t.pgSeq p).entryWrite m kvs).gainWritten p off

/-- A write to an STG register that enters CMDQ: nothing but the room is checked before the boundary (R186 to R188). The answer's first part
says that a full CMDQ has refused it. (Log entry 39: DEDUCED.) -/
def State.queueWrite (s : State) (m : Master) (d : Domain) (r : RegRow) (p off k : Nat) (v : Word) : Bool × State :=
  let s := if v &&& ~~~(Word.of r.assigned) = 0 then s else s.err p off errReserved
  let v := v &&& Word.of r.assigned
  if wideLo p off then (false, s.holdLo m k v)
  else
    let x := s.cmdqPut m d (s.entryOf m k v)
    (!x.1, if x.1 then x.2.dropLo m k else x.2)

/-- Page `p` is busy with a soft reset or a rebuild: PG_STAT.BUSY (R51, R150). -/
def State.shutBusy (s : State) (p : Nat) : Bool := s.pageBusy p || (p == 0x06 && s.stock.rebuilding)

/-- A write that a busy page ignores, to be recorded once BUSY has fallen (R51). -/
def State.busyWrite (s : State) (p off : Nat) : State :=
  { s with fabric := { s.fabric with busyErr := s.fabric.busyErr ++ [(p, off)] } }

/-- A write to a word that no register is assigned to: forbidden where the domain may not write the page so (R56, R59), else recorded with
RESERVED (R45), also where PG_LOCK locks its group. (Log entry 83: DESIGN CHOICE.) -/
def State.unassignedWrite (s : State) (m : Master) (d : Domain) (p off : Nat) : State :=
  let least := if (s.selected m).isSome || weldWord p off then 2 else 3
  if s.jtagShut m || (d != .owner && !(s.rights d p == 3 || s.rights d p == least)) then (s.forbid d p off true).markSelected m .access
  else if s.shutBusy p then s.busyWrite p off
  else s.err p off errReserved

/-- Master `m` writes `v` to the word at byte offset `off` of page `p`. A write staged in a weld is judged with the domain that opened it
(R162). (Log entry 21: DEDUCED.) -/
def State.busWrite (s : State) (m : Master) (p off : Nat) (v : Word) : Bool × State :=
  let k := s.resolve m p off
  match pageKind p with
  | none => (false, s.errOn 0 p off errReserved)
  | some _ =>
    match rowAt p off with
    | none => (false, s.unassignedWrite m (s.domainOf m) p off)
    | some r =>
      let weld := if weldExempt p off then none else s.selected m
      let welded := weld.isSome && r.isStg
      let d := match weld with
        | some w => if r.isStg then w.domain else s.domainOf m
        | none => s.domainOf m
      if selWord p off && selReg m != some (p * 256 + off / 4) then (false, s.errOn pgWeld p off errRange)
      else if weld.isNone && r.isStg && s.queueActive m && !s.emberShut m p off && !s.jtagShut m then s.queueWrite m d r p off k v
      else if s.writeForbidden m d welded p off k v then
        let s := s.forbid d p off true
        (false, match weld with | some w => s.markWeld w .access | none => s)
      else if selWord p off then (false, s.writeSel m p off v)
      else match weld with
        | some w => (false, s.stagedWrite m w r p off k v)
        | none => (false, if s.shutBusy p then s.busyWrite p off else s.directWrite m d r p off k v)

/-- A write by master `m`, with MDATA's selector moved on. -/
def State.ctlWrite (s : State) (m : Master) (p off : Nat) (v : Word) : State := (s.busWrite m p off v).2.afterAccess m p off

/-! ### Reads -/

/-- The words whose value is free at each read: GPIO.IN, whose pins the outside drives, and the cycle counter of an anvil that DBG shows
(log entry 5). -/
def freeRead (k : Nat) : Bool := k == Regs.GPIO_IN || (decide (0x1D000 ≤ k ∧ k < 0x1F000) && (k - 0x1D000) % 128 == 0x24)

/-- What a word's read returns and changes, but for rights and wide values. -/
def State.readWord (s : State) (m : Master) (d : Domain) (p off k : Nat) : Word × State :=
  if p = 0x05 ∧ off = 0x040 then
    let x := s.weldOpen m d
    (Word.of x.1, x.2)
  else if p = 0x04 ∧ off = 0x050 then s.schedArm m d
  else if 0x77 ≤ p ∧ p ≤ 0x79 ∧ off = 0x048 then s.twcPop (p - 0x77)
  else if p = 0x0B ∧ off = 0x044 then (s.otpRead d (k - 0x1F100), s)
  else if p = 0x0F ∧ off = 0x05C ∧ s.anvState ((k - 0x1D000) / 128) ≠ anHalted then (0, s.range p off)
  else if p = 0x7B ∧ off = 0x048 ∧ s.b Regs.QSPI_STAT 0 then
    (s.w Regs.QSPI_XFER, { s with wire := { s.wire with qspiReader := some m } })
  else match s.fabric.frozen.find? fun kv => kv.1 == k with
    | some kv => (kv.2, s)
    | none => (s.viewFor m p off k, if freeRead k then s.tickFree else s)

/-- The HI snapshot of master `m` for key `k`. -/
def State.snapOf (s : State) (m : Master) (k : Nat) : Option Word :=
  (s.fabric.snaps.find? fun x => x.1 == masterNum m && x.2.1 == k).map (·.2.2)

/-- `s` without that snapshot. -/
def State.dropSnap (s : State) (m : Master) (k : Nat) : State :=
  { s with fabric := { s.fabric with snaps := s.fabric.snaps.filter fun x => x.1 != masterNum m || x.2.1 != k } }

/-- A read of a LO word latches the HI word for the master (R68). -/
def State.latchHi (s : State) (m : Master) (p off k : Nat) : State :=
  let hi := (s.readWord m .owner p (off + 4) (k + 1)).1
  let s := s.dropSnap m (k + 1)
  { s with fabric := { s.fabric with
    snaps := s.fabric.snaps ++ [(masterNum m, (k + 1, hi))]
    capStale := s.fabric.capStale.filter fun x => x.1 != masterNum m || Regs.TB_CAP_HI x.2 != k + 1 } }

/-- A read of TB.CAPn_HI clears VALID, but for the snapshot of a capture that an edge has overwritten since (R113). -/
def State.capRead (s : State) (m : Master) (k : Nat) (snap : Bool) : State :=
  (List.range 4).foldl (fun (s : State) (n : Nat) =>
    if k = Regs.TB_CAP_HI n then
      let stale := s.fabric.capStale.contains (masterNum m, n)
      let s := { s with fabric := { s.fabric with capStale := s.fabric.capStale.filter fun x => x != (masterNum m, n) } }
      if snap && stale then s else s.setB Regs.TB_CAPSTAT n false
    else s) s

/-- Master `m` reads the word at byte offset `off` of page `p`: the word returned, and the machine after it. A frozen HI word reads its
frozen value, whatever snapshot the master holds (R70). -/
def State.busRead (s : State) (m : Master) (p off : Nat) : Word × State :=
  let d := s.domainOf m
  let k := s.resolve m p off
  match pageKind p with
  | none => (0, s)
  | some _ =>
    if s.readForbidden m d p off k then (0, s.forbid d p off false)
    else match rowAt p off with
      | none => (0, s)
      | some r =>
        let s := s.touchPage p
        let shown := Word.of (r.ro ||| r.rw ||| r.stg ||| r.w1c ||| r.rws)
        if wideHi p off then
          match s.fabric.frozen.find? fun kv => kv.1 == k with
          | some kv => (kv.2 &&& shown, (s.dropSnap m k).capRead m k (s.snapOf m k).isSome)
          | none =>
            match s.snapOf m k with
            | some v => (v &&& shown, (s.dropSnap m k).capRead m k true)
            | none =>
              let x := s.readWord m d p off k
              (x.1 &&& shown, x.2.capRead m k false)
        else
          let s := if wideLo p off then s.latchHi m p off k else s
          let x := s.readWord m d p off k
          (x.1 &&& shown, x.2)

/-- A read by master `m`, answered to it, with MDATA's selector moved on. -/
def State.ctlRead (s : State) (m : Master) (p off : Nat) : State :=
  let x := s.busRead m p off
  (x.2.answer m x.1).afterAccess m p off

/-- The soft reset of page `p` ends (R51). -/
def State.softResetDone (s : State) (p : Nat) : State :=
  ({ s with fabric := { s.fabric with busy := s.fabric.busy.filter (· != p) } } : State).busyFlush p

end Sys2Proof.Machine
end

