-- ==== Sys2Proof/Machine/AnvilRun.lean ====
section
/-!
DEFINITION. Running anvil instructions (chapters 11 and 12): what each instruction does, the interlocks that make one wait, where the
program goes on, loops, breakpoints, traps and single steps.
-/

namespace Sys2Proof.Machine

/-- Where the program goes on after an instruction. -/
inductive Flow where
  /-- The next instruction, or after a delay slot the branch's target. -/
  | next
  /-- A branch: this target follows its delay slot. -/
  | branch (t : Nat)
  /-- A LOOP of count 0 goes on at this index. -/
  | jump (t : Nat)
  /-- An MVC of md: the next instruction is its shadow, under this mode. -/
  | shadow (old : Nat)
  /-- RTE. -/
  | rte
  /-- DONE: the routine has ended. -/
  | stop
  deriving DecidableEq, Repr

/-- What an instruction does when it comes to be executed. -/
inductive Issue where
  /-- An interlock or a wait holds it. -/
  | stall
  /-- It faults (R355). -/
  | fault (cause : Nat) (s : State)
  /-- It completes: whether it set V, whether it is BRK, and where the program goes on. -/
  | done (s : State) (v brk : Bool) (flow : Flow)
  deriving DecidableEq, Repr

/-- An instruction that completes and goes on. -/
def Issue.plain (s : State) : Issue := .done s false false .next

/-- The data registers of a field that names a register, or a pair where `w`. -/
def regsAt (w : Bool) (r : Nat) : List Nat := if w then [r, r + 1] else [r]

/-- The data registers an instruction reads or writes (R346). -/
def AnvOp.uses : AnvOp → List Nat
  | .sys _ => []
  | .alu f d a b w =>
    (if f = 0x0B then [] else regsAt w d) ++ regsAt w a ++
      (if f = 0 ∨ f = 6 ∨ f = 7 ∨ f = 8 ∨ f = 15 then [] else regsAt w b)
  | .imm _ d _ => [d]
  | .acc f d _ _ _ => if f = 0 then [d] else if f = 1 ∨ f = 3 then [d, d + 1] else []
  | .load sub reg _ _ _ _ => if sub = 3 then [] else regsAt (sub == 1) reg
  | .store sub reg _ _ _ _ => if sub < 2 then regsAt (sub == 1) reg else []
  | .norm sub reg _ _ _ _ => if sub = 1 then [reg, reg + 1] else []
  | .addr _ _ _ => []
  | .ctl _ reg w _ => regsAt w reg
  | .br _ _ _ => []
  | .loop _ src _ count => if src then [count] else []
  | .billet f _ _ _ i _ => if f = 4 ∨ f = 5 then [i] else []
  | .handle f _ reg _ => regsAt (decide (3 ≤ f)) reg
  | .cop op d a b => [d, d + 1, a, a + 1] ++ (if op = 0 then [b] else if op = 5 then [b, b + 1] else [])
  | .bus _ d a => [d, d + 1, a, a + 1]
  | .lane _ _ x y _ _ _ _ _ ly _ _ width => regsAt (width != 0) x ++ regsAt (width == 2 || (width == 1 && ly)) y

/-- A register of `l` belongs to the pending pair of an operation in the queue (R346). -/
def Anv.copPending (a : Anv) (l : List Nat) : Bool := l.any fun r => a.cops.any fun (e : CopEntry) => r == e.dest || r == e.dest + 1

/-- A branch, LOOP, DONE or RTE (R341). -/
def AnvOp.moves : AnvOp → Bool
  | .br _ _ _ => true
  | .loop _ _ _ _ => true
  | .sys f => f == 1 || f == 2
  | _ => false

/-- The instruction may not stand where it is (R283, R341): past the instruction memory, a branch, LOOP, DONE or RTE in a delay slot or at
the end of an active loop, or a delay slot there. -/
def Anv.misplaced (a : Anv) (op : AnvOp) : Bool :=
  decide (0x7FF < a.pc) || (op.moves && a.slot.isSome) || ((a.loopAt a.pc).isSome && (op.moves || a.slot.isSome))

/-! ### Loads, stores and the lane (R326 to R337) -/

/-- The address an access of `size` bytes uses, and what the address register holds afterwards (R327); `none` for a modifier that may not
be used. -/
def Anv.address (a : Anv) (p am m off size : Nat) : Option (Nat × Nat) :=
  let v := a.crv p
  match am with
  | 0 => some (v, v)
  | 1 => if modifierOk (a.crv (8 + m)) then some (v, postModify v (a.crv (8 + m))) else none
  | _ => some (unsign 16 ((v : Int) + sext 9 off * size), v)

/-- `s` with the flags `st` and address register `p` of anvil `n` written. -/
def State.anvAfter (s : State) (n st p v : Nat) : State :=
  let a := s.anv n
  s.setAnv n ((a.setCr 0x10 st).setCr p v)

/-- A load or store of `size` bytes: its faults, its wait for a copy, or what `act` does at its address (R283, R343). -/
def State.access (s : State) (n p am m off size : Nat) (store : Bool) (act : Nat → Nat → Issue) : Issue :=
  let a := s.anv n
  match a.address p am m off size with
  | none => .fault 1 s
  | some (x, v) =>
    match memFault size x with
    | some c => .fault c s
    | none => if a.spanBusy x size store then .stall else act x v

/-- Opcode 0x04 (R328). -/
def State.anvLoad (s : State) (n md sub reg p am m off : Nat) : Issue :=
  s.access n p am m off (if sub = 0 then 2 else 4) false fun x v =>
    let a := s.anv n
    match sub with
    | 0 => .plain ((s.setAnv n (a.setReg reg (s.read16 n x))).anvAfter n a.st p v)
    | 1 => .plain ((s.setAnv n (a.setPair reg (s.read32 n x))).anvAfter n a.st p v)
    | 2 =>
      let c := normLoad md a.sx (sext 32 (s.read32 n x)) a.st
      .done ((s.setAnv n (a.setReg reg (unsign 16 c.val))).anvAfter n c.st p v) c.v false .next
    | _ => .plain ((s.setAnv n (a.setAcc reg (sext 32 (s.read32 n x)))).anvAfter n a.st p v)

/-- Opcode 0x05 (R328). -/
def State.anvStore (s : State) (n md sub reg p am m off : Nat) : Issue :=
  s.access n p am m off (if sub = 0 ∨ sub = 3 then 2 else 4) true fun x v =>
    let a := s.anv n
    match sub with
    | 0 => .plain ((s.write16 n x (a.reg reg)).anvAfter n a.st p v)
    | 1 => .plain ((s.write32 n x (a.pair reg)).anvAfter n a.st p v)
    | 2 =>
      let c := denorm md a.sx (a.accv reg) a.st
      .done ((s.write32 n x (unsign 32 c.val)).anvAfter n c.st p v) c.v false .next
    | _ =>
      let c := extract16 md (a.accv reg) a.st
      .done ((s.write16 n x (unsign 16 c.val)).anvAfter n c.st p v) c.v false .next

/-- sx of anvil `n` becomes the lesser of itself and the headroom of `v` (R337). -/
def State.anvLowerSx (s : State) (n : Nat) (v : Int) : State :=
  let a := s.anv n
  s.setAnv n (a.setCr 0x12 (Nat.min a.sx (headroom 32 v)))

/-- Opcode 0x06 (R328). -/
def State.anvNorm (s : State) (n sub reg p am m off : Nat) : Issue :=
  if sub = 1 then .plain (s.anvLowerSx n (sext 32 ((s.anv n).pair reg)))
  else s.access n p am m off 4 false fun x v =>
    let s := s.anvLowerSx n (sext 32 (s.read32 n x))
    .plain (s.anvAfter n (s.anv n).st p v)

/-- The operand load of a lane instruction, if it has one: where it reads and what its address register becomes, or its fault (R332). -/
def Anv.laneLoad (a : Anv) (on : Bool) (p m size : Nat) : Except Nat (Option (Nat × Nat)) :=
  if on then
    match a.address p 1 m 0 size with
    | none => .error 1
    | some (x, v) => match memFault size x with | some c => .error c | none => .ok (some (x, v))
  else .ok none

/-- A lane instruction (R330 to R332, R335). -/
def State.anvLane (s : State) (n md op acc x y sgn : Nat) (sh lx : Bool) (px mx : Nat) (ly : Bool) (py my width : Nat) : Issue :=
  let a := s.anv n
  let norm := width == 0 && mdBfp md
  let sizeX := if width != 0 || norm then 4 else 2
  let sizeY := if width != 0 then 4 else 2
  let loadX := a.laneLoad lx px mx sizeX
  let loadY := a.laneLoad ly py my sizeY
  if (width != 0 && !mdPrec md) || loadY matches .error 1 then .fault 1 s
  else
    match loadX, loadY with
    | .error c, _ => .fault c s
    | _, .error c => .fault c s
    | .ok u, .ok v =>
      let busy := fun (o : Option (Nat × Nat)) (size : Nat) => match o with | some (t, _) => a.spanBusy t size false | none => false
      if busy u sizeX || busy v sizeY then .stall
      else
        let xv := if width = 0 then a.reg x else a.pair x
        let yv := if width = 2 then a.pair y else a.reg y
        let c := laneAcc op md (a.accv acc) (laneProduct width sgn sh xv yv) a.st
        let a := a.setAcc acc c.val
        let (a, st, vx) := match u with
          | none => (a, c.st, false)
          | some (t, p') =>
            let a := a.setCr px p'
            if width != 0 then (a.setPair x (s.read32 n t), c.st, false)
            else if norm then
              let l := normLoad md a.sx (sext 32 (s.read32 n t)) c.st
              (a.setReg x (unsign 16 l.val), l.st, l.v)
            else (a.setReg x (s.read16 n t), c.st, false)
        let a := match v with
          | none => a
          | some (t, p') =>
            let a := a.setCr py p'
            if width != 0 then a.setPair y (s.read32 n t) else a.setReg y (s.read16 n t)
        .done (s.setAnv n (a.setCr 0x10 st)) (c.v || vx) false .next

/-! ### ALU, accumulators, control registers (R323 to R325, R333, R334, R349) -/

/-- Opcode 0x01. -/
def State.anvAlu (s : State) (n md f d x y : Nat) (w : Bool) : Issue :=
  let a := s.anv n
  let v := fun (r : Nat) => if w then a.pair r else a.reg r
  let k := if w then 32 else 16
  let c := alu f k md (v x) (v y) a.st
  let b := a.setCr 0x10 c.st
  let b := if f = 0x0B then b else if w then b.setPair d (unsign 32 c.val) else b.setReg d (unsign 16 c.val)
  .done (s.setAnv n b) c.v false .next

/-- Opcode 0x02. -/
def State.anvImm (s : State) (n md sub d v : Nat) : Issue :=
  let a := s.anv n
  let c := immAlu sub md (a.reg d) v a.st
  let b := a.setCr 0x10 c.st
  .done (s.setAnv n (if sub = 2 then b else b.setReg d (unsign 16 c.val))) c.v false .next

/-- Opcode 0x03. -/
def State.anvAcc (s : State) (n md f d ad src k : Nat) : Issue :=
  let a := s.anv n
  match f with
  | 0 =>
    let c := extract16 md (a.accv src) a.st
    .done (s.setAnv n ((a.setReg d (unsign 16 c.val)).setCr 0x10 c.st)) c.v false .next
  | 1 =>
    let c := extract32 md (a.accv src) a.st
    .done (s.setAnv n ((a.setPair d (unsign 32 c.val)).setCr 0x10 c.st)) c.v false .next
  | _ =>
    let c := accOp f md (a.accv ad) (a.accv src) (a.pair d) k a.sx a.st
    .done (s.setAnv n ((a.setAcc ad c.val).setCr 0x10 c.st)) c.v false .next

/-- PSET and PADD (R329). -/
def State.anvAddr (s : State) (n p sub v : Nat) : Issue :=
  let a := s.anv n
  .plain (s.setAnv n (a.setCr p (if sub = 0 then v else unsign 16 ((a.crv p : Int) + sext 14 v))))

/-- MVC and MVF (R349, R354). -/
def State.anvCtl (s : State) (n : Nat) (out : Bool) (reg : Nat) (w : Bool) (cr : Nat) : Issue :=
  let a := s.anv n
  if out then
    let v := if w then a.pair reg else a.reg reg
    .done (s.setAnv n (a.setCr cr v)) false false (if cr = 0x11 then .shadow a.md else .next)
  else
    let v := s.readCr n cr
    let s := if cr = 0x24 then s.tickFree else s
    .plain (s.setAnv n (if w then a.setPair reg v else a.setReg reg v))

/-! ### Branches and loops (R338 to R341) -/

/-- The target of a branch at index `i` whose condition is tested on st. -/
def Anv.branchTo (a : Anv) (i cond kind target : Nat) : Nat :=
  if condHolds cond a.st then
    match kind with
    | 0 => unsign 16 ((i : Int) + sext 11 target)
    | 3 => a.crv 0x13
    | _ => target
  else i + 2

/-- Opcode 0x0A. -/
def State.anvBranch (s : State) (n cond kind target : Nat) : Issue :=
  let a := s.anv n
  let b := if kind = 2 && condHolds cond a.st then a.setCr 0x13 (a.pc + 2) else a
  .done (s.setAnv n b) false false (.branch (a.branchTo a.pc cond kind target))

/-- The LOOP may not start (R341). -/
def Anv.loopRefused (a : Anv) (l stop count : Nat) : Bool :=
  let le := a.pc + stop
  a.crv (0x14 + l) != 0 ||
    [0, 1, 2].any fun j =>
      a.crv (0x14 + j) != 0 &&
        ((decide (a.crv (0x18 + j) ≤ a.pc) && decide (a.pc ≤ a.crv (0x1C + j)) && decide (a.crv (0x1C + j) ≤ le)) ||
          (count != 0 && a.crv (0x1C + j) == le))

/-- Opcode 0x0B (R340). -/
def State.anvLoop (s : State) (n l : Nat) (src : Bool) (stop count : Nat) : Issue :=
  let a := s.anv n
  let c := if src then a.reg count else count
  if a.loopRefused l stop c then .fault 1 s
  else
    let b := ((a.setCr (0x18 + l) (a.pc + 1)).setCr (0x1C + l) (a.pc + stop)).setCr (0x14 + l) c
    .done (s.setAnv n b) false false (if c = 0 then .jump (a.pc + stop + 1) else .next)

/-! ### Billets and handles (R286 to R292, R342 to R345) -/

/-- A billet operation that completes at once with NOROUTE or RANGE counts in EVT.BOP_FAIL. (Log entry 62: DEDUCED.) -/
def State.bopFail (s : State) (n : Nat) : State := s.incF (Regs.ANV_EVT n) 0 16

/-- The queue of ring `r`, `none` where it has no route (R288). (Log entry 62: DEDUCED.) -/
def State.anvRing (s : State) (n r : Nat) : Option Nat :=
  let q := s.f (if r < 2 then Regs.ANV_RING01 n else Regs.ANV_RING23 n) (16 * (r % 2)) 10
  let x := s.queue q
  if x.on && x.isRing && x.producer == unitId (anvPage n) 0 then some q else none

/-- The fault of a billet operation's data-memory address (R283, R289). (Log entry 56: DEDUCED.) -/
def billetFault (a : Nat) : Option Nat := if a % 64 ≠ 0 then some 2 else if 0x4000 ≤ a then some 3 else none

/-- A copy that reads data memory waits while another writes its span (R343). -/
def Anv.copyWaits (a : Anv) (x : Nat) : Bool := a.copies.any fun c => touches x 64 c.writes

/-- BTAKE (R289 to R292). (Log entry 56: DEDUCED.) -/
def State.anvTake (s : State) (n h t x : Nat) : Issue :=
  let a := s.anv n
  if (a.handle h).st != .empty then .fault 1 s
  else
    match billetFault x with
    | some c => .fault c s
    | none =>
      match s.anvRoute n t with
      | (none, s) => .plain ((s.setHandle n h { code := 1 }).bopFail n)
      | (some q, s) =>
        match (s.queue q).ready with
        | [] => .plain (s.setHandle n h { st := .take t x, code := 8 })
        | i :: _ =>
          if s.anvMayTake n (s.itemBillet i).tag.domain then .plain (s.beginTake n h q x)
          else .fault 3 (s.setHandle n h { code := 2 })

/-- BGRANT. -/
def State.anvGrantOp (s : State) (n h t : Nat) : Issue :=
  let a := s.anv n
  if (a.handle h).st != .empty then .fault 1 s
  else
    match s.anvRoute n t with
    | (none, s) => .plain ((s.setHandle n h { code := 1 }).bopFail n)
    | (some q, s) =>
      if s.anvMayGrant n (s.queue q).domain then
        match s.grant q (.anvil n h) with
        | (none, s) => .plain (s.setHandle n h { st := .grant t, code := 8 })
        | (some b, s) => .plain (s.heldGrant n h q b)
      else .fault 3 (s.setHandle n h { code := 2 })

/-- BPUT. (Log entry 56: DEDUCED.) -/
def State.anvPut (s : State) (n h x : Nat) : Issue :=
  let a := s.anv n
  let y := a.handle h
  if y.st != .held || !y.granted then .fault 1 s
  else
    match billetFault x with
    | some c => .fault c s
    | none =>
      if a.copyWaits x then .stall
      else
        .plain ((s.setHandle n h { y with st := .busy, code := 8 }).issueCopy n (.put h x))

/-- BREL. -/
def State.anvRel (s : State) (n h : Nat) : Issue :=
  let y := (s.anv n).handle h
  match y.st, y.item with
  | .held, some i => .plain ((s.releaseItem i).setHandle n h { code := 0 })
  | _, _ => .fault 1 s

/-- BRD and BWR of ring `r`, index `i` (R288, R344). -/
def State.anvRingOp (s : State) (n : Nat) (wr : Bool) (r i x : Nat) : Issue :=
  let a := s.anv n
  match billetFault x with
  | some c => .fault c s
  | none =>
    if wr && a.copyWaits x then .stall
    else
      match s.anvRing n r with
      | none => .plain ((s.setAnv n { a with cr := a.cr.set 0 0x23 1 }).bopFail n)
      | some q =>
        if (s.queue q).depth ≤ i then .plain ((s.setAnv n { a with cr := a.cr.set 0 0x23 4 }).bopFail n)
        else .plain (s.issueCopy n (if wr then .ringWrite q i x else .ringRead q i x))

/-- Opcode 0x0C. -/
def State.anvBillet (s : State) (n f h t ring i p : Nat) : Issue :=
  let a := s.anv n
  match f with
  | 0 => s.anvTake n h t (a.crv p)
  | 1 => s.anvGrantOp n h t
  | 2 => s.anvPut n h (a.crv p)
  | 3 => s.anvRel n h
  | 4 => s.anvRingOp n false ring (a.reg i) (a.crv p)
  | _ => s.anvRingOp n true ring (a.reg i) (a.crv p)

/-- Opcode 0x0D (R344, R345). -/
def State.anvHandle (s : State) (n f h reg : Nat) (sel : Bool) : Issue :=
  let a := s.anv n
  let x := a.handle h
  match f with
  | 0 => if x.pending then .stall else .plain (s.setAnv n (a.setReg reg x.code))
  | 1 => .plain (s.setAnv n (a.setReg reg x.code))
  | 2 => if 32768 ≤ a.bst then .stall else .plain (s.setAnv n (a.setReg reg a.bst))
  | 3 =>
    if x.st = .held then .plain (s.setAnv n (a.setPair reg (fld x.tag.word64 (if sel then 32 else 0) 32))) else .fault 1 s
  | _ =>
    if x.st = .held then
      let v := a.pair reg
      let w := x.tag.word64
      let t := Tag.ofWord64 (if sel then w % 2 ^ 32 + 2 ^ 32 * v else w / 2 ^ 32 * 2 ^ 32 + v)
      let flags := t.flags % 16 + x.tag.flags / 16 * 16
      .plain (s.setHandle n h { x with tag := { t with domain := x.tag.domain, packed := x.tag.packed, flags := flags } })
    else .fault 1 s

/-! ### Coprocessor, control space, system (R346 to R348) -/

/-- Opcode 0x0E. -/
def State.anvCop (s : State) (n md op d x y : Nat) : Issue :=
  let a := s.anv n
  if 4 ≤ a.cops.length then .stall
  else
    let r := copResult op md (a.pair x) (if op = 0 then a.reg y else if op = 5 then a.pair y else 0)
    .plain (s.setAnv n { a with cops := a.cops ++ [{ dest := d, val := r.val, sat := r.sat, err := r.err, op := op, src := a.pc }] })

/-- CRD and CWR (R37, R347). A CWR completes at once, so its buffer never fills and no CRD waits for it. (Log entry 10: DEDUCED.) -/
def State.anvBus (s : State) (n : Nat) (wr : Bool) (d x : Nat) : Issue :=
  let a := s.anv n
  let addr := a.pair x
  let p := fld addr 10 8
  let off := fld addr 2 8 * 4
  if wr then
    if addr / 2 ^ 18 = 0 then .plain (s.ctlWrite (.anvil n) p off (Word.of (a.pair d)))
    else .plain (s.errOn 0 p off errReserved)
  else
    let (v, s) := if addr / 2 ^ 18 = 0 then
        let (v, s) := s.busRead (.anvil n) p off
        (v, s.afterAccess (.anvil n) p off)
      else (0, s.errOn 0 p off errReserved)
    .plain (s.setAnv n ((s.anv n).setPair d v.toNat))

/-- DONE (R298): the waits, then pending operations end, held billets go back, and the anvil waits for its next release. The cycles it
took are a free value. (Log entry 10: DEDUCED.) -/
def State.anvDone (s : State) (n : Nat) : Issue :=
  let a := s.anv n
  if a.copies.isEmpty && a.cops.isEmpty then
    let s := s.emptyHandles n true
    let c := (Config.freeWord s.free).toNat % 2 ^ 18
    let s := (s.tickFree.setF (Regs.ANV_CYC_LAST n) 0 18 c).setF (Regs.ANV_CYC_MAX n) 0 18 (Nat.max c (s.f (Regs.ANV_CYC_MAX n) 0 18))
    .done (s.setAnvState n anWait) false false .stop
  else .stall

/-- What an instruction does in the present state of anvil `n`: faults of its encoding and place first, then the wait for a pending pair,
then its own work. -/
def State.anvIssue (s : State) (n : Nat) (op : AnvOp) : Issue :=
  let a := s.anv n
  let md := a.mode
  if !op.legal || a.misplaced op then .fault 1 s
  else if a.copPending op.uses then .stall
  else
    match op with
    | .sys 0 => .plain s
    | .sys 1 => s.anvDone n
    | .sys 2 => .done s false false .rte
    | .sys _ => .done s false true .next
    | .alu f d x y w => s.anvAlu n md f d x y w
    | .imm sub d v => s.anvImm n md sub d v
    | .acc f d ad src k => s.anvAcc n md f d ad src k
    | .load sub reg p am m off => s.anvLoad n md sub reg p am m off
    | .store sub reg p am m off => s.anvStore n md sub reg p am m off
    | .norm sub reg p am m off => s.anvNorm n sub reg p am m off
    | .addr p sub v => s.anvAddr n p sub v
    | .ctl out reg w cr => s.anvCtl n out reg w cr
    | .br cond kind target => s.anvBranch n cond kind target
    | .loop l src stop count => s.anvLoop n l src stop count
    | .billet f h t ring i p => s.anvBillet n f h t ring i p
    | .handle f h reg sel => s.anvHandle n f h reg sel
    | .cop o d x y => s.anvCop n md o d x y
    | .bus wr d x => s.anvBus n wr d x
    | .lane o acc x y sgn sh lx px mx ly py my width => s.anvLane n md o acc x y sgn sh lx px mx ly py my width

/-! ### Going on (R340, R354, R361 to R365, R370) -/

/-- The loop step after the instruction at `i`, and the index that follows (R340); none is taken while EXL is 1 (R370). -/
def Anv.loopStep (a : Anv) (i : Nat) : Anv × Nat :=
  match a.loopAt i with
  | none => (a, i + 1)
  | some l =>
    if a.exl then (a, i + 1)
    else
      let c := a.crv (0x14 + l)
      (a.setCr (0x14 + l) (c - 1), if 1 < c then a.crv (0x18 + l) else i + 1)

/-- The program goes on from the instruction at `i`, which ran under mode `md`. -/
def State.anvGoOn (s : State) (n i md : Nat) (flow : Flow) : State :=
  let a := s.anv n
  let on := fun (sh : Option Nat) =>
    match a.slot with
    | some (_, t, _) => { a with pc := t, slot := none, shadow := sh, skipBp := false }
    | none =>
      let (b, nx) := a.loopStep i
      { b with pc := nx, shadow := sh, skipBp := false }
  match flow with
  | .next => s.setAnv n (on none)
  | .shadow old => s.setAnv n (on (some old))
  | .branch t => s.setAnv n { a with pc := i + 1, slot := some (i, t, md), shadow := none, skipBp := false }
  | .jump t => s.setAnv n { a with pc := t, shadow := none, skipBp := false }
  | .rte =>
    let e := a.crv 0x21
    s.setAnv n { a.setCr 0x21 (putBit e 7 false) with
      pc := a.crv 0x20, slot := none, shadow := if e.testBit 5 then some (e / 2048) else none, skipBp := true }
  | .stop => s.setAnv n { a with slot := none, shadow := none, skipBp := false }

/-- A trap (R355): the exception comes after the instruction at `i`. -/
def State.anvTrap (s : State) (n cause i : Nat) : State :=
  let a := s.anv n
  (s.squash n [a.pc]).anvExcept n cause i a.place

/-- The outcome of an instruction takes effect: R356 takes OVERFLOW before BREAK. -/
def State.anvSettle (s : State) (n : Nat) : Issue → State
  | .stall => s
  | .fault c s' => s'.anvFault n c
  | .done s' v brk flow =>
    let a := s.anv n
    let t := s'.anvGoOn n a.pc a.mode flow
    if v && mdOvt a.mode then t.anvTrap n 5 a.pc
    else if brk then t.anvTrap n 7 a.pc
    else t

/-- The outcome enters an exception. -/
def Issue.excepts (md : Nat) : Issue → Bool
  | .fault _ _ => true
  | .done _ v brk _ => (v && mdOvt md) || brk
  | .stall => false

/-- The anvil has finished the step that stepped it: it halts (R372). (Log entry 58: DEDUCED.) -/
def State.anvStepped (s : State) (n : Nat) : State :=
  let a := s.anv n
  if a.stepReq && a.clean && s.anvState n != anHalted then (s.flushCops n).anvHalt n true else s

/-! ### Breakpoints (R371, R373) -/

/-- The instruction at index `i` of anvil `n`'s memory. -/
def State.anvFetch (s : State) (n i : Nat) : Option AnvOp := if i < 2048 then decodeAnvil (s.w (codeKey n i)).toNat else none

/-- The indices at which the program cannot stop after the one at `i`: the delay slots and shadow instructions it draws in; `back` is
where the program goes on after a delay slot. -/
def State.drawnIn (s : State) (n : Nat) : Nat → Nat → Option Nat → List Nat
  | 0, _, _ => []
  | fuel + 1, i, back =>
    match s.anvFetch n i with
    | some (.br cond kind target) => (i + 1) :: s.drawnIn n fuel (i + 1) (some ((s.anv n).branchTo i cond kind target))
    | some (.ctl true _ _ 0x11) =>
      let nx := back.getD ((s.anv n).loopStep i).2
      nx :: s.drawnIn n fuel nx none
    | _ => []

/-- The breakpoint that matches the instruction about to run: the lowest-numbered armed one on its index, or on one it draws in.
(Log entry 61: DEDUCED.) -/
def State.breakpoint (s : State) (n : Nat) : Option Nat :=
  let a := s.anv n
  if a.clean && !a.skipBp then
    let l := a.pc :: s.drawnIn n 4 a.pc none
    [0, 1, 2, 3].find? fun i =>
      let k := 0x1C000 + n * 4 + i
      s.b k 31 && l.contains (s.f k 0 11)
  else none

/-- A breakpoint matches: DBG.HIT records it, and the anvil halts or takes BREAK as a fault. (Log entry 61: DEDUCED.) -/
def State.breakpointHit (s : State) (n i : Nat) : State :=
  let a := s.anv n
  let s := (s.setW Regs.DBG_HIT (Word.of (0x80000000 + n * 0x40000 + i * 0x10000 + a.pc % 2048))).event 0x0F 0
  if s.b (0x1C000 + n * 4 + i) 30 then s.anvFault n 7
  else (s.setAnv n { a with haltReq := true }).haltDone n

/-! ### Executing -/

/-- Anvil `n`, which executes, comes to the instruction `op`: a requested halt or a breakpoint comes first. -/
def State.anvExec (s : State) (n : Nat) (op : AnvOp) : State :=
  let a := s.anv n
  if a.haltReq && a.clean then s.haltDone n
  else
    match s.breakpoint n with
    | some i => s.breakpointHit n i
    | none => (s.anvSettle n (s.anvIssue n op)).anvStepped n

/-- The command `op` of anvil `n`: nothing happens unless the anvil executes. (Log entry 11: DESIGN CHOICE.) -/
def State.anvRow (s : State) (n : Nat) (op : AnvOp) : State := if s.anvRuns n then s.anvExec n op else s

/-- The anvil runs the instruction its program counter names; a word that spells none is illegal. -/
def State.anvNext (s : State) (n : Nat) : State :=
  match s.anvFetch n (s.anv n).pc with
  | some op => s.anvExec n op
  | none =>
    if (s.anv n).haltReq && (s.anv n).clean then s.haltDone n
    else
      match s.breakpoint n with
      | some i => s.breakpointHit n i
      | none => (s.anvFault n 1).anvStepped n

/-- Row EXCEPTION_ENTRY: the instruction at the program counter raises an exception, and the anvil takes it (R358). -/
def State.anvEntry (s : State) (n : Nat) : State :=
  if s.anvRuns n then
    match s.anvFetch n (s.anv n).pc with
    | none => s.anvNext n
    | some op => if (s.anvIssue n op).excepts (s.anv n).mode then s.anvNext n else s
  else s

/-- Row LOOP_EXIT: the instruction that ends a loop whose count has come to 1 runs, and the program goes on past it (R340). -/
def State.anvLoopExit (s : State) (n : Nat) : State :=
  let a := s.anv n
  if s.anvRuns n && a.slot.isNone && !a.exl then
    match a.loopAt a.pc with
    | some l => if a.crv (0x14 + l) = 1 then s.anvNext n else s
    | none => s
  else s

/-- Row BREAKPOINT_MATCH: an armed breakpoint matches the instruction being fetched (R373). -/
def State.anvMatch (s : State) (n : Nat) : State :=
  if s.anvRuns n then match s.breakpoint n with | some i => s.breakpointHit n i | none => s else s

/-- STEP runs: at most four instructions, until a clean boundary; one that waits keeps the step open (R306, R372). -/
def State.anvStepRun (s : State) (n : Nat) : Nat → State
  | 0 => s
  | fuel + 1 =>
    if s.anvRuns n && (s.anv n).stepReq then
      let stalls : Bool := match s.anvFetch n (s.anv n).pc with | some op => s.anvIssue n op == .stall | none => false
      if stalls then s else (s.anvNext n).anvStepRun n fuel
    else s

/-- The steps requested of the anvils run (R306). -/
def State.anvSteps (s : State) : State :=
  (s.anvs.filter fun (x : Nat × Anv) => x.2.stepReq).foldl (fun (s : State) (x : Nat × Anv) =>
    let n := x.1
    let s := if s.anvState n = anHalted then (s.setAnv n { s.anv n with skipBp := true }).setAnvState n anRun else s
    s.anvStepRun n 4) s

end Sys2Proof.Machine
end

