-- ==== Sys2Proof/Machine/Pins.lean ====
section
/-!
DEFINITION. The serial audio pins (chapter 07): which edge is a frame edge, the frame clock's shape, the edges at which data changes and is
sampled, the bit of a frame that each bit of a slot takes, the clocks that the device drives, and what SAPn_DOUT drives in each quarter of
a bit. Everything here is read off the state; nothing changes it.
-/

namespace Sys2Proof.Machine

/-! ### Frames at the pins (R194 to R196) -/

/-- The frame edge is the rising edge of the frame clock: in left-justified and DSP/TDM format, with FS_INV = 0, or in I2S with it. -/
def fmtEdgeRising (f : Word) : Bool := (bits f 0 2 != 0) != bit f 7

/-- The level of a master's frame clock in bit `b` of a frame (R194): in I2S low for slot 0, in left-justified format high, in DSP/TDM high
for one bit or one slot (FSW). -/
def fmtFrameClock (f : Word) (b : Nat) : Bool :=
  let w := fmtSlotBits f
  (match bits f 0 2 with
   | 0 => decide (w ≤ b)
   | 1 => decide (b < w)
   | _ => decide (b < if bit f 9 then w else 1)) != bit f 7

/-- The receiver samples data and frame clock on the rising edge of the bit clock; the sender changes them on the other edge (R195). -/
def fmtSamplesRising (f : Word) : Bool := !bit f 6

/-- In PDM format channel 0 is sampled on the rising edge and channel 1 on the falling edge; the sender changes each after the other edge
(R219). -/
def pdmSamplesRising (c : Nat) : Bool := c == 0

/-- What bit `b` of a frame belongs to: a slot and the bit of it, counted from its first; the first value says that it is the last slot of
the frame before, which ends in bit 0 of this one (R194). -/
def fmtPlace (f : Word) (b : Nat) : Option (Bool × Nat × Nat) :=
  let w := fmtSlotBits f
  let d := fmtSlotStart f 0
  if b < d then some (true, fmtSlots f - 1, w + b - d)
  else if (b - d) / w < fmtSlots f then some (false, (b - d) / w, (b - d) % w) else none

/-- Bit `j` of a slot that carries the word `v`: the word stands most significant bit first, and the slot's other bits are 0 (R194, R196). -/
def fmtSlotBit (f v : Word) (j : Nat) : Bool := decide (j < fmtWordBits f) && v.toNat.testBit (fmtWordBits f - 1 - j)

/-- The word of slot `i` that a receiver reads from the data line, whose level at the sampling edge of each bit is `line`; bits from F on
are those of the next frame (R194, R196). -/
def fmtReadWord (f : Word) (line : Nat → Bool) (i : Nat) : Word :=
  Word.of ((List.range (fmtWordBits f)).foldl (fun v j => 2 * v + b2n (line (fmtSlotStart f i + j))) 0)

/-! ### The clocks that the device drives (R190, R197, R199) -/

/-- The RX side of SAPn runs on the TX side's pins, so that RBCLK and RFS are inputs (R199). -/
def State.sapShares (s : State) (n : Nat) : Bool := s.b (Regs.SAP_RX_CLK n) 16

/-- A side that uses the pins of this side has started and not stopped: master clocks run from the first start to the second stop of the
two that share them (R199). -/
def State.sapClocked (s : State) (n : Nat) (rx : Bool) : Bool :=
  s.sapState n rx != 0 || (!rx && s.sapShares n && s.sapState n true != 0)

/-- The rate in Hz of the bit clock that the device drives at the side's pin; `none` where the pin is an input or the clock stands. -/
def State.bitClockOut (s : State) (n : Nat) (rx : Bool) : Option Nat :=
  if !(rx && s.sapShares n) && bit (s.sapClk n rx) 0 && s.sapClocked n rx then some (24576000 / (bits (s.sapClk n rx) 8 8 + 1)) else none

/-- The device drives the side's frame-clock pin; a PDM side does not use it (R219). -/
def State.frameClockOut (s : State) (n : Nat) (rx : Bool) : Bool :=
  !(rx && s.sapShares n) && bit (s.sapClk n rx) 1 && !fmtPdm (s.sapFmt n rx) && s.sapClocked n rx

/-- The level at the side's frame-clock pin in bit `b` of a frame, where the device drives it. -/
def State.frameClockPin (s : State) (n : Nat) (rx : Bool) (b : Nat) : Option Bool :=
  if s.frameClockOut n rx then some (fmtFrameClock (s.sapFmt n rx) b) else none

/-! ### SAPn_DOUT (R196, R214 to R217) -/

/-- The word of slot `i` in the frame being sent, or in the one before; 0 in a slot that is not enabled. -/
def State.slotWord (s : State) (n : Nat) (before : Bool) (i : Nat) : Word :=
  let d := s.side (sapSide n false)
  match (mapSlots (s.sapMap n false)).findIdx? (· == i) with
  | none => 0
  | some c => (if before then d.prev else d.sent).getD c 0

/-- The driver of an owned slot has been released by quarter `h` of a bit by a disagreement in the frame being sent; the bit is the first of
the slot's word, or the last (R215). -/
def Side.cutBy (d : Side) (slot : Nat) (last : Bool) (h : Nat) : Bool :=
  d.cut.any fun x => x.1 == slot && (match x.2 with
    | 0 => !last && decide (1 ≤ h)
    | 1 => last && decide (3 ≤ h)
    | 2 => decide (2 ≤ h)
    | 3 => !last && decide (3 ≤ h)
    | _ => last && decide (1 ≤ h))

/-- On a shared line the side drives bit `j` of owned slot `i` in quarter `h` of the bit: its word's bits alone, less the guards of R216 and
a release within the bit (R215); of a slot released under R217 the middle half of the first bit. (Log entry 89: DEDUCED.) -/
def State.sharedDrives (s : State) (n i j h : Nat) : Bool :=
  let d := s.side (sapSide n false)
  let e := fmtWordBits (s.sapFmt n false) - 1
  (mapSlots (s.sapMap n false)).contains i && decide (j ≤ e) &&
    (if s.b (Regs.SAP_LINE n) i then j == 0 && decide (h = 1 ∨ h = 2)
     else !(j == 0 && h == 0 && d.guards.contains (i, false)) && !(j == e && h == 3 && d.guards.contains (i, true)) &&
       !(j == 0 && d.cutBy i false h) && !(j == e && d.cutBy i true h))

/-- The level that SAPn_DOUT drives in quarter `h` of bit `b` of the frame being sent, `none` for high impedance. After bit F a late edge is
met with zeros, or with high impedance on a shared line (R214). An ORPHAN device's stopped side is at high impedance (R564). (Log entry 89: DEDUCED.) -/
def State.dataOut (s : State) (n b h : Nat) : Option Bool :=
  let f := s.sapFmt n false
  let shared := bit f 10 && !fmtPdm f
  let idle := if shared || s.pair.orphan then none else some false
  if s.sapState n false ≠ 2 then idle
  else match (if b < fmtFrameBits f then fmtPlace f b else none) with
    | none => idle
    | some (before, i, j) =>
      if shared && !s.sharedDrives n i j h then none else some (fmtSlotBit f (s.slotWord n before i) j)

/-! ### The PDM interface (R220, R221) -/

/-- The PDM line that carries microphone channel `k` of the PDM ones, 8 to 15, and whether it is sampled on the rising clock edge (R220). -/
def pdmLineOf (k : Nat) : Nat × Bool := ((k - 8) / 2, k % 2 == 0)

/-- PDMCLKm runs (R221): with EN, an enabled line of its two and no privacy mute; in EMBER only the clock that serves WAKE.MIC. -/
def State.pdmClkRuns (s : State) (m : Nat) : Bool :=
  !s.privacy &&
    (if s.inEmber then let k := s.f Regs.WAKE_CTRL 0 4; decide (8 ≤ k) && (k - 8) / 4 == m && s.micFed k
     else s.awake && s.en 0x16 && s.f Regs.PDM_IF (2 * m) 2 != 0)

/-- The rate of PDMCLKm in Hz (R221): in EMBER 768 kHz from the FLL, else as the CLKm_RATE in force has it (R222). -/
def State.pdmClkHz (s : State) (m : Nat) : Nat := if s.inEmber || !s.pdmRate.testBit m then 768000 else 3072000

/-! ### Microphone supplies and the mute indicator (R446 to R448, R461) -/

/-- The voltage of MBIASn in mV, 0 while it is off (R447). -/
def State.biasMv (s : State) (n : Nat) : Nat := if s.biasOn n then 1800 + 100 * s.f Regs.MIC_BIAS (4 * n) 4 else 0

/-- The analogue front end of channel `k` is powered: a path runs or it listens in EMBER, and the privacy mute is not asserted (R461). -/
def State.frontEndOn (s : State) (k : Nat) : Bool :=
  decide (k < 8) && !s.privacy &&
    (if s.inEmber then s.f Regs.WAKE_CTRL 0 4 == k else s.awake && ((s.capt k).on || (s.capt (16 + k)).on))

/-- Preamplifier gain of channel `k` in dB (R446). -/
def State.preampDb (s : State) (k : Nat) : Nat := if k < 8 then 6 * s.f (Regs.MIC_CFG k) 0 3 else 0

/-- The rate of channel `k`'s one-bit stream in Hz (R448). -/
def State.micClockHz (s : State) (k : Nat) : Nat :=
  if k < 8 then (if s.inEmber then 768000 else 3072000) else s.pdmClkHz ((k - 8) / 4)

/-- The current that MUTE_LED sinks, in mA (R461). -/
def State.muteLedMa (s : State) : Nat := if s.privacy then 10 else 0

end Sys2Proof.Machine
end

