-- ==== Sys2Proof/Machine/Droute.lean ====
section
/-!
DEFINITION. The internal masters' welds, and the default route (R635 to R646): its settings, its channel map, the key actions and the change
of source. When its steps run is in `Machine.BoundaryWork` and `Machine.BootWork`.
-/

namespace Sys2Proof.Machine

/-! ### Welds of the internal masters -/

/-- Master `m` opens a weld and selects it: its serial number, `none` where no identifier is FREE. -/
def State.openSelected (s : State) (m : Master) : Option Nat × State :=
  let x := s.weldOpen m (s.domainOf m)
  if x.1 = 0 then (none, x.2) else (some x.2.weld.serial, x.2.setSelector m x.1)

/-- Master `m` writes a list of words by byte address (a register list), staged where it has selected a weld. -/
def State.writeList (s : State) (m : Master) (l : List KeyVal) : State :=
  l.foldl (fun (s : State) (kv : KeyVal) => s.ctlWrite m (kv.1 / 1024) (kv.1 % 1024 / 4 * 4) kv.2) s

/-- Master `m` stages entries given by their keys under the weld of serial `n`. -/
def State.stageAll (s : State) (n : Nat) (l : List (List KeyVal)) : State :=
  l.foldl (fun (s : State) (kvs : List KeyVal) => match s.weldBySerial n with | some w => s.stageWrite w kvs | none => s) s

/-- The weld of serial `n` is committed for target word `t`. -/
def State.commitSerial (s : State) (n t : Nat) (lateOk : Bool) (pair : Option Nat) : State :=
  match s.weldBySerial n with
  | some w => s.commitWeld w t lateOk pair
  | none => s

/-- Master `m` commits a list of entries as one weld with target word `t`: its serial. With no identifier FREE nothing is written.
(Log entries 40: DEDUCED, 80: DEDUCED.) -/
def State.internalWeld (s : State) (m : Master) (l : List (List KeyVal)) (t : Nat) (lateOk : Bool) (pair : Option Nat) : Option Nat × State :=
  let x := s.openSelected m
  match x.1 with
  | none => (none, x.2)
  | some n => (some n, (x.2.stageAll n l).commitSerial n t lateOk pair)

/-! ### The default route's settings (R636 to R638) -/

/-- The default route is in force. -/
def State.routed (s : State) : Bool := s.b Regs.SYS_DROUTE 0

/-- The volume in 1/256 dB. -/
def State.volume (s : State) : Int := s.level16 Regs.SYS_DROUTE 16

/-- DEF2 chooses the map of two channels (R638). -/
def State.twoChannel (s : State) : Bool := s.power.strapDef / 4 % 2 == 1

/-- The channels that the map starts. -/
def State.mappedChans (s : State) : List Nat := if s.twoChannel then [0, 1] else allChans

/-- The mixer port that node `n` reads under the map (R638): in a LIVE pair the acting lead's channels are left and the follower's right. -/
def State.mapPort (s : State) (n : Nat) : Nat :=
  if 16 ≤ n then n - 16
  else if s.pr = prLive then b2n (!s.actsLead)
  else n % 2

/-- The input word of node `n` under the map: enabled, its port, gain 0 dB. -/
def State.mapWord (s : State) (n : Nat) : Word := Word.of (0x80000000 + s.mapPort n * 0x1000000)

/-- The map as the entries of a weld. -/
def State.mapEntries (s : State) : List (List KeyVal) := (List.range 18).map fun n => [(nodeKey n 0x100, s.mapWord n)]

/-- The chains' GAIN at the level `g` as the entries of a weld. -/
def gainEntries (g : Int) : List (List KeyVal) := (List.range 17).map fun n => [(Regs.FIN_GAIN n, Word.of (unsign 16 g))]

/-- Producer and consumer of the default route's queue `q`, 0 to 29 (R637). -/
def routeEnds (q : Nat) : Nat × Nat :=
  let inc := fun (c : Nat) => unitId (0x30 + c) 0
  if q < 2 then (unitId pgLin q, inc q)
  else if q < 4 then (unitId 0x10 (0x10 + (q - 2)), asrcUnit 0 (q - 2))
  else if q < 6 then (asrcUnit 0 (q - 4), inc (q - 4))
  else if q < 8 then (unitId pgSpdif (q - 6), asrcUnit 1 (q - 6))
  else if q < 10 then (asrcUnit 1 (q - 8), inc (q - 8))
  else if q < 12 then (inc (q - 10), unitId pgMix (q - 10))
  else if q < 28 then (unitId pgMix (0x80 + (q - 12)), unitId (pgFin (q - 12)) 0)
  else (unitId pgMix (0x80 + (q - 12)), unitId (pgFin 16) (q - 28))

/-- The queue through which source `src` reaches INCc: 0 LIN0, 1 SAP0, 2 the IEC 60958 receiver. -/
def sourceQueue (src c : Nat) : Nat := (if src = 0 then 0 else if src = 1 then 4 else 8) + c

/-- A patch entry that joins the two ends of the default route's queue `q`. -/
def joinEntry (e q : Nat) : List KeyVal :=
  let x := routeEnds q
  [(entryKey e, Word.of (x.1 * 65536 + x.2)), (entryKey e + 1, Word.of (0x80000000 + q))]

/-- The entries 0 to 21 of bank A with source `src`: the source into INC0 and INC1, those into the mixer, and its nodes into the finishing
chains. -/
def routeEntries (src : Nat) : List (List KeyVal) :=
  [joinEntry 0 (sourceQueue src 0), joinEntry 1 (sourceQueue src 1)] ++ (List.range 20).map fun i => joinEntry (2 + i) (10 + i)

/-- A write of the boot ROM. -/
def State.bootWrite (s : State) (p off v : Nat) : State := s.ctlWrite .boot p off (Word.of v)

/-- The boot ROM sets up a queue of depth 8, unless it is enabled already (R643). -/
def State.bootQueue (s : State) (q prod cons : Nat) : State :=
  if (s.queue q).on then s
  else ((s.bootWrite 0x06 0x054 q).bootWrite 0x06 0x05C (prod * 65536 + cons)).bootWrite 0x06 0x058 8

/-- Step 4 of R643 in every case: the sense queues and the Tongs. -/
def State.bootSense (s : State) : State :=
  let s := s.bootWrite pgSns 0x040 (960 * 65536)
  let s := (List.range 32).foldl (fun (s : State) (i : Nat) => s.bootQueue (960 + i) (unitId pgSns i) (unitId pgTongs i)) s
  s.bootWrite pgTongs 0x008 1

/-- The pages that the default route enables (R636). -/
def State.routePages (s : State) : List Nat :=
  [pgLin, 0x10, pgSpdif, 0x18, 0x19, 0x30, 0x31, pgMix] ++ (List.range 17).map (fun n => 0x48 + n) ++ s.mappedChans.map chPage ++ [pgHpo, pgDiag]

/-- Step 4 of R643 while the default route is in force: every setting of R636 to R638. -/
def State.bootRoute (s : State) : State :=
  let mask := maskOf s.mappedChans
  let s := s.bootWrite pgClk 0x044 0
  let s := (List.range 30).foldl (fun (s : State) (q : Nat) => s.bootQueue q (routeEnds q).1 (routeEnds q).2) s
  let s := allChans.foldl (fun (s : State) (c : Nat) =>
    (s.bootWrite pgTongs 0x080 c).bootWrite pgTongs 0x070 (unsign 16 (-0x0590) * 65536 + s.f (tongsKey c 0x070) 0 16)) s
  let s := (List.range 8).foldl (fun (s : State) (c : Nat) => s.bootWrite (chPage c) 0x040 (putBits (s.w (Regs.CH_CFG c)) 4 1 1).toNat) s
  let s := s.bootWrite pgDiag 0x040 (mask * 65536 + s.f Regs.DIAG_CFG 0 2)
  let s := s.bootWrite pgDiag 0x044 (mask * 65536)
  let s := (List.range 17).foldl (fun (s : State) (n : Nat) =>
    (s.bootWrite (pgFin n) 0x044 (unsign 16 s.volume)).bootWrite (pgFin n) 0x054 4) s
  let s := (List.range 18).foldl (fun (s : State) (n : Nat) =>
    ((s.bootWrite pgMix 0x040 n).bootWrite pgMix 0x044 0x101).bootWrite pgMix 0x100 (s.mapWord n).toNat) s
  let src := s.f Regs.SYS_DROUTE 4 2
  let s := ((List.range 22).zip (routeEntries (src % 3))).foldl (fun (s : State) (e : Nat × List KeyVal) =>
    e.2.foldl (fun (s : State) (kv : KeyVal) => s.bootWrite pgPatch (if kv.1 % 2 = 0 then 0x04C else 0x050) kv.2.toNat)
      (s.bootWrite pgPatch 0x048 e.1)) s
  let s := (s.bootWrite pgLin 0x040 0x100).bootWrite pgLin 0x044 0
  let s := ((s.bootWrite 0x18 0x044 (2 * 65536 + 4)).bootWrite 0x18 0x048 (3 * 65536 + 5)).bootWrite 0x18 0x040 2
  let s := ((s.bootWrite 0x19 0x044 (6 * 65536 + 8)).bootWrite 0x19 0x048 (7 * 65536 + 9)).bootWrite 0x19 0x040 2
  let s := (s.bootWrite 0x10 0x054 (2 * 65536 + 3)).bootWrite pgSpdif 0x040 (6 * 65536)
  s.routePages.foldl (fun (s : State) (p : Nat) => s.bootWrite p 0x008 1) s

/-! ### Sources -/

/-- The command word that starts or stops the capture of source `src`: page, byte offset and value. (Log entry 78: DEDUCED.) -/
def State.sourceCmd (s : State) (src : Nat) (on : Bool) : Nat × Nat × Nat :=
  if src = 0 then (pgLin, 0x048, if on then 1 else 2)
  else if src = 1 then (0x10, 0x05C, if on then 2 else 8)
  else (pgSpdif, 0x040, (s.w Regs.SPDIF_CTRL).toNat + (if on then 8 else 16))

/-- The capture of source `src` starts or stops by command. -/
def State.commandSource (s : State) (src : Nat) (on : Bool) : State :=
  let c := s.sourceCmd src on
  if src < 3 then s.bootWrite c.1 c.2.1 c.2.2 else s

/-! ### Changes applied to one device or to both (R640, R641) -/

/-- The byte address of the word with key `k`, on a page without windows. -/
def byteAddr (k : Nat) : Nat := k * 4

/-- A change of the default route: in a LIVE pair the lead applies it to both devices, any other device to itself. `peer` lists what the
follower's half needs beside the same words. -/
def State.routeWeld (s : State) (own : List (List KeyVal)) (peer : List (Nat × Option Word)) : State :=
  if s.pr = prLive ∧ s.actsLead then { s with pair := { s.pair with jobs := s.pair.jobs ++ [{ msgs := peer, own := own }] } }
  else (s.internalWeld .boot own 0 true none).2

/-- Plain words for the follower's half. -/
def peerWords (l : List (List KeyVal)) : List (Nat × Option Word) := l.flatten.map fun kv => (byteAddr kv.1, some kv.2)

/-- The write that selects the follower's identifier over the link. -/
def peerSelect (on : Bool) : Nat × Option Word := (byteAddr Regs.WELD_SEL_VHK, if on then none else some 0)

/-- The request the follower's WELD.OPEN takes, and every further request of the job, in order (R546). (Log entry 54: DEDUCED.) -/
def State.jobSend (s : State) (j : PairJob) : State × PairJob :=
  match j.id with
  | none =>
    let q := s.nextSeq 2
    (s.queueMsg 2 1 [Word.of (byteAddr Regs.WELD_OPEN)], { j with seq := some q })
  | some id =>
    let s := (peerSelect true :: j.msgs).foldl (fun (s : State) (m : Nat × Option Word) =>
      s.queueMsg 2 2 [Word.of m.1, m.2.getD (Word.of id)]) s
    (s, { j with seq := some ((s.nextSeq 2 + 65535) % 65536) })

/-- The job leaves the list. -/
def State.jobDone (s : State) : State := { s with pair := { s.pair with jobs := s.pair.jobs.drop 1 } }

/-- The lead applies a change to itself alone (R641). (Log entry 54: DEDUCED.) -/
def State.jobAlone (s : State) (j : PairJob) : State := (s.jobDone.internalWeld .boot j.own 0 true none).2

/-- The first job begins, or ends where the pair is no longer LIVE or its weld has been decided (R641). (Log entry 54: DEDUCED.) -/
def State.jobStep (s : State) : State :=
  match s.pair.jobs with
  | [] => s
  | j :: t =>
    if s.pr ≠ prLive then s.jobAlone j
    else match j.weld with
      | some n =>
        match s.weldBySerial n with
        | none => s.jobDone
        | some w => if w.st = .coldShut then s.jobAlone j else if w.st = .pending then s else s.jobDone
      | none =>
        if j.seq.isSome then s
        else
          let x := s.jobSend j
          { x.1 with pair := { x.1.pair with jobs := x.2 :: t } }

/-- A RESULT answers the job's request: the identifier of the follower's half, or the last of its writes, after which the lead's half is
committed with it (R641). -/
def State.jobResult (s : State) (seq : Nat) (data : Word) : State :=
  match s.pair.jobs with
  | [] => s
  | j :: t =>
    if j.seq ≠ some seq then s
    else match j.id with
      | none =>
        if bits data 0 4 = 0 then s.jobAlone j
        else
          let x := s.jobSend { j with id := some (bits data 0 4) }
          { x.1 with pair := { x.1.pair with jobs := x.2 :: t } }
      | some id =>
        let x := s.internalWeld .boot j.own 0 true (some id)
        match x.1 with
        | none => x.2.jobAlone j
        | some n => { x.2 with pair := { x.2.pair with jobs := { j with seq := none, weld := some n } :: t } }

/-! ### Keys (R640) -/

/-- The volume moves by `d` in 1/256 dB, from -60 dB to 0 dB, by one weld. -/
def State.volumeStep (s : State) (d : Int) : State :=
  let v := max (-60 * 256) (min 0 (s.volume + d))
  let s := s.setF Regs.SYS_DROUTE 16 16 (unsign 16 v)
  s.routeWeld (gainEntries v) (peerWords (gainEntries v))

/-- The MUTE key: one weld of every started channel's MUTE and of HPO.MUTE. -/
def State.muteKey (s : State) : State :=
  let m := !s.b Regs.SYS_DROUTE 8
  let s := s.setB Regs.SYS_DROUTE 8 m
  let l := (s.mappedChans.map fun c => [(Regs.CH_MUTE c, b2w m)]) ++ [[(Regs.HPO_MUTE, b2w m)]]
  s.routeWeld l (peerWords l)

/-- What the follower's half needs for step 2: its entries are reached through its own ESEL, which is written with no weld selected. -/
def peerEntries (src : Nat) : List (Nat × Option Word) :=
  ((List.range 2).zip ((routeEntries src).take 2)).flatMap fun e =>
    [peerSelect false, (byteAddr Regs.PATCH_ESEL, some (Word.of e.1)), peerSelect true] ++
      e.2.map fun kv => (byteAddr (if kv.1 % 2 = 0 then Regs.PATCH_ENTRY_LO else Regs.PATCH_ENTRY_HI), some kv.2)

/-- The follower's capture command, sent after its selector has been cleared. -/
def State.peerSource (s : State) (src : Nat) (on : Bool) : List (Nat × Option Word) :=
  let c := s.sourceCmd src on
  [peerSelect false, (c.1 * 1024 + c.2.1, some (Word.of c.2.2))]

/-- A source change begins (R642, step 1): the weld that ramps every chain to silence is committed for boundary b. -/
def State.beginChange (s : State) (src : Nat) : State :=
  let s := { s.setB Regs.SYS_DROUTE 9 true with boot := { s.boot with change := some { target := src, base := s.nextTarget } } }
  s.routeWeld (gainEntries gMute) (peerWords (gainEntries gMute) ++ s.peerSource src true)

/-- A source request (R642): held while a change runs; a request for the source in force changes nothing. -/
def State.requestSource (s : State) (src : Nat) : State :=
  match s.boot.change with
  | some _ => { s with boot := { s.boot with held := some src } }
  | none => if s.f Regs.SYS_DROUTE 4 2 = src ∨ 3 ≤ src then s else s.beginChange src

/-- The source the SOURCE key asks for: the next after the last one asked for. -/
def State.nextSource (s : State) : Nat :=
  let cur := match s.boot.held, s.boot.change with
    | some h, _ => h
    | none, some c => c.target
    | none, none => s.f Regs.SYS_DROUTE 4 2
  if cur < 2 then cur + 1 else 0

/-- The PAIR key. (Log entry 54: DEDUCED.) -/
def State.pairKey (s : State) : State :=
  if s.f Regs.PAIR_STAT 30 2 = 1 ∧ [prSeek, prDetached, prSolo].contains s.pr ∧ s.attachOk then s.attach (s.pr == prSolo) else s

/-- A change of KEY.STATE to `key` while the default route is in force; a follower in a LIVE pair ignores it (R640, R641). -/
def State.keyAction (s : State) (key : Nat) : State :=
  if !s.routed || (s.pr == prLive && !s.actsLead) then { s with boot := { s.boot with keyAt := none } }
  else
    let s := { s with boot := { s.boot with keyAt := if key = 1 ∨ key = 2 then some (s.tb + 250 * tickMs) else none } }
    match key with
    | 1 => s.volumeStep 512
    | 2 => s.volumeStep (-512)
    | 3 => s.muteKey
    | 4 => { s with boot := { s.boot with srcKeyAt := some s.strokeNo } }.requestSource s.nextSource
    | 5 => s.pairKey
    | _ => s

/-- A held volume key repeats 250 ms after its last action. -/
def State.keyRepeat (s : State) : State :=
  match s.boot.keyAt with
  | none => s
  | some t =>
    let key := s.f (Regs.AUX_KEY 0) 0 3
    if s.routed ∧ (key = 1 ∨ key = 2) ∧ (s.pr = prLive → s.actsLead = true) then
      let s := s.reach t
      let s := { s with boot := { s.boot with keyAt := some (t + 250 * tickMs) } }
      s.volumeStep (if key = 1 then 512 else -512)
    else { s with boot := { s.boot with keyAt := none } }

/-! ### The change of source (R642) -/

/-- The change stands at its step `n`. (Log entry 78: DEDUCED.) -/
def State.changeAt (s : State) (c : SourceChange) (n : Nat) : State :=
  { s with boot := { s.boot with change := some { c with next := n } } }

/-- The weld of step 2: the patch entries of INC0 and INC1 name the new source's queues and the volume returns, at b + 4. -/
def State.changeWeld (s : State) (c : SourceChange) : State :=
  let l := gainEntries s.volume
  (s.routeWeld ((routeEntries c.target).take 2 ++ l)
    (peerWords l ++ peerEntries c.target ++ s.peerSource (s.f Regs.SYS_DROUTE 4 2) false)).changeAt c 3

/-- Step 3: the change is complete; the last request held is acted on. -/
def State.changeDone (s : State) : State :=
  let h := s.boot.held
  let s := { s.setB Regs.SYS_DROUTE 9 false with boot := { s.boot with change := none, held := none } }
  match h with
  | none => s
  | some src => s.requestSource src

/-- The next step of a source change: the weld of step 2, once b has passed, or the completion at b + 8. -/
def State.changeStep (s : State) : State :=
  match s.boot.change with
  | none => s
  | some c =>
    if c.next = 2 then (s.reach (s.boundaryTick (c.base + 3))).changeWeld c
    else if c.next = 4 then (s.reach (s.boundaryTick (c.base + 8))).changeDone
    else s

/-- At boundary `b` the captures follow the change: the new source starts at its step 1, the old one stops at its step 2.
(Log entry 78: DEDUCED.) -/
def State.changeBoundary (s : State) (b : Nat) : State :=
  match s.boot.change with
  | none => s
  | some c =>
    if c.next = 1 ∧ c.base ≤ b then (s.commandSource c.target true).changeAt c 2
    else if c.next = 3 ∧ c.base + 4 ≤ b then
      ((s.commandSource (s.f Regs.SYS_DROUTE 4 2) false).setF Regs.SYS_DROUTE 4 2 c.target).changeAt c 4
    else s

/-- The line jack's automatic action at a boundary of FORGING: after a change, and at the first boundary of a stay, while the default route
is in force (R477, R479). A SOURCE key of the stroke that has just ended prevails (R642). (Log entry 78: DEDUCED.) -/
def State.lineJack (s : State) : State :=
  if s.jack.linPend || s.jack.first then
    let s := { s with jack := { s.jack with linPend := false } }
    if s.routed && s.b Regs.JACK_CFG 1 && s.boot.srcKeyAt != some (s.strokeNo - 1) then s.requestSource (if s.b Regs.JACK_STAT 1 then 0 else s.power.strapDef % 4) else s
  else s

/-- Each device of a pair changes its own map by one weld when the pair reaches LIVE, and a survivor's returns to the single map (R638,
R639). -/
def State.mapWeld (s : State) (m : Master) : State := if s.routed then (s.internalWeld m s.mapEntries 0 true none).2 else s

end Sys2Proof.Machine
end

