-- ==== Sys2Proof/Machine/Twin.lean ====
section
/-!
DEFINITION. The pair protocol (chapter 20): received messages and superframes, attach, adoption, life, death, takeover and detach.
-/

namespace Sys2Proof.Machine

/-! ### Profiles (R558, R560, R565) -/

/-- PAIR.CFG.AUTO_PROF. -/
def State.autoProf (s : State) : Bool := s.b Regs.PAIR_CFG 8

/-- The SOLO register list is applied as one weld with target 0 and LATE_OK, or through CMDQ where no identifier is FREE; without a list the
default route's single map stands in (R560, R565, R639). (Log entry 77: DEDUCED.) -/
def State.soloProfile (s : State) : State :=
  if s.autoProf = false then s
  else if s.img.soloList = [] then s.mapWeld .pair
  else
    let x := s.openSelected .pair
    match x.1 with
    | some n => ((x.2.writeList .pair s.img.soloList).commitSerial n 0 true none).setB Regs.PAIR_STAT 24 false
    | none =>
      let t := x.2.setF (perKey .pair Regs.WELD_MODE) 0 2 1
      ((t.writeList .pair s.img.soloList).setF (perKey .pair Regs.WELD_MODE) 0 2 0).setB Regs.PAIR_STAT 24 true

/-- The pair profile at LIVE (R558): each device stages its PAIR list, and the lead commits both halves. PEER_ID 0 names the follower's own
profile half. -/
def State.pairProfile (s : State) : State :=
  if s.autoProf = false then s
  else
    let x := s.openSelected .pair
    match x.1 with
    | none => x.2
    | some n =>
      let t := x.2.writeList .pair s.img.pairList
      let t := { t with pair := { t.pair with prof := some n } }
      if t.actsLead then t.commitSerial n 0 true (some 0) else t

/-- The profile weld's end is acted on (R558, R564): applied, the orphan mute clears; cold-shut, PAIR_PROFILE is raised.
(Log entry 53: DEDUCED.) -/
def State.profileStep (s : State) : State :=
  match s.pair.prof with
  | none => s
  | some n =>
    match s.weldBySerial n with
    | none => s
    | some w =>
      if w.st = .coldShut then (({ s with pair := { s.pair with prof := none } } : State).raiseLocal 0x55 pgPair 0)
      else if w.st = .committed then { s with pair := { s.pair with prof := none, orphanMute := false } }
      else s

/-! ### Life and death -/

/-- A pair reaches LIVE (R555, R558, R564, R638). -/
def State.goLive (s : State) : State :=
  let s := s.setPr prLive
  let s := (s.clearFault 0x53 pgPair).clearFault 0x54 pgPair
  let s := s.setF Regs.PAIR_STAT 16 8 0
  let s := { s with pair := { s.pair with
    attachAt := none, orphan := false, adopt := false, adoptMute := false, okAt := s.strokeNo
    orphanMute := s.pair.orphanMute && s.autoProf } }
  (s.mapWeld .pair).pairProfile

/-- The attach moves on (R555): the follower's lock ends SYNC, and matching digests end MIRROR once no adoption runs. -/
def State.pairAdvance (s : State) : State :=
  if s.pr = prSync ∧ s.pair.secure then
    if s.actsLead then
      if s.pair.hbStatus.testBit 3 then
        { s.setPr prMirror with pair := { s.pair with adopting := s.pair.adopt, adoptPos := 0, adoptEnd := false } }
      else s
    else if s.b Regs.TB_SYNC 1 then s.setPr prMirror else s
  else if s.pr = prMirror ∧ s.pair.secure then
    let s := if s.pair.adopting && s.pair.adoptEnd && s.pair.hbState == prMirror && !s.pair.out.any (fun m => m.msg.cls == 3 && m.msg.ty == 6)
      then { s with pair := { s.pair with adopting := false, adopt := false } } else s
    if s.pair.adopt = false ∧ s.b Regs.PAIR_STAT 28 then s.goLive else s
  else s

/-- An outstanding request completes with NOLINK (R546). -/
def State.rcmdLost (s : State) : State :=
  match s.pair.rreq with
  | none => s
  | some _ => ({ s.setW Regs.PAIR_RRES 0x80000001 with pair := { s.pair with rreq := none } } : State).event pgPair 6

/-- The partner is declared dead (R185, R559, R560). -/
def State.declareDead (s : State) : State := ((s.shutPairHalves.rcmdLost).event pgPair 1).raiseDevice 0x53 pgPair false

/-- The survivor takes over (R560). -/
def State.takeover (s : State) : State :=
  if s.fault.takeover then
    let s := { s with fault := { s.fault with takeover := false } }
    let s := s.setF Regs.PAIR_EPOCH 0 16 ((s.epoch + 1) % 65536)
    let s := ((s.setPr prSolo).setB Regs.PAIR_STAT 29 true).incF Regs.PAIR_EVT 24 8
    s.soloProfile
  else s

/-- The superframe of the first unjudged stroke is missed at its due tick, in LIVE whether or not the link is UP (R539, R559, R565). -/
def State.superframeMiss (s : State) : State :=
  if s.awake ∧ (s.pr = prLive ∨ s.link = 2 ∧ s.en pgVhk) then
    let k := s.pair.judged
    let s := s.reach (s.sfDue k)
    let s := { s with pair := { s.pair with judged := k + 1 } }
    if s.pr = prLive then
      let n := s.f Regs.PAIR_STAT 16 8 + 1
      let s := s.setF Regs.PAIR_STAT 16 8 (satU 255 n)
      if s.pair.dead ≤ n then s.declareDead else s
    else s
  else s

/-! ### Detach (R565) -/

/-- At the detach's boundary both devices enter DETACHED. -/
def State.detachBoundary (s : State) (b : Nat) : State :=
  match s.pair.detach with
  | none => s
  | some t =>
    if s.pr = prDetaching ∧ t ≤ b then
      let s := (s.setPr prDetached).shutPairHalves.rcmdLost
      let s := { s with pair := { s.pair with detach := none, out := [] } }
      s.soloProfile
    else s

/-! ### Remote accesses (R546) -/

/-- A READ request: the word is read as the partner, and its RESULT is sent. -/
def State.regRead (s : State) (seq addr : Nat) : State :=
  let s := s.ctlRead .vhk (addr / 1024 % 256) (addr % 1024 / 4 * 4)
  s.queueMsg 2 3 [Word.of (seq % 65536 * 65536), s.fabric.readData.get 0 (masterNum .vhk)]

/-- A WRITE request. -/
def State.regWriteMsg (s : State) (seq addr : Nat) (v : Word) : State :=
  (s.ctlWrite .vhk (addr / 1024 % 256) (addr % 1024 / 4 * 4) v).queueMsg 2 3 [Word.of (seq % 65536 * 65536), 0]

/-- A RESULT: PAIR.RRES shows it, or the default route's job goes on (R546, R641). -/
def State.takeResult (s : State) (seq status : Nat) (data : Word) : State :=
  if s.pair.rreq = some seq then
    let s := if s.pair.rread then s.setW Regs.PAIR_RDATA data else s
    ({ s.setW Regs.PAIR_RRES (Word.of (0x80000000 + status % 256)) with pair := { s.pair with rreq := none } } : State).event pgPair 6
  else s.jobResult seq data

/-! ### Attach messages (R555, R556) -/

/-- The follower learns the link delay (R536, step 3). -/
def State.takeTrain (s : State) (d : Nat) : State := if s.actsLead then s else s.linkUp d

/-- A HELLO refused with a reason. -/
def State.refuse (s : State) (reason : Nat) : State := s.queueMsg 3 5 [Word.of reason]

/-- A HELLO (R555, step 2): the joiner checks its state, the maker's mark and the hearth rate, and answers PROOF or REFUSE. -/
def State.takeHello (s : State) (mark : List Word) (identity : Nat) (rate96 adopt : Bool) : State :=
  if s.pr ≠ prOrphan ∧ s.actsLead then s.refuse 5
  else if [prSeek, prDetached, prOrphan].contains s.pr = false then s.refuse 4
  else if mark ≠ [s.otp 0x048, s.otp 0x049] then s.refuse 1
  else if rate96 != s.b Regs.CLK_HEARTH 0 then s.refuse 3
  else
    let s := { s with pair := { s.pair with
      before := s.pr, wasLead := s.actsLead, epoch0 := s.epoch, attachAt := some s.tb, adopt := adopt, peerId := identity
      words := [], left := [], weld := none } }
    let s := (s.setPr prAuth).setB Regs.PAIR_STAT 29 false
    let r := s.secretWords 12
    r.2.queueMsg 3 3 (r.1.take 4 ++ idWords ++ r.1.drop 4)

/-- A PROOF (R555, step 3; R556): `good` is the verdict on its HMAC. -/
def State.takeProof (s : State) (identity : Nat) (good : Bool) : State :=
  if s.actsLead = false then s
  else if s.pr != prAuth || (match s.pair.peer with | some p => p != identity | none => false) then s.refuse 4
  else if good = false then (s.refuse 2).attachFail 2
  else
    let r := s.secretWords 8
    let s := r.2.queueMsg 3 4 r.1
    { s.setPr prSync with pair := { s.pair with peer := some identity, peerId := identity, secure := true } }

/-- An ACCEPT under epoch `epoch` (R555, step 4). -/
def State.takeAccept (s : State) (epoch : Nat) (good : Bool) : State :=
  if s.pr ≠ prAuth ∨ s.actsLead then s
  else if good = false then s.attachFail 2
  else
    let s := (s.setF Regs.PAIR_EPOCH 0 16 epoch).setPr prSync
    let s := { s with pair := { s.pair with secure := true } }
    let s := (s.setB Regs.TB_SYNC 0 false).setB Regs.TB_SYNC 1 false
    { s with power := { s.power with wasLocked := false, syncRun := 0 } }.requestState stWarm

/-- A REFUSE (R556). -/
def State.takeRefuse (s : State) (reason : Nat) : State :=
  if [prAuth, prSync, prMirror].contains s.pr then s.attachFail reason else s

/-! ### Adoption (R557) -/

/-- The received words of STG registers, or of the registers that are RW and not STG, in word order. -/
def State.adoptedWords (s : State) (stg : Bool) : List (Nat × KeyVal) :=
  s.pair.words.filterMap fun x =>
    match s.imageKey x.1 with
    | none => none
    | some k => match keyRow k with
      | none => none
      | some r => if r.isStg = stg ∧ (stg = true ∨ r.rw ≠ 0) then some (x.1, (k, x.2)) else none

/-- ADOPT_END (R557, steps 3 to 5): the joiner checks the digest of the words received, and the mute waits for the boundary. -/
def State.takeAdoptEnd (s : State) (d : Nat) : State :=
  if s.pr = prMirror ∧ s.actsLead = false ∧ s.pair.adopt then
    if digest (fun i => s.pair.words.get 0 i) ≠ d then s.attachFail 8
    else { s with pair := { s.pair with muteNext := true, left := s.adoptedWords true, adoptCoils := s.pair.coils } }
  else s

/-- The received coil and magnet states enter the Tongs memory (R557, step 8). -/
def State.loadCoils (s : State) : State :=
  allChans.foldl (fun (s : State) (c : Nat) =>
    let r := s.pair.adoptCoils.get {} c
    s.setCoil c { s.coil c with tc := r.tc * 16, tm := r.tm * 16 }) s

/-- The last adoption weld has applied: the coil states are loaded and the mute clears (R557, steps 8 and 9). -/
def State.adoptDone (s : State) : State :=
  let s := s.loadCoils
  { s with pair := { s.pair with weld := none, adopt := false, adoptMute := false } }

/-- The adoption at a boundary, after the welds: the mute begins with the direct writes of step 6, and it ends with the last weld (steps 5
and 6). -/
def State.adoptBoundary (s : State) : State :=
  let s := if s.pair.muteNext then
      let s := { s with pair := { s.pair with muteNext := false, adoptMute := true } }
      let s := (s.adoptedWords false).foldl (fun (s : State) (x : Nat × KeyVal) =>
        s.ctlWrite .pair (keyPlace x.2.1).1 (keyPlace x.2.1).2 x.2.2) s
      if s.pair.left = [] then s.adoptDone else s
    else s
  match s.pair.weld with
  | none => s
  | some n => match s.weldBySerial n with
    | none => { s with pair := { s.pair with weld := none } }
    | some w =>
      if w.st = .coldShut then ({ s with pair := { s.pair with weld := none, left := [] } } : State).attachFail 8
      else if w.st = .pending ∨ w.st = .open_ then s
      else if s.pair.left = [] then s.adoptDone
      else { s with pair := { s.pair with weld := none } }

/-- The two words of a patch entry stand in one staging entry. -/
def pairEntries : List (Nat × KeyVal) → List (List KeyVal)
  | [] => []
  | [x] => [[x.2]]
  | x :: y :: t =>
    if isEntryKey x.2.1 ∧ x.2.1 % 2 = 0 ∧ y.2.1 = x.2.1 + 1 then [x.2, y.2] :: pairEntries t else [x.2] :: pairEntries (y :: t)

/-- The joiner opens and commits its next adoption weld (R557, step 7): as many words as there are free staging entries.
(Log entry 80: DEDUCED.) -/
def State.adoptionWeld (s : State) : State :=
  if s.pair.adoptMute ∧ s.pair.weld = none ∧ s.pair.left ≠ [] then
    let x := s.openSelected .pair
    match x.1 with
    | none => x.2
    | some n =>
      let room := 2048 - x.2.staged
      let l := s.pair.left.take room
      let t := (x.2.stageAll n (pairEntries l)).commitSerial n 0 true none
      { t with pair := { t.pair with weld := some n, left := s.pair.left.drop room } }
  else s

/-! ### Messages and superframes -/

/-- DETACH (R565, step 2). -/
def State.takeDetach (s : State) (seq t : Nat) : State :=
  if s.pr = prLive then
    let s := s.queueMsg 3 8 [Word.of (seq % 65536 * 65536)]
    { s.setPr prDetaching with pair := { s.pair with detach := some t } }
  else s

/-- A PREPARE for follower half `id`; 0 names the follower's profile half (R181, R558). -/
def State.takePrepare (s : State) (seq target id : Nat) : State :=
  let half := if id = 0 then ((s.pair.prof.bind s.weldBySerial).map (·.id)).getD 0 else id
  s.prepare seq target half

/-- What an accepted message does; `epoch` is the epoch of the superframe that carried it (R544). -/
def State.takeMessage (s : State) (epoch : Nat) (m : Message) : State :=
  let w := fun (i : Nat) => m.payload.getD i 0
  let w64 := fun (i : Nat) => (w i).toNat + 2 ^ 32 * (w (i + 1)).toNat
  match m.cls, m.ty with
  | 1, 1 => s.takePrepare m.seq (w 0).toNat (bits (w 1) 4 4)
  | 1, 2 => s.takeVote (bits (w 0) 16 16) (bits (w 0) 8 8 == 1)
  | 1, 3 => s.takeAbort (bits (w 0) 16 16)
  | 2, 1 => s.regRead m.seq (w 0).toNat
  | 2, 2 => s.regWriteMsg m.seq (w 0).toNat (w 1)
  | 2, 3 => s.takeResult (bits (w 0) 16 16) (bits (w 0) 0 8) (w 1)
  | 3, 1 => s.takeTrain (w 0).toNat
  | 3, 2 => s.takeHello [w 4, w 5] (w64 6) (bit (w 8) 0) (bit (w 8) 1)
  | 3, 3 => s.takeProof (w64 4) m.good
  | 3, 4 => s.takeAccept epoch m.good
  | 3, 5 => s.takeRefuse (w 0).toNat
  | 3, 6 => s.takeAdoptEnd (w64 0)
  | 3, 7 => s.takeDetach m.seq (w 0).toNat
  | _, _ => s

/-- One message of a superframe by its SEQ (R545): accepted when it is the next expected, a duplicate when it lies below, else discarded. -/
def State.receiveMsg (s : State) (epoch : Nat) (m : Message) : State :=
  let i := clsIdx m.cls
  let want := s.pair.rxSeq.getD i 0
  if m.seq = want then
    ({ s with pair := { s.pair with rxSeq := setAt s.pair.rxSeq i ((want + 1) % 65536) } } : State).takeMessage epoch m
  else if (want + 65536 - m.seq % 65536) % 65536 ≤ 32768 then s.incF Regs.VHK_EVT 0 16
  else s

/-- The control messages of a superframe that this device acts on (R540, R564, R565). -/
def State.messagesFor (s : State) (f : Superframe) : List Message :=
  if s.pr = prDetached ∨ s.pr = prOrphan then f.msgs.filter fun m => m.cls == 3 && m.ty == 2
  else if s.pair.secure then f.msgs
  else f.msgs.filter fun m => m.cls == 3

/-- A superframe of another epoch is taken: the ends of an attach do not share one yet. -/
def State.epochFree (s : State) : Bool := [prSeek, prAuth, prDetached, prOrphan].contains s.pr

/-- The superframe is passed over: a device in DETACHED ignores all but those that carry HELLO (R565). -/
def State.ignores (s : State) (f : Superframe) : Bool := s.pr == prDetached && !f.msgs.any fun m => m.cls == 3 && m.ty == 2

/-- A valid superframe's contents are taken (R539 to R552). One that comes after its stroke was missed brings no audio (R539, R543). -/
def State.takeSuperframe (s : State) (f : Superframe) : State :=
  let k := f.stamp / s.strokeLen
  let s := s.setF Regs.PAIR_STAT 16 8 0
  let s := { s with pair := { s.pair with
    judged := max s.pair.judged (k + 1), got := if k = s.strokeNo ∧ s.pair.judged ≤ k then some f else s.pair.got, sfack := f.sfseq % 65536, oldSeen := false, seenAt := s.tb } }
  let s := s.acked 3 f.ackPair
  let s := if s.pair.secure && s.pr != prSolo && s.pr != prDetached then
      let s := ((s.acked 1 f.ackWeld).acked 2 f.ackReg).takeHeartbeat f
      let s := (s.takeCoils f).compareOutcomes f.outcomes
      f.records.foldl (fun (s : State) (r : MirrorRecord) =>
        if r.kind = 3 then
          (r.words.foldl (fun (a : State × Nat) v =>
            ({ a.1 with pair := { a.1.pair with words := a.1.pair.words.put (a.2 % imageSize) v } }, a.2 + 1)) (s, r.first)).1
        else if r.kind = 0 then s
        else s.takeRecord r) s
    else s
  (s.messagesFor f).foldl (fun (s : State) (m : Message) => s.receiveMsg f.epoch m) s

/-- The superframe's CRC, and its tag once the link is secure, are right (R539). -/
def State.superframeIntact (s : State) (f : Superframe) : Bool := f.crcOk && (!s.pair.secure || f.tagOk)

/-- The superframe is valid: it reaches the unit intact, with the own epoch where epochs count, and is not another SOLO device's (R539,
R562, R563). -/
def State.superframeValid (s : State) (f : Superframe) : Bool :=
  s.link == 2 && s.en pgVhk && s.awake && s.superframeIntact f && !s.ignores f && (s.epochFree || (f.epoch == s.epoch && !(s.pr == prSolo && f.solo)))

/-- A superframe arrives (R539, R562, R563). (Log entry 9: DESIGN CHOICE.) -/
def State.superframeReceive (s : State) (f : Superframe) : State :=
  if s.link = 2 ∧ s.en pgVhk ∧ s.awake then
    if !s.superframeIntact f then (s.incF Regs.VHK_EVT 16 16).event pgVhk 1
    else if s.ignores f then s
    else if s.epochFree then s.takeSuperframe f
    else if epochHigher s.epoch f.epoch then
      let s := (s.incF Regs.VHK_EVT3 0 8).event pgVhk 3
      if s.pair.oldSeen then s else ({ s with pair := { s.pair with oldSeen := true } } : State).event pgPair 3
    else if epochHigher f.epoch s.epoch then
      if [prLive, prSolo, prDetaching].contains s.pr then s.enterOrphan else s
    else if f.epoch ≠ s.epoch then s
    else if s.pr = prSolo ∧ f.solo then (if Config.identity < s.pair.peerId then s.enterOrphan else s)
    else (s.takeSuperframe f).pairAdvance
  else s

end Sys2Proof.Machine
end

