-- ==== Sys2Proof/Machine/Sched.lean ====
section
/-!
DEFINITION. The scheduler's firing and the actions' effects (R115 to R126, R602, R607, R649).
-/

namespace Sys2Proof.Machine

/-- A quench in force keeps the unit from starting (R587): a stage, or the headphone output. -/
def State.quenchKeeps (s : State) (kind : Nat) (page : Nat) : Bool :=
  s.quenchActive && ((kind == 3) || (kind == 1 && page == pgHpo))

/-- A start that a running loop on the unit's page refuses (R602). -/
def State.loopKeeps (s : State) (kind page : Nat) : Bool := (kind == 1 || kind == 3) && s.loopOn page

/-- The named unit cannot take the action: disabled, in reset, in a loop or quenched (R126). -/
def State.unitBusy (s : State) (kind : Nat) (u : Nat × Nat × Nat) : Bool :=
  s.pageOff u.2.1 || s.loopKeeps kind u.2.1 || s.quenchKeeps kind u.2.1

/-- One port side starts, as its own start command would (R649). (Log entry 33: DEDUCED.) -/
def State.portStart (s : State) (i : Nat) : State :=
  if i < 6 then (if s.sapState i false = 0 ∧ s.sapStartOk i false then s.sapStart i false else s.range (pgSap i) 0x05C)
  else if i < 14 then (if s.sapState (i - 8) true = 0 ∧ s.sapStartOk (i - 8) true then s.sapStart (i - 8) true else s.range (pgSap (i - 8)) 0x05C)
  else if i = 17 then (if s.spdifStartOk then s.spdifStart else s.range pgSpdif 0x040)
  else if i = 18 then (if s.linStartOk then s.linStart else s.range pgLin 0x048)
  else if i = 19 then (if s.hpoStartOk then s.hpoStart else s.range pgHpo 0x044)
  else s

/-- One port side stops at the end of its frame. -/
def State.portStop (s : State) (i : Nat) : State :=
  if i < 6 then s.sapStop i false
  else if i < 14 then s.sapStop (i - 8) true
  else if i = 17 then s.spdifStop
  else if i = 18 then (if s.linRunning then s.linStop else s)
  else if i = 19 then (if s.hpoStopOk then s.hpoStop else s)
  else s

/-- What the action does in one of its units, given by its bit of the payload. (Log entries 17: DEDUCED, 33: DEDUCED.) -/
def State.unitAct (s : State) (kind : Nat) (payload : Word) (i : Nat) : State :=
  match kind with
  | 1 => s.portStart i
  | 2 => s.portStop i
  | 3 => if s.chanCmdOk i 1 then s.writeChCmd i 1 else s.range (chPage i) 0x044
  | 4 => s.setB (Regs.CH_MUTE i) 0 true
  | 5 => s.setB (Regs.CH_MUTE i) 0 false
  | 7 => s.auxTrigger i
  | 8 => s.gpioAct (bits payload 0 16) true
  | 9 => s.gpioAct (bits payload 0 16) false
  | _ => s

/-- One unit of an action: it acts, or it is passed over; a loop's refusal is recorded in the unit's page (R602). -/
def State.unitTry (s : State) (kind : Nat) (payload : Word) (u : Nat × Nat × Nat) : State :=
  if s.unitBusy kind u then (if s.loopKeeps kind u.2.1 then s.range u.2.1 u.2.2 else s) else s.unitAct kind payload u.1

/-- The pages and words on which an action needs rights at its firing: its units', WELD.COMMIT's, and TEST.LCTRL's (R118). -/
def actionWords (kind : Nat) (payload : Word) : List (Nat × Nat) :=
  if kind = 6 then [(pgWeld, 0x054)] else if kind = 11 then [(0x0E, 0x040)] else (actionUnits kind payload).map (·.2)

/-- Domain `d` may make the action's access to page `p`: as a write of the word by that domain (R56, R161). -/
def State.actRights (s : State) (d : Domain) (kind p : Nat) : Bool := if kind = 6 then decide (2 ≤ s.rights d p) else s.rights d p == 3

/-- The arming domain may no longer act on a page that the action names, or a lock covers the word (R118). -/
def State.actForbidden (s : State) (d : Domain) (kind : Nat) (payload : Word) : Bool :=
  (actionWords kind payload).any fun x => !s.actRights d kind x.1 || s.locked x.1 x.2

/-- WELD_COMMIT: as a write of WELD.COMMIT with target 0 by the arming master; a refused commit misses with REJECTED. -/
def State.actCommit (s : State) (m : Master) (idx : Nat) (id : Nat) : State :=
  match s.weldOf id with
  | none => (s.range pgWeld 0x054).schedMiss idx 6
  | some w =>
    if w.st = .open_ ∧ w.opener = m then
      let s := s.commitWeld w 0 false none
      if (s.weldBySerial w.serial).any fun x => x.st == .pending then s else s.schedMiss idx 6
    else (s.range pgWeld 0x054).schedMiss idx 6

/-- The effect of a fired action of entry `idx`, armed by `m` in domain `d` (R116). (Log entry 33: DEDUCED.) -/
def State.act (s : State) (m : Master) (d : Domain) (idx kind : Nat) (payload : Word) : State :=
  if s.actForbidden d kind payload then s.schedMiss idx 1
  else match kind with
    | 6 => s.actCommit m idx (bits payload 0 4)
    | 10 => (s.setF Regs.SCHED_EVT 16 16 (bits payload 0 16)).event pgSched 0
    | 11 => s.ctlWrite .testAction 0x0E 0x040 payload
    | _ =>
      let busy := (actionUnits kind payload).any (s.unitBusy kind)
      let s := (actionUnits kind payload).foldl (fun (s : State) (u : Nat × Nat × Nat) => s.unitTry kind payload u) s
      if busy then s.schedMiss idx 5 else s

/-- The action is at tick `t`: what it does at the next hearth sample counts from there (R648). -/
def State.atTick (s : State) (t : Nat) (f : State → State) : State :=
  let r := f { s with tb := t }
  { r with tb := max s.tb r.tb }

/-- An entry fires: it acts, and waits for its target's acceptance; one that no target may act on returns to free (R115, R118). -/
def State.fireEntry (s : State) (e : SchedEntry) : State :=
  if s.actForbidden e.domain e.kind e.payload then (s.freeEntry e.idx).act e.master e.domain e.idx e.kind e.payload
  else
    let s := { s with sched := s.sched.map fun (x : SchedEntry) => if x.idx = e.idx then { x with fired := true } else x }
    s.act e.master e.domain e.idx e.kind e.payload

/-- A firing more than 1 tick after its due tick is counted (R122). -/
def State.lateFire (s : State) (late : Bool) : State := if late then (s.incF Regs.SCHED_EVT 0 16).event pgSched 2 else s

/-- The scheduler dispatches one more action, sixteen in a tick at most; a further one waits for the next tick (R122). -/
def State.dispatch (s : State) : State :=
  let s := if s.schedTick = s.tb ∧ 16 ≤ s.schedCnt then s.reach (s.tb + 1) else s
  { s with schedTick := s.tb, schedCnt := if s.schedTick = s.tb then s.schedCnt + 1 else 1 }

/-- The tick-timed entry that fires next: the earliest due, the first armed among those (R119, R122). -/
def nextTimed : List SchedEntry → Option SchedEntry
  | [] => none
  | e :: t =>
    match nextTimed t with
    | none => if e.boundary || e.fired then none else some e
    | some x => if e.boundary || e.fired then some x else if e.time < x.time ∨ (e.time = x.time ∧ e.order < x.order) then some e else some x

/-- The next tick-timed action fires at its time, or at the first tick after it that has room (R119, R122). -/
def State.schedFire (s : State) : State :=
  if s.awake then
    match nextTimed s.sched with
    | none => s
    | some e =>
      let s := (s.reach e.time).dispatch
      (s.lateFire (decide (e.time + 1 < s.tb) && !e.past)).fireEntry e
  else s

/-- The target accepts the oldest fired action (R115). -/
def State.schedAccept (s : State) : State :=
  match s.sched.filter (·.fired) with
  | [] => s
  | e :: t => s.freeEntry ((t.foldl (fun (a : SchedEntry) (x : SchedEntry) => if x.order < a.order then x else a) e).idx)

/-- Step 3 of R28 at stroke `b`: its actions fire in the order in which they were armed, sixteen in a tick, and each acts on the first
sample of the stroke (R120, R122, R648). (Log entry 33: DEDUCED.) -/
def State.schedBoundary (s : State) (b : Nat) : State :=
  let t := s.boundaryTick b
  let due := s.sched.filter fun e => e.boundary && !e.fired && decide (e.time ≤ b)
  let fire := fun (x : State × Nat) (n : Nat) =>
    match due.find? fun e => e.order == n with
    | none => x
    | some e => ((x.1.lateFire (decide (1 < x.2 / 16) && !e.past)).atTick t fun s => s.fireEntry e, x.2 + 1)
  ((rising s.schedOrder (due.map (·.order))).foldl fire (s, 0)).1

end Sys2Proof.Machine
end

