-- ==== Sys2Proof/Machine/BoundaryWork.lean ====
section
/-!
DEFINITION. The stroke boundary (R28): the deadline's judgement, the stroke weld's publication or concealment, the Tongs' weld, and the
order in which every unit's boundary work is done.
-/

namespace Sys2Proof.Machine

/-- The anvils that hold any state beside their reset state. -/
def allAnvils : List Nat := List.range 64

/-! ### The deadline (R174, R175) -/

/-- The stroke that is being forged: the one that began at the last boundary handled. -/
def State.forgedStroke (s : State) : Nat := s.boundary / s.strokeLen

/-- The finishing chains that lack their input samples: enabled, and without a stroke computed. -/
def State.shortFins (s : State) : List Nat := (List.range 17).filter fun n => s.en (pgFin n) && decide ((s.fin n).next ≤ s.forgedStroke)

/-- The judgement at the deadline: a chain whose input is complete has computed its stroke (R656); every stroke-mode anvil that has not
signalled DONE is late. (Log entry 49: DEDUCED.) -/
def State.judge (s : State) : State :=
  if s.weld.judged || !s.forging then s
  else
    let s := if s.strokeNo = s.forgedStroke then (List.range 17).foldl (fun (s : State) (n : Nat) => s.finStroke n) s else s
    let late := allAnvils.filter fun n => s.anvLateAt n
    let s := { s with weld := { s.weld with judged := true, late := late, short := s.shortFins } }
    late.foldl (fun (s : State) (n : Nat) => s.anvJudge n) s

/-- The deadline of the running stroke passes. (Log entry 4: DESIGN CHOICE.) -/
def State.deadline (s : State) : State := if s.weld.judged || !s.forging then s else (s.reach (s.boundary + s.weld.deadline)).judge

/-! ### The stroke weld (R175 to R178) -/

/-- Sample `i` of a FADE concealment whose channel published `x` last. (Log entry 41: DEDUCED.) -/
def concealSample (x : Word) (i : Nat) : Word := Word.of (unsign 32 (roundConv (x.toInt * ((31 - i : Nat) : Int)) 5))

/-- Sample `i` of the first stroke published after concealed ones. -/
def resumeSample (x : Word) (i : Nat) : Word := Word.of (unsign 32 (roundConv (x.toInt * ((i + 1 : Nat) : Int)) 5))

/-- The concealment of a channel that published `l` last. (Log entry 52: DEDUCED.) -/
def concealment (zero : Bool) (l : List Word) : List Word :=
  (List.range 32).map fun i => if zero then 0 else concealSample (l.getD 31 0) i

/-- The fade-in of R177. -/
def fadedIn (l : List Word) : List Word := (List.range 32).map fun i => resumeSample (l.getD i 0) i

/-- The billets staged on queue `q`, in the order of their offsets. -/
def State.stagedOf (s : State) (q : Nat) : List Nat :=
  let l := (s.stock.own.filter fun (x : Nat × Own) => x.2.queue == q && x.2.loc == .staged).map (·.1)
  (l.filter fun b => (s.billet b).tag.offset = 0) ++ l.filter fun b => (s.billet b).tag.offset ≠ 0

/-- Output `key` plays the stroke `l`. -/
def State.setPub (s : State) (key : Nat) (l : List Word) : State := { s with pub := s.pub.set [] key l }

/-- The billets staged for the queue that chain output `u` feeds are put on it, with the samples of `l`. (Log entry 51: DEDUCED.) -/
def State.putStaged (s : State) (u : Nat) (l : List Word) : State :=
  match s.peekRoute u false with
  | none => s
  | some q =>
    (s.stagedOf q).foldl (fun (s : State) (b : Nat) =>
      let t := (s.billet b).tag
      let d := if t.packed then packSamples true l else if t.offset = 0 then l.take 16 else l.drop 16
      s.put q b (s.queue q).gen t d) s

/-- Concealment billets, drawn from FREE, on the queue that chain output `u` feeds (R176). (Log entry 52: DEDUCED.) -/
def State.putConcealed (s : State) (u : Nat) (l : List Word) : State :=
  match s.peekRoute u false with
  | none => s
  | some q =>
    if s.weldFed q then
      let k := s.boundaryTick (s.strokeNo - 1)
      if (s.queue q).packed then
        (s.produce q { stamp := k % 2 ^ 32, count := 32, offset := 0, flags := flConcealed } (packSamples true l)).2
      else
        let s := (s.produce q { stamp := k % 2 ^ 32, count := 16, offset := 0, flags := flConcealed } (l.take 16)).2
        (s.produce q { stamp := (k + 16 * s.sampleTicks) % 2 ^ 32, count := 16, offset := 16, flags := flConcealed } (l.drop 16)).2
    else s

/-- Every output that chain `n` drives, with the stroke it plays next given by `f`. -/
def State.eachOutput (s : State) (f : State → Nat → Nat → State) : State :=
  (List.range 17).foldl (fun (s : State) (n : Nat) =>
    (List.range (finChans n)).foldl (fun (s : State) (c : Nat) => f s n c) s) s

/-- The billets of the stroke weld at the places that `p` names return to FREE. -/
def State.freeWeld (s : State) (p : Own → Bool) : State :=
  ((s.stock.own.filter fun (x : Nat × Own) => p x.2).map (·.1)).foldl (fun (s : State) (b : Nat) => s.release b) s

/-- The billets staged for output `o` are played from now on, and stay in the weld's term while they are (R144, R145).
(Log entry 51: DEDUCED.) -/
def State.playStaged (s : State) (o : Nat) : State :=
  { s with stock := { s.stock with own := s.stock.own.map fun x =>
      if x.2.loc = .staged ∧ (x.2.queue = noQueue + 2 * o ∨ x.2.queue = noQueue + 2 * o + 1) then (x.1, { x.2 with loc := .played }) else x } }

/-- The stroke weld publishes: every enabled chain's stroke, faded in after concealed ones; a disabled chain's output plays zero
(R177, R279). (Log entry 51: DEDUCED.) -/
def State.publish (s : State) : State :=
  let fade := s.weld.concealed
  let s := s.freeWeld fun o => o.loc == .played
  let s := s.eachOutput fun s n c =>
    if s.en (pgFin n) then
      let l := (s.outs.find (n + c)).getD []
      let l := if fade then fadedIn l else l
      ((s.setPub (n + c) l).playStaged (n + c)).putStaged (unitId (pgFin n) c) l
    else s.setPub (n + c) []
  let s := s.freeWeld fun o => o.loc == .staged && decide (noQueue ≤ o.queue)
  { s with outs := [], weld := { s.weld with concealed := false } }

/-- The stroke weld cold-shuts (R176): the staged billets go back, every output in the weld publishes the same concealment, and the
cold shut is recorded. -/
def State.conceal (s : State) : State :=
  let zero := s.b Regs.WELD_STROKE 8 && !s.stock.breached
  let s := s.freeWeld fun o => o.loc == .staged || o.loc == .played
  let s := s.eachOutput fun s n c =>
    if s.en (pgFin n) then
      let l := concealment zero ((s.pub.find (n + c)).getD [])
      ((s.setPub (n + c) l).drawOutput (n + c) .played s.boundary flConcealed l).putConcealed (unitId (pgFin n) c) l
    else s.setPub (n + c) []
  let late := s.weld.late
  let short := s.weld.short
  let cause := b2n (!late.isEmpty) + 2 * b2n (!short.isEmpty)
  let s := { s with outs := [], weld := { s.weld with concealed := true } }
  let s := s.incF Regs.WELD_SHUTS 16 16
  let s := s.setW Regs.WELD_SHUT_LAST (Word.of (cause * 0x40000000 + short.headD 0 * 0x1000000 + (s.strokeNo - 1) % 2 ^ 24))
  let m := maskOf late
  ((s.setW Regs.WELD_LATE_LO (Word.of m)).setW Regs.WELD_LATE_HI (Word.of (m / 2 ^ 32))).event pgWeld 1

/-- The stroke weld of the stroke that has just been forged cold-shuts. (Log entry 52: DEDUCED.) -/
def State.strokeShut (s : State) : Bool := !s.weld.late.isEmpty || !s.weld.short.isEmpty || s.stock.breached

/-- Step 1 of R28: the stroke weld; the late anvils stop. -/
def State.strokeWeld (s : State) : State :=
  let s := if s.strokeShut then s.conceal else s.publish
  allAnvils.foldl (fun (s : State) (n : Nat) => s.anvBoundary n) s

/-! ### The Tongs' weld and the clamps (R101, R163, R278) -/

/-- The Tongs' weld applies, is superseded where the stroke weld cold-shut, or cold-shuts in BRACE.
(Log entries 65: DESIGN CHOICE, 88: DESIGN CHOICE.) -/
def State.tongsWeld (s : State) (shut : Bool) : State :=
  match s.tongsBoundary with
  | (none, s) => s
  | (some l, s) =>
    if shut then s
    else if s.braced then (s.incF Regs.WELD_SHUTS 0 16).event pgWeld 0
    else l.foldl (fun (s : State) (x : Nat × Int) => s.setAllow x.1 x.2) s

/-- The clamps take their new levels at a boundary. -/
def State.clampsBoundary (s : State) : State := (List.range 17).foldl (fun (s : State) (n : Nat) => s.clampLevel n) s

/-- The finishing chains' gains at a boundary (R259 to R261). -/
def State.gainsBoundary (s : State) : State := (List.range 17).foldl (fun (s : State) (n : Nat) => s.finGainBoundary n) s

/-! ### Benches (R303, R310) -/

/-- A bench's rate takes effect: a lowered one at once, a raised one when VARR has settled; its busy counts of the last stroke are free
values where it has an anvil with a program. (Log entry 26: DEDUCED.) -/
def State.benchBoundary (s : State) (n : Nat) : State :=
  let k := Regs.BENCH_CLK n
  let ready := match s.varrAt.find n with | none => true | some t => decide (t ≤ s.tb)
  let s := if ready then { s.setF k 8 2 (s.f k 0 2) with varrAt := s.varrAt.del n } else s
  if (List.range 8).any fun i => s.anvLoaded (8 * n + i) then
    let s := (s.setF (Regs.BENCH_CP_BUSY n) 0 18 (Config.freeWord s.free).toNat).tickFree
    (s.setF (Regs.BENCH_PORT n) 0 18 (Config.freeWord s.free).toNat).tickFree
  else s

/-! ### The boundary -/

/-- Groups 1 to 3 of R169 and what follows them: the welds, CMDQ, an adoption's steps, the patch table's copies and the digest. -/
def State.step2 (s : State) (k : Nat) (shut : Bool) : State :=
  let s := { s with power := { s.power with braceAtBoundary := s.braced } }
  let s := ((s.patchStroke.tongsWeld shut).weldsBoundary k shut).adoptBoundary
  s.patchInvalidate.patchBoundary.digestBoundary

/-- The stroke that integrated stage `c` plays from this boundary on, with the mute and unmute ramps (R385); none while it does not play. -/
def State.played (s : State) (c : Nat) : List Word :=
  let x := s.chan c
  let l := (s.pub.find c).getD []
  match x.ramp with
  | some m => (List.range 32).map fun i => Word.of (unsign 32 (roundConv ((l.getD i 0).toInt * (rampFactor m i : Nat)) 5))
  | none => if x.isOpen then l else []

/-- The sine at a phase of `p` / 98,304,000 cycles, in Q1.31: a free value, odd about the half cycle. (Log entry 90: DESIGN CHOICE.) -/
def sineAt (p : Nat) : Int :=
  let p := p % 98304000
  let v := fun (q : Nat) => max (-(2 ^ 31)) (min (2 ^ 31) (Config.sine q))
  if p < 49152000 then v p else -(v (p - 49152000))

/-- `mv` millivolts of channel `c` in Q1.31 of its VFS. -/
def State.ofVfs (s : State) (c mv : Nat) : Nat := mv * 2 ^ 31 / (250 * s.f (Regs.CH_CFG c) 24 8)

/-- The pilot that channel `c` adds at tick `t` while it is in RUN: a sine at PILOT_F with a peak of PILOT_MV (R414). -/
def State.pilot (s : State) (c t : Nat) : Int :=
  if s.chState c = chRun then
    sineAt (5 * (s.f Regs.TONGS_MEAS 0 2 + 1) * t) * (s.ofVfs c (s.f (tongsKey c 0x060) 24 8) : Nat) / 2 ^ 31
  else 0

/-- A value that rises for `up` ticks to `a`, and falls over the last `down` of `len` ticks, at tick `x` of the span. -/
def spanValue (a : Int) (up down len x : Nat) : Int := if x < up then a * x / up else if len < x + down then a * (len - x : Nat) / down else a

/-- The test signal of channel `c`'s ring test at tick `t` (R430 to R433): the DC ramp and hold, or the sine of the frequency whose turn
it is. (Log entry 90: DESIGN CHOICE.) -/
def State.testSignal (s : State) (c t : Nat) : Int :=
  match s.test c with
  | none => 0
  | some r => match r.began with
    | none => 0
    | some b =>
      let u := 65536
      let dc := if s.f Regs.DIAG_CFG 0 2 % 2 = 1 then 46 * u else 0
      let x := t - b
      if t < b ∨ r.stop ≤ t then 0
      else if x < dc then spanValue (s.ofVfs c (s.f Regs.DIAG_LEVEL 16 11)) (8 * u) (8 * u) dc x
      else
        let y := x - dc
        let f := [1000, 4000, 16000, 20000].getD (y / (58 * u)) 0
        spanValue (sineAt (f * t) * (levelAmp (s.level16 Regs.DIAG_LEVEL 0) : Nat) / 2 ^ 31) (2 * u) (2 * u) (58 * u) (y % (58 * u))

/-- The modulator input of channel `c` over the stroke it plays: the published samples with their ramps, the pilot and the test signal
added (R414, R430), and, in protected fallback, the clamp of its stage die (R20, R421, R426). (Log entry 90: DESIGN CHOICE.) -/
def State.modInput (s : State) (c : Nat) : List Int :=
  let l := s.played c
  (List.range 32).map fun i =>
    let t := s.boundary + i * s.sampleTicks
    let x : Int := satS 32 ((l.getD i 0).toInt + s.pilot c t + s.testSignal c t)
    if s.f Regs.TONGS_STAT 0 4 = 2 then (clamp (s.safeAmp c) x).1 else x

/-- The modulator of stage `c`: the samples that PVDD limits count in CLIP (R376), and low-idle modulation is in use while every published
sample of the stroke lies below -20 dBFS (R378). -/
def State.modulator (s : State) (c : Nat) : State :=
  let st := s.chState c
  let runs := st == chRun || st == chStopping
  let low := runs && s.b (Regs.CH_CFG c) 4 && ((s.pub.find c).getD []).all fun w => decide (w.toInt.natAbs * 10 < 2 ^ 31)
  let s := s.setB (Regs.CH_STAT c) 8 low
  let vfs := 250 * s.f (Regs.CH_CFG c) 24 8
  let pvdd := s.pvddInUse
  let n := if runs && decide (0 < pvdd) then ((s.modInput c).filter fun x => decide (96 * pvdd * 2 ^ 31 < 100 * vfs * x.natAbs)).length else 0
  if n = 0 then s else (s.addF (Regs.CH_EVT c) 0 16 n).event (chPage c) 4

/-- What the units do at the boundary of tick `t` with the values that steps 2 and 3 have left. -/
def State.unitsBoundary (s : State) (t : Nat) : State :=
  let s := s.freshBoundary.clampsBoundary.nodesBoundary.portsBoundary.gainsBoundary
  let s := ((s.pdmBoundary.micBoundary t).crossBoundary t).placePaths
  let s := s.lineJack.changeBoundary (s.strokeNo)
  let s := (((s.testsEnd t).chansBoundary t).testsBegin t).safeBoundary
  let s := (List.range 8).foldl (fun (s : State) (c : Nat) => s.modulator c) s
  let s := ((s.jackStopDue.jackHp).hpoBoundary t).hpoRestart
  s.trkBoundary

/-- What ends with the stroke: meters, sense notices, loops, and recoveries whose response is in force. -/
def State.strokeEnds (s : State) (t : Nat) : State := ((s.metersBoundary.senseBoundary).loopBoundary t).recoveryBoundary

/-- What the pair does at the boundary of stroke `k`. -/
def State.pairBoundary (s : State) (k : Nat) : State := ((s.vhkBoundary k).detachBoundary k).pairDecide k

/-- Step 5 of R28: the benches' rates, the release of the anvils, unless a breach holds them until an audit
has passed (R155), and the new stroke's deadline
(R174). -/
def State.releaseAnvils (s : State) : State :=
  let s := (List.range 8).foldl (fun (s : State) (n : Nat) => s.benchBoundary n) s
  let s := if s.stock.breached && s.stock.passedSince then { s with stock := { s.stock with breached := false } } else s
  let s := if s.stock.breached then s else allAnvils.foldl (fun (s : State) (n : Nat) => s.anvRelease n) s
  let d := s.strokeLen * (100 - s.f Regs.WELD_STROKE 0 5) / 100
  let s := { s with weld := { s.weld with judged := false, late := [], short := [], deadline := d } }
  s.setF Regs.WELD_STROKE 16 16 d

/-- The next boundary to be handled: the latest one that has passed, or the next one. (Log entry 16: DEDUCED.) -/
def State.nextBoundary (s : State) : Nat :=
  let n := s.boundaryTick (s.strokeFrom (s.boundary + 1))
  if n ≤ s.tb then s.boundaryTick s.strokeNo else n

/-- The MODE words written since the last boundary take effect (R301): by a weld, or directly as `s0` held them before the weld applied,
which come after it. (Log entry 79: DEDUCED.) -/
def State.modesBoundary (s s0 : State) : State :=
  allAnvils.foldl (fun (s : State) (n : Nat) =>
    match (s0.anv n).modeNext, (s.anv n).modeNext with
    | some v, _ | none, some v => (s.setAnv n { s.anv n with modeNext := none }).setB (Regs.ANV_MODE n) 0 v
    | none, none => s) s

/-- The loader's last weld has applied, or none has been committed. -/
def State.listApplied (s : State) : Bool :=
  match s.img.weld with
  | none => true
  | some (n, _) => match s.weldBySerial n with
    | none => true
    | some w => w.st == .committed || w.st == .closed

/-- The GO of an image's anvils, at the boundary at which its last register-list weld has applied (R582). -/
def State.imageGo (s : State) : State :=
  if s.f Regs.IMG_STAT 24 4 == 2 && s.img.lists.isEmpty && s.img.weld.isSome && s.listApplied then
    let s := s.img.gos.foldl (fun (s : State) n => if s.anvCmdOk n 1 then s.anvGo n else s) s
    { s with img := { s.img with gos := [] } }
  else s

/-- A stroke boundary in FORGING (R28). -/
def State.forgingBoundary (s : State) : State :=
  let t := s.nextBoundary
  let s := s.deadline.reach t
  let t := tbWrap t
  let k := s.strokeNo
  let s := { s.strokeWeld with boundary := t }
  let shut := s.strokeShut
  let s0 := s
  let s := ((s.strokeEnds t).step2 k shut).schedBoundary k
  let s := s.auditBoundary.imageGo.pairBoundary k
  ((s.modesBoundary s0).unitsBoundary t).releaseAnvils

/-- A stroke boundary in WARM: no stroke is published, and no anvil released; the Tongs pass, the welds and CMDQ apply, and actions that
name the stroke fire (R74, R407). (Log entry 16: DEDUCED.) -/
def State.warmBoundary (s : State) : State :=
  let t := s.nextBoundary
  let s := s.reach t
  let t := tbWrap t
  let s := { s with boundary := t }
  let k := s.strokeNo
  let s0 := s
  let s := ((((s.loopBoundary t).recoveryBoundary).step2 k false).schedBoundary k).imageGo
  ((s.pairBoundary k).clampsBoundary.gainsBoundary.safeBoundary.pdmBoundary.modesBoundary s0).changeBoundary k

/-- Row STROKE_BOUNDARY. (Log entries 4: DESIGN CHOICE, 16: DEDUCED.) -/
def State.strokeBoundary (s : State) : State :=
  if s.forging then s.forgingBoundary.faultCheck else if s.awake then s.warmBoundary.faultCheck else s

end Sys2Proof.Machine
end

