-- ==== Sys2Proof/Machine/PortCommands.lean ====
section
/-!
DEFINITION. What the two-wire target TWT, the SPI target SPIT, the QSPI controller and the JTAG port do with a command of their
protocols (chapters 19 and 23): every control-space access goes through `Machine.Bus`.
-/

namespace Sys2Proof.Machine

/-! ### The two-wire target: pointer and counts (R503, R508) -/

/-- The pointer's word address: page * 256 + word. -/
def State.twtPtr (s : State) : Nat := s.f Regs.TWT_STAT 24 8 * 256 + s.f Regs.TWT_STAT 16 8

/-- The pointer stands at a word address, continuing at page 0 past page 0xFF (R38). -/
def State.setTwtPtr (s : State) (a : Nat) : State :=
  (s.setF Regs.TWT_STAT 24 8 (a / 256)).setF Regs.TWT_STAT 16 8 (a % 256)

/-- The check byte is in use. -/
def State.twtPec (s : State) : Bool := s.b Regs.TWT_CFG 31

/-- A refused or shortened command counts in FORMAT (R508, R509). -/
def State.twtFormat (s : State) : State := (s.incF Regs.TWT_EVT 8 8).event pgTwt 2

/-- A refused first byte of a word counts in BUSY_NACK. -/
def State.twtBusy (s : State) : State := (s.incF Regs.TWT_EVT 16 8).event pgTwt 1

/-- CRC-8 of a byte string (R507). -/
def crc8Of (l : List Nat) : Nat := l.foldl crc8 0

/-- The bytes a read command returns, `cmd` being its code: the data, and the check byte where it is in use. -/
def State.twtReturn (s : State) (cmd : Nat) (checked : Bool) (data : List (BitVec 8)) : State :=
  let a := s.f Regs.TWT_STAT 8 7
  let c := crc8Of ([2 * a, cmd, 2 * a + 1] ++ data.map (·.toNat))
  { s with wire := { s.wire with twtOut := if checked && s.twtPec then data ++ [BitVec.ofNat 8 c] else data } }

/-! ### Sleep and the supply of the pins (R510, R511, R615) -/

/-- A start condition on TWT (R84, R510, R588): in BANKED and EMBER it is the wake source TWT, and on a halted device the one way on but
for the reset level of VAON. (Log entry 29: DEDUCED.) -/
def State.twtStart (s : State) : State :=
  if s.power.cold ∨ s.power.vioLost then s
  else if s.fault.halted then
    let s : State := { s with fault := { s.fault with halted := false } }
    (s.setB Regs.PWR_WAKE_CAUSE 5 true).wakeUp false
  else s.wakeSource 5

/-- A command of TWT: served whole in WARM and FORGING; in EMBER `ember` says what the device does with it, and its start condition
may wake the device; in BANKED there is only the start condition (R510, R511). (Log entry 71: DEDUCED.) -/
def State.twtCommand (s : State) (full : State → State) (ember : State → State) : State :=
  if s.power.vioLost then s
  else if s.awake then full s.twtStart
  else if s.inEmber then (ember s).twtStart
  else s.twtStart

/-- The pointer names a word of the PWR page, which the always-on island holds (R511). (Log entry 29: DEDUCED.) -/
def State.twtIsland (s : State) : Bool := s.f Regs.TWT_STAT 24 8 == 0x02

/-! ### The commands of R502 -/

/-- `s` with `n` refusals counted in FORMAT. (Log entry 70: DEDUCED.) -/
def State.twtFormats (n : Nat) (s : State) : State := (List.range n).foldl (fun (s : State) _ => s.twtFormat) s

/-- SET_PTR with the bytes that followed its code: one cut short changes nothing (R509), a surplus byte is refused (R508). -/
def State.twtSetPtr (s : State) (bytes : List (BitVec 8)) : State :=
  let act := fun (s : State) =>
    match bytes with
    | page :: word :: rest => State.twtFormats rest.length (s.setTwtPtr (page.toNat * 256 + word.toNat))
    | _ => s.twtFormat
  s.twtCommand act act

/-- One word goes through the write queue: the answer's first part says that it was refused for want of a CMDQ entry (R509). The pointer
then names the refused word. (Log entry 70: DEDUCED.) -/
def State.twtPut (s : State) (v : Word) : Bool × State :=
  let a := s.twtPtr
  let x := s.busWrite .twt (a / 256) (a % 256 * 4) v
  if x.1 then (true, s.twtBusy) else (false, (x.2.afterAccess .twt (a / 256) (a % 256 * 4)).setTwtPtr (a + 1))

/-- Words in order, up to the first refused one (R508). (Log entry 70: DEDUCED.) -/
def State.twtPutAll : List Word → State → Bool × State
  | [], s => (false, s)
  | v :: t, s => match s.twtPut v with
    | (true, s) => (true, s)
    | (false, s) => State.twtPutAll t s

/-- A command's words: with a check byte in use none stands where one is refused, for the command then ends without its check byte
(R508, R509). The answer's first part says that one was refused. -/
def State.twtWrite (s : State) (l : List Word) : Bool × State :=
  match State.twtPutAll l s with
  | (true, t) => (true, if s.twtPec then s.twtBusy else t)
  | (false, t) => (false, t)

/-- The data bytes of a write command that needs `need` of them (R507 to R509): of a short command the whole words stand where no check
byte is in use, and it counts in FORMAT; each surplus byte counts there. A refused word ends the command. -/
def State.twtData (s : State) (need : Nat) (bytes : List (BitVec 8)) : State :=
  let short := decide (bytes.length < need)
  let x := if s.twtPec && short then (false, s) else s.twtWrite (wordsOfBytes (bytes.take need))
  if x.1 then x.2 else if short then x.2.twtFormat else State.twtFormats (bytes.length - need) x.2

/-- WRITE_WORD. In EMBER it reaches the PWR page only. (Log entry 70: DEDUCED.) -/
def State.twtWriteWord (s : State) (bytes : List (BitVec 8)) : State :=
  s.twtCommand (fun s => s.twtData 4 bytes) fun s => if s.twtIsland then s.twtData 4 bytes else s.twtFormat

/-- WRITE_BLOCK with count byte `n` and the bytes that followed it before the stop (R502, R503, R508, R509): a bad count byte refuses the
command. (Log entry 70: DEDUCED.) -/
def State.twtWriteBlock (s : State) (n : Nat) (bytes : List (BitVec 8)) : State :=
  s.twtCommand (fun s => if n % 4 ≠ 0 ∨ 252 < n then s.twtFormat else s.twtData n bytes) State.twtFormat

/-- The word at the pointer is read; the pointer moves past it (R503, R504). -/
def State.twtGet (s : State) : Word × State :=
  let a := s.twtPtr
  let x := s.busRead .twt (a / 256) (a % 256 * 4)
  (x.1, ((x.2.answer .twt x.1).afterAccess .twt (a / 256) (a % 256 * 4)).setTwtPtr (a + 1))

/-- `n` words read one after the other. -/
def State.twtGetAll : Nat → State → List Word × State
  | 0, s => ([], s)
  | n + 1, s =>
    let x := s.twtGet
    let r := State.twtGetAll n x.2
    (x.1 :: r.1, r.2)

/-- READ_WORD. In EMBER it reaches the PWR page only. -/
def State.twtReadWord (s : State) : State :=
  let act := fun (s : State) =>
    let x := s.twtGet
    x.2.twtReturn 0x30 true (bytesOf x.1)
  s.twtCommand act fun s => if s.twtIsland then act s else s.twtFormat

/-- READ_BLOCK of which the controller took `sent` words before it ended the read: at most one word beyond the last one sent has been read
(R504). -/
def State.twtReadBlock (s : State) (sent : Nat) : State :=
  s.twtCommand (fun s =>
    let len := s.f Regs.TWT_CFG 16 8
    let total := len / 4
    let x := State.twtGetAll (min total (sent + 1)) s
    x.2.twtReturn 0x31 (decide (total ≤ sent)) (BitVec.ofNat 8 len :: (x.1.take sent).flatMap bytesOf)) State.twtFormat

/-- WELD_OP (R505): one access that opens a weld and selects it for TWT. -/
def State.twtWeldOp (s : State) : State :=
  s.twtCommand (fun s =>
    let x := s.busRead .twt 0x05 0x040
    let s := x.2.answer .twt x.1
    let s := if x.1 = 0 then s else s.ctlWrite .twt 0x05 0x044 x.1
    s.twtReturn 0x40 false [BitVec.ofNat 8 x.1.toNat]) State.twtFormat

/-- The word STATUS returns (R506). -/
def State.twtStatusWord (s : State) : Word :=
  let low := b2n (s.b Regs.TWT_NOTIFY 30) * 128 + b2n s.wire.pecSeen * 64 + b2n (!s.fault.active.isEmpty) * 32
    + b2n (s.b Regs.MIC_PRIV 31) * 16 + b2n s.braced * 8 + s.pst
  if s.inEmber then Word.of (0x8F00FF00 + low)
  else Word.of (8 * 2 ^ 28 + s.freeIds.length % 16 * 2 ^ 24 + satU 255 s.signalling.length * 65536 + s.irqFirst.toNat % 256 * 256 + low)

/-- STATUS: the word is returned and PEC_SEEN clears. -/
def State.twtStatus (s : State) : State :=
  let act := fun (s : State) =>
    let s := s.twtReturn 0x50 true (bytesOf s.twtStatusWord)
    { s with wire := { s.wire with pecSeen := false } }
  s.twtCommand act act

/-- NOTIFY_CFG re-arms notification (R513). -/
def State.twtNotifyCfg (s : State) : State := s.twtCommand (fun s => s.setB Regs.TWT_NOTIFY 30 true) State.twtFormat

/-- A write command whose check byte is wrong or missing (R507): nothing but its count. Without the check byte in use none can be wrong.
(Log entry 70: DEDUCED.) -/
def State.twtPecErr (s : State) : State :=
  let act := fun (s : State) =>
    if s.twtPec then
      let s := (s.incF Regs.TWT_EVT 24 8).event pgTwt 0
      { s with wire := { s.wire with pecSeen := true } }
    else s
  s.twtCommand act act

/-- A line stays low for its timeout (R512): the transaction is abandoned, TIMEOUT counts, and SCL_TO or SDA_TO is raised. -/
def State.twtTimeout (s : State) (sda : Bool) : State :=
  if (s.awake || s.inEmber) && !s.power.vioLost then (s.incF Regs.TWT_EVT 0 8).event pgTwt (if sda then 4 else 3) else s

/-! ### The SPI target (R521 to R527) -/

/-- SPIT takes frames: in WARM and FORGING, enabled, with VIO (R50, R521, R615). -/
def State.spitServes (s : State) : Bool := s.awake && s.en pgSpit && !s.power.vioLost

/-- A frame's fault: the sticky bit `bit_` of the status byte, the count at bit `lo` of EVT, and its cause (R522 to R526).
(Log entry 72: DEDUCED.) -/
def State.spitNote (s : State) (bit_ lo cause : Nat) : State :=
  let s : State := { s with wire := { s.wire with sticky := s.wire.sticky ||| bit_ } }
  (s.incF Regs.SPIT_EVT lo 8).event pgSpit cause

/-- FORMAT. -/
def State.spitFormat (s : State) : State := s.spitNote 1 0 3
/-- REFUSED. -/
def State.spitRefused (s : State) : State := s.spitNote 4 8 2
/-- CRC_ERR. -/
def State.spitCrcErr (s : State) : State := s.spitNote 8 24 0

/-- SPI_CSN rises: a write of EN = 0 made through SPIT takes effect (R50). (Log entry 73: DEDUCED.) -/
def State.spitEnd (s : State) : State :=
  if s.wire.spitOff then ({ s with wire := { s.wire with spitOff := false } } : State).setEn pgSpit false else s

/-- A frame of SPIT: nothing happens to a port that does not serve, and a quad command that is not accepted makes the frame do nothing
(R522). -/
def State.spitFrame (s : State) (quad : Bool) (act : State → State) : State :=
  if !s.spitServes then s
  else if quad && !s.b Regs.SPIT_CFG 1 then s.spitFormat.spitEnd
  else (act s).spitEnd

/-- The address lies outside the control space (R37). -/
def spitOutside (addr : Nat) : Bool := addr / 2 ^ 18 % 64 != 0

/-- One word of a write frame at word address `a` (R37, R525). Outside the space, SYS.PG_ERR shows the page and the word of the low address
bits. (Log entry 83: DESIGN CHOICE.) -/
def State.spitPut (s : State) (outside : Bool) (a : Nat) (v : Word) : State :=
  let p := a / 256 % 256
  let off := a % 256 * 4
  if outside then s.errOn 0 p off errReserved
  else
    let x := s.busWrite .spit p off v
    (if x.1 then x.2.spitRefused else x.2).afterAccess .spit p off

/-- The words of a write frame in order, the address moving on under R38. A frame that begins outside the space stays outside it.
(Log entry 83: DESIGN CHOICE.) -/
def State.spitPutAll (outside : Bool) : Nat → List Word → State → State
  | _, [], s => s
  | a, v :: t, s => State.spitPutAll outside ((a + 1) % 65536) t (s.spitPut outside a v)

/-- What a write frame's data is worth (R525, R526): `act` acts on the whole words; with CRC the frame must be whole and its CRC match. -/
def State.spitData (s : State) (bytes : List (BitVec 8)) (crcOk : Bool) (act : List Word → State → State) : State :=
  let part := bytes.length % 4 != 0
  if s.b Regs.SPIT_CFG 0 then
    if part || decide (256 < bytes.length) then s.spitFormat
    else if crcOk then act (wordsOfBytes bytes) s
    else s.spitCrcErr
  else
    let s := act (wordsOfBytes bytes) s
    if part then s.spitFormat else s

/-- WRITE and QWRITE: data bytes at a 24-bit byte address. -/
def State.spitWrite (s : State) (quad : Bool) (addr : Nat) (bytes : List (BitVec 8)) (crcOk : Bool) : State :=
  s.spitFrame quad fun s => s.spitData bytes crcOk (State.spitPutAll (spitOutside addr) (addr / 4 % 65536))

/-- One byte of the CRC-16 of R526. (Log entry 9: DESIGN CHOICE.) -/
def crc16 (c b : Nat) : Nat :=
  (List.range 8).foldl (fun c _ => if 32768 ≤ c then (c * 2 % 65536) ^^^ 0x1021 else c * 2) ((c ^^^ (b * 256)) % 65536)

/-- The data bytes of a read frame: with CRC in use, the CRC of 16 bytes after every fourth word, most significant byte first. -/
def spitGroups (crc : Bool) : List Word → List (BitVec 8)
  | a :: b :: c :: d :: t =>
    let l := [a, b, c, d].flatMap bytesOf
    let r := (l.map (·.toNat)).foldl crc16 0xFFFF
    l ++ (if crc then [BitVec.ofNat 8 (r / 256), BitVec.ofNat 8 r] else []) ++ spitGroups crc t
  | l => l.flatMap bytesOf

/-- `n` words read from word address `a` on. (Log entry 34: DEDUCED.) -/
def State.spitGetAll (outside : Bool) : Nat → Nat → State → List Word × State
  | 0, _, s => ([], s)
  | n + 1, a, s =>
    let p := a / 256 % 256
    let off := a % 256 * 4
    let x := if outside then (0, s.errOn 0 p off errReserved) else s.busRead .spit p off
    let t := x.2.answer .spit x.1
    let r := State.spitGetAll outside n ((a + 1) % 65536) (if outside then t else t.afterAccess .spit p off)
    (x.1 :: r.1, r.2)

/-- A read frame of which `n` words were sent: the status byte and the words; one word beyond the last has been fetched, and a frame that
ends after its address makes no access (R523). -/
def State.spitReadFrame (s : State) (quad : Bool) (n : Nat) (fetch : Nat → State → List Word × State) : State :=
  s.spitFrame quad fun s =>
    let st := BitVec.ofNat 8 s.spitStatus
    if n = 0 then { s with wire := { s.wire with spitOut := [st] } }
    else
      let x := fetch (n + 1) s
      let out := st :: spitGroups (s.b Regs.SPIT_CFG 0) (x.1.take n)
      { x.2 with wire := { x.2.wire with spitOut := out } }

/-- READ and QREAD. -/
def State.spitRead (s : State) (quad : Bool) (addr n : Nat) : State :=
  s.spitReadFrame quad n fun k s => State.spitGetAll (spitOutside addr) k (addr / 4 % 65536) s

/-- The Stock word address of a byte address, `none` where bit 23 or bit 22 is set (R527). (Log entry 34: DEDUCED.) -/
def stockAddr (addr : Nat) : Option Nat := if addr / 2 ^ 22 % 4 = 0 then some (addr % 2 ^ 22 / 4) else none

/-- The words of a Stock write from word address `a` on; past the last billet they are ignored (R527). (Log entry 34: DEDUCED.) -/
def State.spitStockPut : Nat → List Word → State → State
  | _, [], s => s
  | a, v :: t, s =>
    let s := if a < 2 ^ 20 then
        (List.range 4).foldl (fun (s : State) (i : Nat) => s.stockWrite (s.domainOf .spit) (4 * a + i) ((bytesOf v).getD i 0)) s
      else s
    State.spitStockPut (a + 1) t s

/-- SWRITE and QSWRITE: Stock bytes, without moving a billet (R527). -/
def State.spitStockWrite (s : State) (quad : Bool) (addr : Nat) (bytes : List (BitVec 8)) (crcOk : Bool) : State :=
  s.spitFrame quad fun s => match stockAddr addr with
    | none => s.spitFormat
    | some a => s.spitData bytes crcOk (State.spitStockPut a)

/-- `n` Stock words from word address `a` on; zeros past the last billet. (Log entry 34: DEDUCED.) -/
def State.spitStockGet : Nat → Nat → State → List Word × State
  | 0, _, s => ([], s)
  | n + 1, a, s =>
    let x := if a < 2 ^ 20 then s.stockRead (s.domainOf .spit) a else (0, s)
    let r := State.spitStockGet n (a + 1) x.2
    (x.1 :: r.1, r.2)

/-- SREAD and QSREAD (R527). -/
def State.spitStockRead (s : State) (quad : Bool) (addr n : Nat) : State :=
  match stockAddr addr with
  | some a => s.spitReadFrame quad n fun k s => State.spitStockGet k a s
  | none => s.spitReadFrame quad n fun k s => ((List.range k).map fun _ => 0, s.spitFormat)

/-- STATUS: the status byte, whose sticky bits clear at the end of the frame (R524). -/
def State.spitStatusFrame (s : State) : State :=
  s.spitFrame false fun s =>
    { s with wire := { s.wire with spitOut := [BitVec.ofNat 8 s.spitStatus], sticky := 0 } }

/-! ### QSPI (R529) -/

/-- A byte transfer ends: BUSY clears, XFER reads the byte received, and a read that waited completes with it. -/
def State.qspiDone (s : State) (byte : BitVec 8) : State :=
  if s.b Regs.QSPI_STAT 0 then
    let s := (s.setB Regs.QSPI_STAT 0 false).setF Regs.QSPI_XFER 0 8 byte.toNat
    match s.wire.qspiReader with
    | some m => ({ s with wire := { s.wire with qspiReader := none } } : State).answer m (s.w Regs.QSPI_XFER)
    | none => s
  else s

/-! ### JTAG (R609 to R611) -/

/-- IDCODE's register. -/
def jtagId : Word := 0x1E1634F7

/-- An instruction becomes current. Leaving EXTEST or HIGHZ stops every channel that ran meanwhile (R611); IDCODE's register takes its
value. (Log entry 66: DEDUCED.) -/
def State.jtagSelect (s : State) (ir : Nat) : State :=
  let left := s.tst.ir == 0 || s.tst.ir == 3
  let s := if left then allChans.foldl (fun (s : State) c => s.safeChan c) s else s
  let s := s.jtagIr ir
  if ir = 1 then { s with tst := { s.tst with dr := jtagId } } else s

/-- SAMPLE/PRELOAD: the boundary register is preloaded. -/
def State.jtagPreload (s : State) (bound : Nat) : State :=
  let s := s.jtagSelect 2
  { s with tst := { s.tst with bound := bound } }

/-- Update-DR of the access register (R610): under AUTH only its words are reached, under CTRL the whole control space, and under any other
instruction it is not the data register. -/
def State.jtagAccess (s : State) (wr : Bool) (addr : Nat) (v : Word) : State :=
  let a := addr % 2 ^ 18
  let p := a / 1024
  let off := a % 1024 / 4 * 4
  if !s.awake then s
  else if s.tst.ir = 17 ∨ s.tst.ir = 16 ∧ jtagAuthWord a then
    if wr then s.ctlWrite .jtag p off v
    else
      let s := s.ctlRead .jtag p off
      { s with tst := { s.tst with dr := s.fabric.readData.get 0 (masterNum .jtag) } }
  else if s.tst.ir = 16 ∧ !wr then { s with tst := { s.tst with dr := 0 } }
  else s

end Sys2Proof.Machine
end

