-- ==== Sys2Proof/Machine/Modulator.lean ====
section
/-!
DEFINITION. What the driver channels do at their pins (chapter 13, R376 to R381, R383, R384): carriers, the integrated stages' outputs, the
external stages' PWM, and the outputs of every state.
-/

namespace Sys2Proof.Machine

/-! ### Carriers (R377) -/

/-- The switching frequency of channel `c` in Hz, before any sweep. -/
def State.carrierHz (s : State) (c : Nat) : Nat := if s.b (Regs.CH_CFG c) 0 then 768000 else 384000

/-- The offset of channel `c`'s carrier in sixteenths of its period: 45° from one number to the next, and 22.5° more for XST. -/
def carrierOffset (c : Nat) : Nat := 2 * (c % 8) + (if isStg c then 0 else 1)

/-- The common sweep of spread spectrum at tick `t`, in parts per million of the switching frequency: triangular over ±4 %, once in 1 ms;
where in its period it stands at tick 0 is a free value. (Log entry 93: DESIGN CHOICE.) -/
def sweepPpm (t : Nat) : Int :=
  let p := (t + Config.sweepPhase) % tickMs
  if 2 * p < tickMs then -40000 + 160000 * (p : Int) / tickMs else 120000 - 160000 * (p : Int) / tickMs

/-- The frequency shift of channel `c`'s carrier at tick `t`, in parts per million. -/
def State.carrierShift (s : State) (c t : Nat) : Int := if s.b (Regs.CH_CFG c) 5 then sweepPpm t else 0

/-! ### What a channel plays (R376, R379, R380) -/

/-- The channel whose chain, configuration and commands drive channel `c`: the even half of its pair, or itself (R379). -/
def State.driverOf (s : State) (c : Nat) : Nat := if s.oddHalf c then c - 1 else c

/-- The peak differential output of an integrated stage for modulator input `x`, in units of mV / (100 * 2^31): VFS times `x`, limited to
0.96 of PVDD (R376). (Log entry 93: DESIGN CHOICE.) -/
def State.stageOut (s : State) (c : Nat) (x : Int) : Int :=
  let swing : Int := (96 * s.pvddInUse * 2 ^ 31 : Nat)
  let v := 100 * (250 * s.f (Regs.CH_CFG c) 24 8 : Nat) * x
  max (-swing) (min swing v)

/-- The outputs of an integrated stage, or of both halves of a PBTL pair, over the stroke it plays. -/
def State.stageStroke (s : State) (c : Nat) : List Int :=
  let d := s.driverOf c
  (s.modInput d).map fun x => s.stageOut d x

/-- The PWM period of an external stage in counts of the 196.608 MHz modulator counter (R87, R380). -/
def State.pwmPeriod (s : State) (c : Nat) : Nat := 196608000 / s.carrierHz c

/-- How long XSTn_A and XSTn_B are high in one PWM period for modulator input `x` in Q1.31, in units of 2^-32 counts: duty 0.5 + 0.5 x and
its complement, each less the dead time after its rising edge (R380). -/
def State.xstHigh (s : State) (c : Nat) (x : Int) : Nat × Nat :=
  let n := s.pwmPeriod c
  let dead := s.f (Regs.CH_CFG c) 8 8 * 2 ^ 32
  let a := ((2 ^ 31 + x) * (n : Int)).toNat
  (a - dead, n * 2 ^ 32 - a - dead)

/-! ### The outputs of each state (R381, R383, R384) -/

/-- What a channel's outputs do. -/
inductive ChanOut where
  /-- STG: high-impedance; XST: both low. -/
  | off
  /-- The common mode rises towards PVDD/2, or the duties towards 50 %: the part reached, in ticks of the inrush time (R383). -/
  | rising (ticks : Nat)
  /-- Held at the level reached (R393). -/
  | held (ticks : Nat)
  /-- Switching at zero differential. -/
  | zero
  /-- Playing, or muted. -/
  | playing
  /-- The soft path lowers the outputs: the part left, in ticks of the inrush time (R384). -/
  | falling (ticks : Nat)
  deriving DecidableEq, Repr

/-- The outputs of channel `c` (R381). -/
def State.chanOut (s : State) (c : Nat) : ChanOut :=
  let d := s.driverOf c
  let x := s.chan d
  let st := s.chState d
  if st = chInrush then .rising (min (s.inrush d) (x.done + (s.tb - x.began)))
  else if st = chPaused then .held x.done
  else if st = chSettle then (if (s.test d).isSome then .playing else .zero)
  else if st = chRun then .playing
  else if st = chStopping then
    (match x.phase with
     | .lowering => .falling (x.due - s.tb)
     | _ => .playing)
  else .off

end Sys2Proof.Machine
end

