-- ==== Sys2Proof/Machine/BootWork.lean ====
section
/-!
DEFINITION. Entry to and exit from FORGING, entry to sleep (chapter 03), and the boot ROM's sequence (chapter 25).
-/

namespace Sys2Proof.Machine

/-! ### FORGING (R75, R76) -/

/-- The first stroke boundary at or after now that has not been handled. -/
def State.entryBoundary (s : State) : Nat := s.boundaryTick (s.strokeFrom (max s.tb (s.boundary + 1)))

/-- The device may enter FORGING: a request is under way, PLLA has locked, and an acting follower has locked to its lead (R75, R127). -/
def State.entryReady (s : State) : Bool :=
  s.pst == stWarm && s.power.target == some stForging && s.b Regs.CLK_STAT 2 && (!s.actingFollow || s.b Regs.TB_SYNC 1)

/-- A transition has completed: the ledger audits, and a held request is acted on (R80, R153). (Log entry 30: DESIGN CHOICE.) -/
def State.arrived (s : State) : State := ((s.endTrans).audit trigState).heldRequest

/-- A unit's first stroke not yet worked on, where it stands in a numbering that another hearth rate or timebase has left behind, is the
stroke that begins (R75, R89). -/
def State.restartStrokes (s : State) : State :=
  let k := s.strokeNo
  let s := s.stock.queues.foldl (fun (s : State) e => s.setPlace e.1 { e.2.place with next := min e.2.place.next k }) s
  let s := s.incs.foldl (fun (s : State) e => s.setInc e.1 { e.2 with next := min e.2.next k }) s
  let s := s.fins.foldl (fun (s : State) e => s.setFin e.1 { e.2 with next := min e.2.next k }) s
  s.nodes.foldl (fun (s : State) e => s.setNode e.1 { e.2 with next := min e.2.next k }) s

/-- Entry to FORGING at a boundary, whose steps 2 to 5 of R28 follow; there is no stroke to publish yet (R75).
(Log entry 30: DESIGN CHOICE.) -/
def State.forgingEntry (s : State) : State :=
  if s.entryReady then
    let t := s.entryBoundary
    let s := s.reach t
    let t := tbWrap t
    let s := { s with boundary := t, outs := [], pub := [], weld := { s.weld with concealed := false, late := [], short := [] } }
    let s := s.restartStrokes
    let s := { (s.setPst stForging).endTrans with jack := { s.jack with first := true } }
    let k := s.strokeNo
    let s0 := s
    let s := ((s.seam t).step2 k false).schedBoundary k
    let s := s.auditBoundary.pairBoundary k
    let s := ((s.modesBoundary s0).unitsBoundary t).releaseAnvils
    (s.audit trigState).heldRequest
  else s

/-- Every stop sequence that leaving FORGING has begun comes to its end (R76, step 1). (Log entry 24: DEDUCED.) -/
def State.finishStops (s : State) : State :=
  let s := s.stopStages
  let s := allChans.foldl (fun (s : State) (c : Nat) => if s.chState c = chStopping then s.lowered c else s) s
  if s.hpoState = 0 then s else ({ s with hpo := {} } : State).setHpoState 0

/-- The audio clock domains stop (R76, step 4): those of stages, sense, ports, PDM, analogue inputs and outputs, and rate conversion.
(Log entry 24: DEDUCED.) -/
def State.stopAudioClocks (s : State) : State :=
  (List.range 103).foldl (fun (s : State) (i : Nat) => s.domainStop (88 + i)) s

/-- The device leaves FORGING (R76). (Log entry 24: DEDUCED.) -/
def State.forgingExit (s : State) : State :=
  if s.forging && s.b Regs.PWR_STAT 3 && s.power.target != some stForging then
    let t := s.nextBoundary
    let s := (s.finishStops.deadline).reach t
    let t := tbWrap t
    let k := s.strokeNo
    let s := { s.strokeWeld with boundary := t }
    let shut := s.strokeShut
    let s := (((s.strokeEnds t).step2 k shut).schedBoundary k).pairBoundary k
    let s := s.freeWeld fun o => decide (noQueue ≤ o.queue)
    let s : State := { s.setPst stWarm with outs := [], pub := [] }
    let s := s.stopAudioClocks.audit trigState
    if s.power.target = some stWarm then s.endTrans.heldRequest else s
  else s

/-! ### Sleep (R77, R78, R146) -/

/-- ANV63's cached patch entries (R78). -/
def State.islandCache (s : State) : List CacheLine := s.patch.cache.filter fun (l : CacheLine) => l.unit / 256 == 0xBF

/-- Entry to BANKED or EMBER: welds, CMDQ, scheduler entries and owner sessions end, the Stock keeps its retained slabs, the ledger audits,
PSW_EN falls, the core die loses its power and the bucks stop; in EMBER the island keeps ANV63 and the listener begins (R77, R78, R125,
R146, R451). A held request is acted on then (R80).
(Log entry 24: DEDUCED.) -/
def State.sleepEntry (s : State) : State :=
  let go := fun (st : Nat) =>
    let ember := st == stEmber
    let a := s.anv 63
    let cache := s.islandCache
    let s := s.weldsSleep.stockSleep.schedDrop
    let s := (s.endSessions).audit trigState
    let s := s.losePower (keptThrough ember) s.stock
    let s := if ember then { s.setAnv 63 a with patch := { s.patch with cache := cache } } else s
    let s := ({ s with power := { s.power with bucksOff := true } } : State).setPst st |>.endTrans
    (if ember then s.listen else s).heldRequest
  if s.pst = stWarm ∧ s.b Regs.PWR_STAT 3 then
    match s.power.target with
    | some t => if t = stBanked ∨ t = stEmber then go t else s
    | none => s
  else s

/-! ### The boot sequence (R643 to R645) -/

/-- Steps up to `n` are complete; SYS.BOOT.STEP shows the last one reached. -/
def State.bootAt (s : State) (n : Nat) : State := { s with boot := { s.boot with step := n } }.setF Regs.SYS_BOOT 24 4 n

/-- Step 8: DONE, and a LEAD strap's ATTACH (R554). -/
def State.bootDone (s : State) : State :=
  let s := ((s.bootAt 8).setB Regs.SYS_BOOT 31 true).event 0x00 0
  let s := s.setB Regs.QSPI_STAT 1 false
  if s.power.strapRole = 1 ∧ s.attachOk then s.attach false else s

/-- STATE is WARM: a wake's last step (R83, R104), after which the slow clock still carries the count up to PLLA's lock (R109). -/
def State.bootWarm (s : State) : State :=
  let woke := s.power.waking
  let s := { s with power := { s.power with waking := false, slowTb := s.power.slowTb || woke } }
  let s := (s.setPst stWarm).tongsWake
  if woke then s.wakeBrace else s

/-- The boot ROM has reached WARM: the transition is complete, unless it goes on to another state (R74, R83). -/
def State.bootArrived (s : State) : State := if s.power.target.getD stWarm = stWarm then s.arrived else s

/-- Steps 1 to 3 with a fast source: 1 the selected one, 2 MCLK at 24.576 MHz, 3 MCLK at 12.288 MHz. -/
def State.bootClock (s : State) (fast : Nat) : State :=
  let s := if fast = 2 ∨ fast = 3 then (s.setF Regs.CLK_SRC 0 2 (fast - 1)).setB Regs.SYS_BOOT 9 true else s
  let s := ((s.setB Regs.CLK_STAT 0 true).bootWarm.pllaLock).bootAt 3
  s.bootArrived

/-- Step 3 without any fast source (R644). -/
def State.bootNoClock (s : State) : State :=
  let s := ((s.setB Regs.CLK_STAT 0 false).setB Regs.CLK_STAT 2 false).setB Regs.CLK_STAT 5 true
  let s := { s with power := { s.power with onRc := true, slowTb := true } }
  let s := s.bootWarm.bootAt 3
  (s.bootArrived.raiseDevice 0x01 pgClk false).bootDone

/-- Steps 4 to 6: the settings, the flash's MAGIC, and the beginning of the load. (Log entry 73: DEDUCED.) -/
def State.bootLoad (s : State) (magic : Bool) : State :=
  let s := s.bootSense
  let s := if s.en pgQspi then s else s.setEn pgQspi true
  let s := (if s.routed then s.bootRoute else s).bootAt 5
  if magic && s.loadOk then
    let s := (s.setB Regs.SYS_BOOT 8 true).setF Regs.SYS_BOOT 24 4 6
    { (s.loadStart true).setB Regs.QSPI_STAT 1 true with boot := { s.boot with loading := true } }
  else s

/-- Steps 6 to 8, once no load runs: the default route's FORGING and its starts at the first boundary there, then DONE.
(Log entry 78: DEDUCED.) -/
def State.bootEnd (s : State) : State :=
  if s.f Regs.IMG_STAT 24 4 ≠ 0 then s
  else
    let s := ({ s with boot := { s.boot with loading := false } }.setB Regs.QSPI_STAT 1 false).bootAt 6
    if s.routed then
      if s.forging then
        let s := s.commandSource (s.f Regs.SYS_DROUTE 4 2) true
        let s := s.act .boot .owner 0 3 (Word.of (maskOf s.mappedChans))
        (s.bootAt 7).bootDone
      else if s.b Regs.PWR_STAT 3 then s
      else s.bootWrite 0x02 0x040 ((s.w Regs.PWR_MODE).toNat / 8 * 8 + stForging)
    else (s.bootAt 7).bootDone

/-- Row BOOT_SEQUENCE: the ROM goes on with its steps as far as they can go: `fast` is the fast source found at step 3 (0 none), `magic` that
step 5 read an image's MAGIC. (Log entry 25: DESIGN CHOICE.) -/
def State.bootSequence (s : State) (fast : Nat) (magic : Bool) : State :=
  if s.power.cold || s.asleep || 8 ≤ s.boot.step then s
  else if s.boot.step < 5 then
    if (s.otp 0x040).toNat.testBit 2 && !(s.otp 0x040).toNat.testBit 3 then s.returnDevice
    else if fast = 0 then s.bootNoClock
    else
      let s := (s.bootClock fast).bootLoad magic
      s.bootEnd
  else s.bootEnd

end Sys2Proof.Machine
end

