-- ==== Sys2Proof/Machine/Settle.lean ====
section
/-!
DEFINITION. What follows a command at once: steps of anvils, levels that show a condition, and the units that act as soon as their
condition holds.
-/

namespace Sys2Proof.Machine

/-- The loader's register-list weld has been decided: a cold shut ends the load with WELD (R583); one that has applied waits for the row
that goes on. -/
def State.listWatch (s : State) : State :=
  match s.img.weld with
  | none => s
  | some (n, sec) =>
    match s.weldBySerial n with
    | none => s
    | some w =>
      if w.st = .coldShut then
        let s := s.setW Regs.IMG_WSTAT (s.viewFor .loader 0x05 0x060 Regs.WELD_STATUS)
        s.loadEnd 0xA sec
      else s

/-- Everything that follows a command; `old` is the state before it. -/
def State.settle (s old : State) : State :=
  let s := s.anvSteps
  let s := (s.takeover.pairAdvance.profileStep).jobStep
  let s := s.listWatch.loopAbort
  let s := (List.range 12).foldl (fun (s : State) (n : Nat) => s.asrcFollow n) s
  let s := s.txStalledDrain.transitDone
  (((s.creditCheck old).overcommitCheck.idsLevel).schedLevel).logChanges old

end Sys2Proof.Machine
end

