-- ==== Sys2Proof/Machine/Events.lean ====
section
/-!
DEFINITION. Events that several units answer: the conditions of a stage die and of an external stage, ring-test events, the core die's
temperature, recoveries, the image loader's steps and the follower's superframe.
-/

namespace Sys2Proof.Machine

/-! ### Stage dies and external stages (R22, R390, R391) -/

/-- The condition of fault code 0x25, 0x26 or 0x27 of a die, with its value replaced. -/
def Die.put (d : Die) (code : Nat) (v : Bool) : Die :=
  if code = 0x25 then { d with pvddUv := v } else if code = 0x26 then { d with pvddOv := v } else { d with ots := v }

/-- Whether the condition of that code stands on the die. -/
def Die.has (d : Die) (code : Nat) : Bool := if code = 0x25 then d.pvddUv else if code = 0x26 then d.pvddOv else d.ots

/-- A die finds PVDD undervoltage (0x25), overvoltage (0x26) or its shutdown temperature (0x27): its channels are HELD (R391). -/
def State.dieCond (s : State) (a : Bool) (code : Nat) : State :=
  if (s.die a).has code then s else (s.setDie a ((s.die a).put code true)).dieFault a code

/-- The condition ends: its fault clears, and channels that no other condition holds start again (R391). -/
def State.dieCondEnd (s : State) (a : Bool) (code : Nat) : State :=
  if (s.die a).has code then ((s.setDie a ((s.die a).put code false)).clearFault code (dieSrc a)).unholdDie a else s

/-- A die reaches its warning temperature, or falls below it (R391, R589). -/
def State.dieWarn (s : State) (a on : Bool) : State :=
  let s := s.setDie a { s.die a with otw := on }
  if on then s.raiseLocal 0x28 (dieSrc a) 0 else s.clearFault 0x28 (dieSrc a)

/-- A die has lost its link: its eight channels are safe and stopped (R22). (Log entry 75: DEDUCED.) -/
def State.dieLost (s : State) (a : Bool) : State :=
  let s := s.setDie a { s.die a with linkLost := true }
  ((dieChans a).foldl (fun (s : State) c => s.safeChan c) s).raiseDevice 0x20 (dieSrc a) false

/-- The link has locked again: the fault clears, and the die's channels stay stopped until START (R589). (Log entry 75: DEDUCED.) -/
def State.dieRelock (s : State) (a : Bool) : State :=
  if (s.die a).linkLost then
    let s := s.setDie a { s.die a with linkLost := false }
    ((dieChans a).foldl (fun (s : State) c => s.safeChan c) s).clearFault 0x20 (dieSrc a)
  else s

/-- Short detection, or 64 limited periods, in a stage whose outputs are driven (R386, R387);
of either half in a PBTL pair (R379). (Log entry 66: DEDUCED.) -/
def State.stageTrip (s : State) (c : Nat) : State :=
  let c := if s.oddHalf c then c - 1 else c
  if isStg c && [chInrush, chPaused, chSettle, chRun, chStopping].contains (s.chState c) then s.trip c else s

/-- An asserted fault input: a channel that runs sees the fault; one that does not only has its input asserted (R390).
(Log entry 66: DEDUCED.) -/
def State.xstInput (s : State) (c : Nat) : State :=
  if [chStopped, chLatched, chSlave].contains (s.chState c) then s.setChan c { s.chan c with fltIn := true } else s.xstFault c

/-- A fault input is released (R390): in follow mode the channel starts again and XST_FLT clears. -/
def State.xstRelease (s : State) (c : Nat) : State :=
  if (s.chan c).fltIn then
    let s := s.setChan c { s.chan c with fltIn := false }
    if s.b (Regs.CH_CFG c) 4 then (s.clearSub 0x24 (chPage c) c).unhold c else s
  else s

/-- An event that cannot let a ring test finish, by the END code it gives the test (R440). (Log entry 67: DESIGN CHOICE.) -/
def State.ringEvent (s : State) (c code : Nat) : State :=
  if (s.test c).isNone then s
  else match code with
    | 3 => if s.stopOk c then s.stopChan c else s
    | 4 => if isStg c then s.stageTrip c else s.xstInput c
    | 5 => s.hold c
    | _ => s.testAbort c code

/-! ### The core die and recoveries (R589, R593, R594) -/

/-- The core die passes its warning temperature, or falls below it. -/
def State.coreWarn (s : State) (on : Bool) : State := if on then s.raiseLocal 0x06 0x00 0 else s.clearFault 0x06 0x00

/-- An independent device-level fault meets a running recovery of no higher class: the recovery is abandoned (R593). -/
def State.meetFault (s : State) (code src : Nat) : State :=
  match s.fault.recov with
  | none => s
  | some r => if faultClass r.code ≤ faultClass code ∧ faultContained code = false then s.raiseDevice code src false else s

/-- The running recovery ends, where its response is in force, and the next queued fault begins its own, or is skipped (R594).
(Log entry 76: DEDUCED.) -/
def State.queuedRecovery (s : State) : State :=
  if s.fault.quenching then s
  else match s.fault.recov with
    | some _ => s.endRecovery
    | none => s.nextRecovery s.fault.queue.length

/-- Single-bit errors and uncorrectable errors that a pass of the scrubber finds (R147 to R149). -/
def State.scrub (s : State) (ce : Nat) (ue : List (Nat × Bool)) : State :=
  let s := (List.range ce).foldl (fun (s : State) _ => s.stockCe) s
  ue.foldl (fun (s : State) (x : Nat × Bool) => s.stockUe x.1 x.2) s

/-- The other memory errors that a pass reports: the ledger's (R154), the fault record's, which the next boundary's check finds (R596), and
one in the running Tongs, which takes them to protected fallback at once (R424). (Log entry 65: DESIGN CHOICE.) -/
def State.memoryErrors (s : State) (e : ScrubErrors) : State :=
  let s := if e.faults then { s with fault := { s.fault with logicBad := true } } else s
  let s := s.scrubLedger e.record e.counter
  if s.tongsOn && (e.tongs == 3 || e.tongs == 4) then s.tongsFallback e.tongs else s

/-! ### The image loader (R581 to R583) -/

/-- The loader ends its checks. In the load of step 6 of R643 the boot ROM stops and restarts the Tongs around a TONGS section.
(Log entry 9: DESIGN CHOICE.) -/
def State.imageChecked (s : State) (g : Image) : State :=
  let around := s.img.boot && s.en pgTongs && g.sections.any (fun x => x.kind == 7)
  if around then ((s.setEn pgTongs false).imageVerified g).setEn pgTongs true else s.imageVerified g

/-- The next register-list weld is opened, written and committed for the next boundary, once the one before it has applied (R583).
(Log entry 40: DEDUCED.) -/
def State.imageList (s : State) : State :=
  if s.awake && s.f Regs.IMG_STAT 24 4 == 2 && s.listApplied then
    match s.img.lists with
    | [] => s
    | (sec, l) :: t =>
      match s.openSelected .loader with
      | (none, s) => s
      | (some n, s) =>
        let s := (s.writeList .loader l).commitSerial n 0 false none
        { s with img := { s.img with lists := t, weld := some (n, sec) } }
  else s

/-- The load is complete: every list has applied (R582). -/
def State.imageFinish (s : State) : State :=
  if s.f Regs.IMG_STAT 24 4 == 2 && s.img.lists.isEmpty && s.listApplied then s.imageDone else s

/-! ### Events at the pins -/

/-- An edge at `tick` on pin GP`pin` in WARM or FORGING: every capture channel that watches it captures (R112), and every converter whose
injected sequence it triggers takes the trigger (R489). -/
def State.captureEdge (s : State) (pin : Nat) (rising : Bool) (tick : Nat) : State :=
  if s.up then
    [0, 1].foldl (fun (s : State) (n : Nat) => if s.injPin n pin rising then s.auxTrigger n else s) ((s.reach tick).capturePins pin rising tick)
  else s

/-- The event of wake source `i` (R84): a start condition on TWT, the wake detector in EMBER, an edge on GP0 to GP3, which needs VIO
(R615) and the polarity that GP_POL chooses, or one of the others. -/
def State.wakeEvent (s : State) (i : Nat) (rising : Bool) : State :=
  if i = 5 then s.twtStart
  else if i = 4 then s.detect
  else if i < 4 ∧ (s.power.vioLost ∨ s.b Regs.PWR_WAKE_EN (16 + i) ≠ rising) then s
  else s.wakeSource i

/-- VIO falls below 1.2 V, or is back in range (R615). -/
def State.vio (s : State) (lost : Bool) : State := { s with power := { s.power with vioLost := lost } }

/-- A conversion of an on-chip channel. (Log entry 8: DESIGN CHOICE.) -/
def State.onChip (s : State) : OnChip → State
  | .line n tick l r ovl => if s.audioOn pgLin then s.lineSample n tick l r ovl else s
  | .hq k tick v lp => if s.audioOn pgMic then s.micHq k tick v lp else s
  | .lp k tick v => if s.listening || s.audioOn pgMic then s.micLp k tick v else s

/-- The key value held over the debounce time becomes KEY.STATE, and the default route acts on it (R497, R640). -/
def State.keyRow (s : State) : State := if s.keyDue then s.keyTake.keyAction (s.aux 0).key else s

/-- VARR has settled at a bench's raised rate: at the first boundary after it the rate takes effect (R303), and outside FORGING at the next
entry (R304). (Log entry 26: DEDUCED.) -/
def State.varrSettled (s : State) (n : Nat) : State :=
  match s.varrAt.find n with
  | none => s
  | some t => if s.forging then (s.reach (s.boundaryTick (s.strokeFrom t))).benchBoundary n else { s.reach t with varrAt := s.varrAt.del n }

/-- A consumer that is not an anvil releases the billet it holds (R137). -/
def State.consumerRelease (s : State) (b : Nat) : State :=
  match s.own b with
  | some o => if o.loc = .consumer then s.release b else s
  | none => s

/-! ### The pair -/

/-- The partner has answered a DETACH (R565): it need not be sent again. (Log entry 74: DEDUCED.) -/
def State.detachAcked (s : State) : State :=
  { s with pair := { s.pair with out := s.pair.out.filter fun x => !(x.msg.cls == 3 && x.msg.ty == 7) } }

/-- A superframe arrives; a follower that has acquired measures its error `e` against every valid one (R128, R539). -/
def State.superframe (s : State) (f : Superframe) (e : Int) : State :=
  let valid := s.superframeValid f
  let s := s.superframeReceive f
  if valid && s.actingFollow && s.pr != prDetached && s.b Regs.TB_SYNC 0 then s.followMeasure e else s

end Sys2Proof.Machine
end

