-- ==== Sys2Proof/WellFormed.lean ====
section
/-!
DEFINITION. Which commands are well formed: every operand that names a unit, a word, an identifier or a coded value lies in its range.
-/

namespace Sys2Proof

/-- `n` lies below `k`. -/
def below (k n : Nat) : Bool := decide (n < k)

/-- The master exists: there are 64 anvils. -/
def Master.ok : Master → Bool
  | .anvil n => below 64 n
  | _ => true

/-- A page of the control space (R35). -/
def isPage (p : Nat) : Bool := below 256 p

/-- A word of the control space: a page and a byte offset that is a multiple of 4 (R35). -/
def wordAt (p off : Nat) : Bool := below 256 p && below 1024 off && off % 4 == 0

/-- The page of a conditioning or finishing chain (R40). -/
def chainPage (p : Nat) : Bool := decide (0x30 ≤ p) && below 0x59 p

/-- The fault codes of the conditions that hold a die's channels (R391). -/
def dieCode (c : Nat) : Bool := c == 0x25 || c == 0x26 || c == 0x27

/-- The END codes of a ring test that could not finish (R440). -/
def ringCode (c : Nat) : Bool := decide (2 ≤ c) && below 7 c

/-- The sample names a channel that exists. -/
def OnChip.ok : OnChip → Bool
  | .line n _ _ _ _ => below 2 n
  | .hq k _ _ _ => below 16 k
  | .lp k _ _ => below 16 k

/-- The operands name units, words and values that exist: a command that fails this names nothing, and the machine ignores it.
(Log entry 3: DESIGN CHOICE.) -/
def Instr.wf : Instr → Bool
  | .tbTick => true
  | .tbBroadcast _ => true
  | .slowClockEdge => true
  | .strokeBoundary => true
  | .strokeDeadline => true
  | .registerWrite m p off _ => m.ok && wordAt p off
  | .wideLoRead m p off => m.ok && wordAt p off
  | .srst m p => m.ok && isPage p
  | .softResetDone p => isPage p
  | .pageEnable m p _ => m.ok && isPage p
  | .pgFreeze m p _ => m.ok && isPage p
  | .irqPendClear m p _ => m.ok && isPage p
  | .irqForce m p _ => m.ok && isPage p
  | .pgAccessWrite m p _ => m.ok && isPage p
  | .pgLockWrite m p _ => m.ok && isPage p
  | .clockDomainStart d => below 210 d
  | .clockDomainStop d => below 210 d
  | .porRelease defStrap role addr => below 8 defStrap && below 4 role && below 4 addr
  | .vaonReset _ => true
  | .sysReset m _ => m.ok
  | .bootSequence fast _ => below 4 fast
  | .pwrModeRequest m req => m.ok && below 8 req
  | .pllaLock => true
  | .forgingEntry => true
  | .forgingExit => true
  | .sleepEntry => true
  | .wakeEvent e => below 10 e.source
  | .pwrAlarm => true
  | .fastClockLoss => true
  | .slowClockFail => true
  | .hearthRateWrite m _ => m.ok
  | .clkSrcWrite m _ => m.ok
  | .pllbLockSet _ => true
  | .pllbLockClear => true
  | .pllbHoldover => true
  | .vaonWarningFall => true
  | .braceEnd => true
  | .vsysUndervoltage => true
  | .vsysUvTimeout => true
  | .captureEdge pin _ tick => below 16 pin && below (2 ^ 64) tick
  | .capHiRead m n => m.ok && below 4 n
  | .schedArm m => m.ok
  | .schedCancel m index => m.ok && below 4096 index
  | .schedFire => true
  | .schedAccept => true
  | .portStart m index _ => m.ok && below 4096 index
  | .portStop m index _ => m.ok && below 4096 index
  | .stageStart m index _ => m.ok && below 4096 index
  | .stageMute m index _ => m.ok && below 4096 index
  | .stageUnmute m index _ => m.ok && below 4096 index
  | .actionWeldCommit m index _ => m.ok && below 4096 index
  | .auxInj m index _ => m.ok && below 4096 index
  | .gpioSet m index _ => m.ok && below 4096 index
  | .gpioClr m index _ => m.ok && below 4096 index
  | .actionIrq m index _ => m.ok && below 4096 index
  | .actionTest m index _ => m.ok && below 4096 index
  | .tbAcquire stamp => below (2 ^ 64) stamp
  | .followerLockSet => true
  | .creditGrant q => below 1024 q.id
  | .billetPut q b _ _ _ _ _ _ => below 1024 q && below 65536 b
  | .billetTake q => below 1024 q
  | .billetRelease b => below 65536 b.id
  | .queueDescriptorWrite m _ => m.ok
  | .stockCe => true
  | .stockUe b _ => below 65536 b
  | .scrubPass _ ue => ue.billets.all (fun x => below 65536 x.1) && [0, 3, 4].contains ue.tongs
  | .stockSrst m => m.ok
  | .stockRebuildDone bad => bad.all (below 65536)
  | .auditNow m => m.ok
  | .weldOpen m => m.ok
  | .weldSelect m id => m.ok && below 16 id
  | .weldStageWrite m p off _ => m.ok && wordAt p off
  | .weldCommit m _ => m.ok
  | .weldAbort m id => m.ok && below 16 id
  | .weldUndo m id => m.ok && below 16 id
  | .reheatWindowEnd => true
  | .cmdqEnqueue m p off _ => m.ok && wordAt p off
  | .startTx m n => m.ok && below 6 n
  | .startRx m n => m.ok && below 6 n
  | .stopTx m n => m.ok && below 6 n
  | .stopRx m n => m.ok && below 6 n
  | .sapRxFrame n _ _ _ => below 6 n
  | .sapStall n _ => below 6 n
  | .sapTxFrame n _ _ _ => below 6 n
  | .slotResume n slot => below 6 n && below 16 slot
  | .spdifStart m => m.ok
  | .spdifStop m => m.ok
  | .spdifFrame _ _ _ _ _ => true
  | .spdifLock rate => below 16 rate
  | .spdifStall => true
  | .bypassPlace q => below 1024 q
  | .onchipCaptureSample x => x.ok
  | .asrcEnable m n => m.ok && below 12 n
  | .asrcInputBillet n c _ _ => below 12 n && below 2 c
  | .asrcGridSample n => below 12 n
  | .patchEntryWrite m _ _ => m.ok
  | .patchInval m _ => m.ok
  | .patchCopy m => m.ok
  | .patchCopyDone => true
  | .incComputeStroke n => below 24 n
  | .finComputeStroke n => below 17 n
  | .mixNodeCompute n => below 64 n
  | .meterClear m p => m.ok && chainPage p
  | .go m n => m.ok && below 64 n
  | .halt m n => m.ok && below 64 n
  | .step m n => m.ok && below 64 n
  | .anvilHalted n => below 64 n
  | .anvilStopReset m n _ => m.ok && below 64 n
  | .mdataAccess m n _ _ => m.ok && below 64 n
  | .benchRateWrite m n rate => m.ok && below 8 n && below 4 rate
  | .varrSettled n => below 8 n
  | .done n => below 64 n
  | .btake n _ _ _ => below 64 n
  | .bgrant n _ _ => below 64 n
  | .bput n _ _ => below 64 n
  | .brel n _ => below 64 n
  | .brd n _ _ _ => below 64 n
  | .bwr n _ _ _ => below 64 n
  | .billetOpComplete n h => below 64 n && below 8 h
  | .billetCopyDone n => below 64 n
  | .hwait n _ _ => below 64 n
  | .hstat n _ _ => below 64 n
  | .rwait n _ => below 64 n
  | .hget n _ _ _ => below 64 n
  | .hset n _ _ _ => below 64 n
  | .mov n _ _ _ => below 64 n
  | .add n _ _ _ _ => below 64 n
  | .sub n _ _ _ _ => below 64 n
  | .and n _ _ _ _ => below 64 n
  | .or n _ _ _ _ => below 64 n
  | .xor n _ _ _ _ => below 64 n
  | .not n _ _ _ => below 64 n
  | .neg n _ _ _ => below 64 n
  | .abs n _ _ _ => below 64 n
  | .min n _ _ _ _ => below 64 n
  | .max n _ _ _ _ => below 64 n
  | .cmp n _ _ _ => below 64 n
  | .shl n _ _ _ _ => below 64 n
  | .shr n _ _ _ _ => below 64 n
  | .asr n _ _ _ _ => below 64 n
  | .cls n _ _ _ => below 64 n
  | .movi n _ _ => below 64 n
  | .addi n _ _ => below 64 n
  | .cmpi n _ _ => below 64 n
  | .andi n _ _ => below 64 n
  | .ori n _ _ => below 64 n
  | .shli n _ _ => below 64 n
  | .asri n _ _ => below 64 n
  | .shri n _ _ => below 64 n
  | .ext n _ _ => below 64 n
  | .extw n _ _ => below 64 n
  | .aclr n _ => below 64 n
  | .aldw n _ _ => below 64 n
  | .ashi n _ _ _ => below 64 n
  | .ashx n _ _ => below 64 n
  | .aadd n _ _ => below 64 n
  | .asub n _ _ => below 64 n
  | .amov n _ _ => below 64 n
  | .aneg n _ _ => below 64 n
  | .aabs n _ _ => below 64 n
  | .ld n _ _ _ _ _ => below 64 n
  | .ldw n _ _ _ _ _ => below 64 n
  | .ldn n _ _ _ _ _ => below 64 n
  | .lda n _ _ _ _ _ => below 64 n
  | .st n _ _ _ _ _ => below 64 n
  | .stw n _ _ _ _ _ => below 64 n
  | .std n _ _ _ _ _ => below 64 n
  | .ste n _ _ _ _ _ => below 64 n
  | .norm n _ _ _ _ => below 64 n
  | .normr n _ => below 64 n
  | .pset n _ _ => below 64 n
  | .padd n _ _ => below 64 n
  | .mvc n _ _ _ => below 64 n
  | .mvf n _ _ _ => below 64 n
  | .mpy n _ _ _ _ _ _ _ _ _ _ _ _ => below 64 n
  | .mac n _ _ _ _ _ _ _ _ _ _ _ _ => below 64 n
  | .msu n _ _ _ _ _ _ _ _ _ _ _ _ => below 64 n
  | .br n _ _ => below 64 n
  | .jmp n _ _ => below 64 n
  | .call n _ _ => below 64 n
  | .ret n _ => below 64 n
  | .loop n _ _ _ _ => below 64 n
  | .loopExit n => below 64 n
  | .div n _ _ _ => below 64 n
  | .sqrt n _ _ => below 64 n
  | .rsqrt n _ _ => below 64 n
  | .log2 n _ _ => below 64 n
  | .exp2 n _ _ => below 64 n
  | .mul32 n _ _ _ => below 64 n
  | .coprocResult n => below 64 n
  | .crd n _ _ => below 64 n
  | .cwr n _ _ => below 64 n
  | .nop n => below 64 n
  | .rte n => below 64 n
  | .brk n => below 64 n
  | .exceptionEntry n => below 64 n
  | .breakpointMatch n => below 64 n
  | .dbgRdataAccess m _ _ => m.ok
  | .stageCmdStart m c => m.ok && below 16 c
  | .stageCmdStop m c => m.ok && below 16 c
  | .stageCmdClear m c => m.ok && below 16 c
  | .stageDisable m c => m.ok && below 16 c
  | .inrushEnd c _ _ _ => below 16 c
  | .settleEnd c => below 16 c
  | .stopDischargeEnd c => below 16 c
  | .stageTrip c => below 16 c
  | .retryTimer c => below 16 c
  | .retryCountReset c => below 16 c
  | .xstFaultInput x => below 8 x
  | .xstFaultRelease x => below 8 x
  | .pvddUndervoltage _ => true
  | .pvddOvervoltage _ => true
  | .dieShutdown _ => true
  | .dieConditionEnd _ code => dieCode code
  | .dieOtw _ => true
  | .dieLinkLoss _ => true
  | .pvddLow _ => true
  | .pvddRecovered _ => true
  | .pauseTimeout c => below 16 c
  | .trackerUpdate => true
  | .trackerMessageDone _ => true
  | .senseBilletBegin conv _ _ => below 32 conv
  | .tongsStart m => m.ok
  | .tongsDeadline => true
  | .diagRun m channels => m.ok && below 65536 channels
  | .diagDisable m => m.ok
  | .ringTestOvercurrent c => below 16 c
  | .ringAbort c code => below 16 c && ringCode code
  | .micPathEnable m k _ _ => m.ok && below 16 k
  | .biasOc n => below 2 n
  | .wakeDetectorWindow _ => true
  | .wakeFire m score => m.ok && below 256 score
  | .acousticWake => true
  | .historyDrainBillet => true
  | .privacyMuteAssert => true
  | .privacyMuteRelease => true
  | .muteLedCheck _ _ => true
  | .linStart m => m.ok
  | .linStop m => m.ok
  | .linDisable m _ => m.ok
  | .hpoStart m => m.ok
  | .hpoStop m => m.ok
  | .hpoRailsReady => true
  | .hpoClampRelease => true
  | .hpoStopped => true
  | .hpoSc => true
  | .hpoDisable m => m.ok
  | .jackChange _ _ => true
  | .auxStart m n => m.ok && below 2 n
  | .auxStop m n => m.ok && below 2 n
  | .refEnWrite m n _ => m.ok && below 2 n
  | .refRdy n => below 2 n
  | .auxScanStart n => below 2 n
  | .auxInjTrigger n => below 2 n
  | .auxConversion n code _ => below 2 n && below 4096 code
  | .plausAction code0 _ code1 _ => below 4096 code0 && below 4096 code1
  | .key => true
  | .setPtr _ => true
  | .writeWord _ => true
  | .writeBlock count _ => below 256 count
  | .readWord => true
  | .readBlock sent => below 64 sent
  | .weldOp => true
  | .status => true
  | .notifyCfg => true
  | .pecErr => true
  | .twtStartCondition => true
  | .twtTimeout _ => true
  | .notifySend res => below 3 res
  | .twcStart m n data => m.ok && below 3 n && below 256 data
  | .twcWrite m n _ data => m.ok && below 3 n && below 256 data
  | .twcRead m n _ _ => m.ok && below 3 n
  | .twcStop m n => m.ok && below 3 n
  | .twcOperationDone n res byte _ => below 3 n && below 4 res && below 256 byte
  | .twcRxdRead m n => m.ok && below 3 n
  | .twcAbandoned n => below 3 n
  | .twcTimeout => true
  | .write addr _ _ => below (2 ^ 24) addr
  | .read addr _ => below (2 ^ 24) addr
  | .qwrite addr _ _ => below (2 ^ 24) addr
  | .qread addr _ => below (2 ^ 24) addr
  | .swrite addr _ _ => below (2 ^ 24) addr
  | .sread addr _ => below (2 ^ 24) addr
  | .qswrite addr _ _ => below (2 ^ 24) addr
  | .qsread addr _ => below (2 ^ 24) addr
  | .spitStatus => true
  | .qspiXfer m _ _ => m.ok
  | .linkTrain => true
  | .ping _ => true
  | .linkUp => true
  | .linkLossOfLock => true
  | .superframeSend => true
  | .superframeReceive _ _ => true
  | .superframeMiss => true
  | .prepare seq _ id => below 65536 seq && below 16 id
  | .vote seq _ => below 65536 seq
  | .abort seq => below 65536 seq
  | .regRead seq addr => below 65536 seq && below (2 ^ 18) addr
  | .regWrite seq addr _ => below 65536 seq && below (2 ^ 18) addr
  | .result seq code _ => below 65536 seq && below 256 code
  | .train d => below 256 d
  | .hello _ identity _ _ => below (2 ^ 64) identity
  | .proof identity _ => below (2 ^ 64) identity
  | .accept epoch _ => below 65536 epoch
  | .refuse reason => below 16 reason
  | .adoptEnd digest => below (2 ^ 64) digest
  | .adoptionWeld => true
  | .detachMessage seq _ => below 65536 seq
  | .detachAck => true
  | .attach m _ => m.ok
  | .detach m => m.ok
  | .attachTimeout => true
  | .mirrorStale => true
  | .rcmd m _ addr => m.ok && below (2 ^ 18) addr
  | .authNew m => m.ok
  | .authEnd m => m.ok
  | .authOwnerSession m => m.ok
  | .authTestVendor m => m.ok
  | .authTestConsent m => m.ok
  | .authCheckDone m _ => m.ok
  | .lcToOwned m => m.ok
  | .lcToField m => m.ok
  | .lcToReturned m => m.ok
  | .otpProg m _ => m.ok
  | .otpProgDone _ => true
  | .rbAdvance m v => m.ok && below 64 v
  | .imgLoad m => m.ok
  | .imgVerifyDone _ => true
  | .imgReglistWeld => true
  | .imgLoadDone => true
  | .faultClear m code src => m.ok && below 256 code && below 256 src
  | .quench => true
  | .quenchComplete => true
  | .coincident code src => below 256 code && below 256 src
  | .queuedRecoveryStart => true
  | .coreOtw => true
  | .coreOts => true
  | .loopGo m iface inst depth => m.ok && below 256 iface && below 16 inst && below 4 depth
  | .loopStop m => m.ok
  | .loopLock => true
  | .noLock => true
  | .loopAbort => true
  | .injEnable m => m.ok
  | .injLedger m => m.ok
  | .injStockCe m => m.ok
  | .injStockUe m => m.ok
  | .injTongsMis m => m.ok
  | .injStrike m => m.ok
  | .extest => true
  | .samplePreload _ => true
  | .idcode => true
  | .highz => true
  | .bypass => true
  | .auth => true
  | .ctrl => true
  | .jtagAccess _ addr _ => below (2 ^ 18) addr
  | .keyRepeat => true
  | .sourceChangeStep => true
  | .drouteRelease m => m.ok
  | .vsysUvRecovery => true
  | .fastSourceRestored => true
  | .dieLinkRelock _ => true
  | .coreOtwEnd => true
  | .dieOtwEnd _ => true
  | .mbiasOcEnd n => below 2 n
  | .vioLoss => true
  | .vioReturn => true
  | .qspiXferDone _ => true

end Sys2Proof
end

