-- ==== Sys2Proof/Machine/Rows.lean ====
section
/-!
DEFINITION. What every command shares: the conditions under which it reaches the device, the register accesses that most commands are,
and its end. The commands themselves are in the `…Rows` files, one definition each.
-/

namespace Sys2Proof.Machine

/-! ### The end of a command -/

/-- The state a command leaves: what follows it at once has happened, the stores of registers and of billets are in their canonical form,
and the waiting commands are those that waited before. (Log entry 12: DEDUCED.) -/
def State.commit (t s : State) : State :=
  { t with
    pending := s.pending
    words := Sparse.canon resetWord t.words
    stock := { t.stock with mem := Sparse.canon (fun _ => {}) t.stock.mem } }

/-- A command whose effect is `act`; with `ok` false it reaches nothing and changes nothing.
(Log entries 3: DESIGN CHOICE, 11: DESIGN CHOICE.) -/
def State.row (s : State) (ok : Bool) (act : State → State) : Host.Outcome State Fault Refusal :=
  if ok then .next (((act s).settle s).commit s) else .next s

/-! ### What a command reaches -/

/-- The device is out of COLD. -/
def State.powered (s : State) : Bool := !s.power.cold

/-- The fabric serves master `m` on page `p`: in WARM and FORGING, the ports while VIO stands and SPIT while it is enabled, the partner
while the link is up; in EMBER, TWT on the PWR page and ANV63 (R50, R453, R511, R521, R536, R615). -/
def State.reaches (s : State) (m : Master) (p : Nat) : Bool :=
  match m with
  | .twt => !s.power.vioLost && (s.awake || (s.inEmber && p == 0x02))
  | .spit => s.spitServes
  | .vhk => s.awake && s.link == 2
  | .anvil n => s.awake || (s.inEmber && n == 63)
  | _ => s.awake

/-- Anvil `n` has its power: in WARM and FORGING, and ANV63 in EMBER (R72). -/
def State.anvPowered (s : State) (n : Nat) : Bool := s.awake || (s.inEmber && n == 63)

/-- The link is up and a message reaches the device; one of class WELD or REG only once the link is secure (R540, R544). -/
def State.linked (s : State) (secure : Bool) : Bool := s.awake && s.link == 2 && (!secure || s.pair.secure)

/-! ### Register accesses by key -/

/-- Master `m` writes the register at word `k` of the control space. (Log entry 31: DESIGN CHOICE.) -/
def State.writeKey (s : State) (m : Master) (k : Nat) (v : Word) : State := s.ctlWrite m (k / 256) (k % 256 * 4) v

/-- Master `m` reads it. -/
def State.readKey (s : State) (m : Master) (k : Nat) : State := s.ctlRead m (k / 256) (k % 256 * 4)

/-- Master `m` writes PG_CTRL of page `p` with the bits of `on` set and those of `off` cleared, the others as they stand. -/
def State.pgWrite (s : State) (m : Master) (p : Nat) (on off : Word) : State :=
  s.writeKey m (Regs.PG_CTRL p) ((s.w (Regs.PG_CTRL p) &&& ~~~off) ||| on)

/-- Master `m` writes its own weld selector (R158). -/
def State.selectWeld (s : State) (m : Master) (id : Nat) : State :=
  match selReg m with
  | some k => s.writeKey m k (Word.of id)
  | none => s

/-- MIC.CFGk with the paths named enabled, the rest as it stands. -/
def State.micEnableWord (s : State) (k : Nat) (hq lp : Bool) : Word :=
  s.w (Regs.MIC_CFG k) ||| Word.of (b2n hq * 2 ^ 31 + b2n lp * 2 ^ 30)

end Sys2Proof.Machine
end

