-- ==== Sys2Proof/Machine/AnvilAccRows.lean ====
section
/-!
DEFINITION. Anvil instructions on accumulators and lanes (chapter 11).
-/

namespace Sys2Proof.Machine

/-- EXT extracts 16 bits from an accumulator with rounding and saturation (R333). -/
def execExt (n d src : Nat) (s : State) : Host.Outcome State Fault Refusal :=
  s.row (below 64 n && s.anvPowered n) fun s => s.anvRow n (.acc 0 d 0 src 0)

/-- EXTW extracts 32 bits from an accumulator with saturation (R333). -/
def execExtw (n d src : Nat) (s : State) : Host.Outcome State Fault Refusal :=
  s.row (below 64 n && s.anvPowered n) fun s => s.anvRow n (.acc 1 d 0 src 0)

/-- ACLR clears an accumulator (R334). -/
def execAclr (n ad : Nat) (s : State) : Host.Outcome State Fault Refusal :=
  s.row (below 64 n && s.anvPowered n) fun s => s.anvRow n (.acc 2 0 ad 0 0)

/-- ALDW loads an accumulator from a pair (R334). -/
def execAldw (n ad d : Nat) (s : State) : Host.Outcome State Fault Refusal :=
  s.row (below 64 n && s.anvPowered n) fun s => s.anvRow n (.acc 3 d ad 0 0)

/-- ASHI shifts an accumulator by an immediate (R334). -/
def execAshi (n ad src v : Nat) (s : State) : Host.Outcome State Fault Refusal :=
  s.row (below 64 n && s.anvPowered n) fun s => s.anvRow n (.acc 4 0 ad src v)

/-- ASHX shifts an accumulator right by sx under BFP (R334). -/
def execAshx (n ad src : Nat) (s : State) : Host.Outcome State Fault Refusal :=
  s.row (below 64 n && s.anvPowered n) fun s => s.anvRow n (.acc 5 0 ad src 0)

/-- AADD adds accumulators (R334). -/
def execAadd (n ad src : Nat) (s : State) : Host.Outcome State Fault Refusal :=
  s.row (below 64 n && s.anvPowered n) fun s => s.anvRow n (.acc 6 0 ad src 0)

/-- ASUB subtracts accumulators (R334). -/
def execAsub (n ad src : Nat) (s : State) : Host.Outcome State Fault Refusal :=
  s.row (below 64 n && s.anvPowered n) fun s => s.anvRow n (.acc 7 0 ad src 0)

/-- AMOV copies an accumulator (R334). -/
def execAmov (n ad src : Nat) (s : State) : Host.Outcome State Fault Refusal :=
  s.row (below 64 n && s.anvPowered n) fun s => s.anvRow n (.acc 8 0 ad src 0)

/-- ANEG negates an accumulator (R334). -/
def execAneg (n ad src : Nat) (s : State) : Host.Outcome State Fault Refusal :=
  s.row (below 64 n && s.anvPowered n) fun s => s.anvRow n (.acc 9 0 ad src 0)

/-- AABS takes an accumulator's magnitude (R334). -/
def execAabs (n ad src : Nat) (s : State) : Host.Outcome State Fault Refusal :=
  s.row (below 64 n && s.anvPowered n) fun s => s.anvRow n (.acc 10 0 ad src 0)

/-- MPY writes a lane product to an accumulator, with optional operand loads (R331). -/
def execMpy (n acc x y sgn : Nat) (sh lx : Bool) (px mx : Nat) (ly : Bool) (py my width : Nat)
    (s : State) : Host.Outcome State Fault Refusal :=
  s.row (below 64 n && s.anvPowered n) fun s => s.anvRow n (.lane 0 acc x y sgn sh lx px mx ly py my width)

/-- MAC adds a lane product to an accumulator (R331). -/
def execMac (n acc x y sgn : Nat) (sh lx : Bool) (px mx : Nat) (ly : Bool) (py my width : Nat)
    (s : State) : Host.Outcome State Fault Refusal :=
  s.row (below 64 n && s.anvPowered n) fun s => s.anvRow n (.lane 1 acc x y sgn sh lx px mx ly py my width)

/-- MSU subtracts a lane product from an accumulator (R331). -/
def execMsu (n acc x y sgn : Nat) (sh lx : Bool) (px mx : Nat) (ly : Bool) (py my width : Nat)
    (s : State) : Host.Outcome State Fault Refusal :=
  s.row (below 64 n && s.anvPowered n) fun s => s.anvRow n (.lane 2 acc x y sgn sh lx px mx ly py my width)

end Sys2Proof.Machine
end

