-- ==== Sys2Proof/Machine/AnvilAluRows.lean ====
section
/-!
DEFINITION. Anvil instructions on data registers (chapter 11).
-/

namespace Sys2Proof.Machine

/-- MOV copies a register (R323). -/
def execMov (n d a : Nat) (w : Bool) (s : State) : Host.Outcome State Fault Refusal :=
  s.row (below 64 n && s.anvPowered n) fun s => s.anvRow n (.alu 0x0 d a 0 w)

/-- ADD adds with overflow handling and flags (R324). -/
def execAdd (n d a b : Nat) (w : Bool) (s : State) : Host.Outcome State Fault Refusal :=
  s.row (below 64 n && s.anvPowered n) fun s => s.anvRow n (.alu 0x1 d a b w)

/-- SUB subtracts with overflow handling and flags (R324). -/
def execSub (n d a b : Nat) (w : Bool) (s : State) : Host.Outcome State Fault Refusal :=
  s.row (below 64 n && s.anvPowered n) fun s => s.anvRow n (.alu 0x2 d a b w)

/-- AND performs a bitwise and (R323). -/
def execAnd (n d a b : Nat) (w : Bool) (s : State) : Host.Outcome State Fault Refusal :=
  s.row (below 64 n && s.anvPowered n) fun s => s.anvRow n (.alu 0x3 d a b w)

/-- OR performs a bitwise or (R323). -/
def execOr (n d a b : Nat) (w : Bool) (s : State) : Host.Outcome State Fault Refusal :=
  s.row (below 64 n && s.anvPowered n) fun s => s.anvRow n (.alu 0x4 d a b w)

/-- XOR performs a bitwise exclusive or (R323). -/
def execXor (n d a b : Nat) (w : Bool) (s : State) : Host.Outcome State Fault Refusal :=
  s.row (below 64 n && s.anvPowered n) fun s => s.anvRow n (.alu 0x5 d a b w)

/-- NOT inverts a register (R323). -/
def execNot (n d a : Nat) (w : Bool) (s : State) : Host.Outcome State Fault Refusal :=
  s.row (below 64 n && s.anvPowered n) fun s => s.anvRow n (.alu 0x6 d a 0 w)

/-- NEG negates with overflow handling (R324). -/
def execNeg (n d a : Nat) (w : Bool) (s : State) : Host.Outcome State Fault Refusal :=
  s.row (below 64 n && s.anvPowered n) fun s => s.anvRow n (.alu 0x7 d a 0 w)

/-- ABS takes the magnitude with overflow handling (R324). -/
def execAbs (n d a : Nat) (w : Bool) (s : State) : Host.Outcome State Fault Refusal :=
  s.row (below 64 n && s.anvPowered n) fun s => s.anvRow n (.alu 0x8 d a 0 w)

/-- MIN writes the signed minimum (R323). -/
def execMin (n d a b : Nat) (w : Bool) (s : State) : Host.Outcome State Fault Refusal :=
  s.row (below 64 n && s.anvPowered n) fun s => s.anvRow n (.alu 0x9 d a b w)

/-- MAX writes the signed maximum (R323). -/
def execMax (n d a b : Nat) (w : Bool) (s : State) : Host.Outcome State Fault Refusal :=
  s.row (below 64 n && s.anvPowered n) fun s => s.anvRow n (.alu 0xA d a b w)

/-- CMP compares two registers and sets flags (R324). -/
def execCmp (n a b : Nat) (w : Bool) (s : State) : Host.Outcome State Fault Refusal :=
  s.row (below 64 n && s.anvPowered n) fun s => s.anvRow n (.alu 0xB 0 a b w)

/-- SHL shifts logically left (R323). -/
def execShl (n d a b : Nat) (w : Bool) (s : State) : Host.Outcome State Fault Refusal :=
  s.row (below 64 n && s.anvPowered n) fun s => s.anvRow n (.alu 0xC d a b w)

/-- SHR shifts logically right (R323). -/
def execShr (n d a b : Nat) (w : Bool) (s : State) : Host.Outcome State Fault Refusal :=
  s.row (below 64 n && s.anvPowered n) fun s => s.anvRow n (.alu 0xD d a b w)

/-- ASR shifts arithmetically right (R323). -/
def execAsr (n d a b : Nat) (w : Bool) (s : State) : Host.Outcome State Fault Refusal :=
  s.row (below 64 n && s.anvPowered n) fun s => s.anvRow n (.alu 0xE d a b w)

/-- CLS writes the headroom of a value (R337). -/
def execCls (n d a : Nat) (w : Bool) (s : State) : Host.Outcome State Fault Refusal :=
  s.row (below 64 n && s.anvPowered n) fun s => s.anvRow n (.alu 0xF d a 0 w)

/-- MOVI loads an immediate (R325). -/
def execMovi (n d v : Nat) (s : State) : Host.Outcome State Fault Refusal :=
  s.row (below 64 n && s.anvPowered n) fun s => s.anvRow n (.imm 0 d v)

/-- ADDI adds an immediate (R325). -/
def execAddi (n d v : Nat) (s : State) : Host.Outcome State Fault Refusal :=
  s.row (below 64 n && s.anvPowered n) fun s => s.anvRow n (.imm 1 d v)

/-- CMPI compares with an immediate (R325). -/
def execCmpi (n d v : Nat) (s : State) : Host.Outcome State Fault Refusal :=
  s.row (below 64 n && s.anvPowered n) fun s => s.anvRow n (.imm 2 d v)

/-- ANDI ands with an immediate (R325). -/
def execAndi (n d v : Nat) (s : State) : Host.Outcome State Fault Refusal :=
  s.row (below 64 n && s.anvPowered n) fun s => s.anvRow n (.imm 3 d v)

/-- ORI ors with an immediate (R325). -/
def execOri (n d v : Nat) (s : State) : Host.Outcome State Fault Refusal :=
  s.row (below 64 n && s.anvPowered n) fun s => s.anvRow n (.imm 4 d v)

/-- SHLI shifts left by an immediate (R325). -/
def execShli (n d v : Nat) (s : State) : Host.Outcome State Fault Refusal :=
  s.row (below 64 n && s.anvPowered n) fun s => s.anvRow n (.imm 5 d v)

/-- ASRI shifts arithmetically right by an immediate (R325). -/
def execAsri (n d v : Nat) (s : State) : Host.Outcome State Fault Refusal :=
  s.row (below 64 n && s.anvPowered n) fun s => s.anvRow n (.imm 6 d v)

/-- SHRI shifts logically right by an immediate (R325). -/
def execShri (n d v : Nat) (s : State) : Host.Outcome State Fault Refusal :=
  s.row (below 64 n && s.anvPowered n) fun s => s.anvRow n (.imm 7 d v)

end Sys2Proof.Machine
end

