-- ==== Sys2Proof/Machine/AnvilBilletRows.lean ====
section
/-!
DEFINITION. Anvil instructions on billets and handles, and the ends of their operations (chapters 10 and 11).
-/

namespace Sys2Proof.Machine

/-- DONE waits for started copies and operations, frees handles and puts the anvil in WAIT (R298). -/
def execDone (n : Nat) (s : State) : Host.Outcome State Fault Refusal :=
  s.row (below 64 n && s.anvPowered n) fun s => s.anvRow n (.sys 1)

/-- BTAKE waits for a billet on an input stream and copies it and its tag into a handle (R289). -/
def execBtake (n h t p : Nat) (s : State) : Host.Outcome State Fault Refusal :=
  s.row (below 64 n && s.anvPowered n) fun s => s.anvRow n (.billet 0 h t 0 0 p)

/-- BGRANT waits for a credit on an output stream and holds the granted billet in a handle (R289). -/
def execBgrant (n h t : Nat) (s : State) : Host.Outcome State Fault Refusal :=
  s.row (below 64 n && s.anvPowered n) fun s => s.anvRow n (.billet 1 h t 0 0 0)

/-- BPUT copies data into the held billet, writes its tag and puts it on its queue (R289). -/
def execBput (n h p : Nat) (s : State) : Host.Outcome State Fault Refusal :=
  s.row (below 64 n && s.anvPowered n) fun s => s.anvRow n (.billet 2 h 0 0 0 p)

/-- BREL returns the handle's billet to FREE with its credit (R289). -/
def execBrel (n h : Nat) (s : State) : Host.Outcome State Fault Refusal :=
  s.row (below 64 n && s.anvPowered n) fun s => s.anvRow n (.billet 3 h 0 0 0 0)

/-- BRD copies a ring billet into data memory (R289). -/
def execBrd (n ring idx p : Nat) (s : State) : Host.Outcome State Fault Refusal :=
  s.row (below 64 n && s.anvPowered n) fun s => s.anvRow n (.billet 4 0 0 ring idx p)

/-- BWR copies data memory into a ring billet (R289). -/
def execBwr (n ring idx p : Nat) (s : State) : Host.Outcome State Fault Refusal :=
  s.row (below 64 n && s.anvPowered n) fun s => s.anvRow n (.billet 5 0 0 ring idx p)

/-- A pending take or grant completes when a billet or credit arrives (R292). -/
def execBilletOpComplete (n h : Nat) (s : State) : Host.Outcome State Fault Refusal :=
  s.row (below 64 n && below 8 h && s.anvPowered n) fun s => s.opComplete n h

/-- A billet copy on the bench port completes and releases stalled instructions (R286). -/
def execBilletCopyDone (n : Nat) (s : State) : Host.Outcome State Fault Refusal :=
  s.row (below 64 n && s.anvPowered n) fun s => s.copyComplete n

/-- HWAIT stalls while a handle is PENDING then writes its code (R344). -/
def execHwait (n h d : Nat) (s : State) : Host.Outcome State Fault Refusal :=
  s.row (below 64 n && s.anvPowered n) fun s => s.anvRow n (.handle 0 h d false)

/-- HSTAT writes a handle's code at once (R344). -/
def execHstat (n h d : Nat) (s : State) : Host.Outcome State Fault Refusal :=
  s.row (below 64 n && s.anvPowered n) fun s => s.anvRow n (.handle 1 h d false)

/-- RWAIT stalls while any ring copy runs then writes bst (R344). -/
def execRwait (n d : Nat) (s : State) : Host.Outcome State Fault Refusal :=
  s.row (below 64 n && s.anvPowered n) fun s => s.anvRow n (.handle 2 0 d false)

/-- HGET reads half of a held billet's tag into a pair (R345). -/
def execHget (n h d : Nat) (hi : Bool) (s : State) : Host.Outcome State Fault Refusal :=
  s.row (below 64 n && s.anvPowered n) fun s => s.anvRow n (.handle 3 h d hi)

/-- HSET writes the writable fields of a held billet's tag (R345). -/
def execHset (n h d : Nat) (hi : Bool) (s : State) : Host.Outcome State Fault Refusal :=
  s.row (below 64 n && s.anvPowered n) fun s => s.anvRow n (.handle 4 h d hi)

end Sys2Proof.Machine
end

