-- ==== Sys2Proof/Machine/AnvilCtlRows.lean ====
section
/-!
DEFINITION. Commands to the anvils, the benches and the debugger (chapters 10 and 12).
-/

namespace Sys2Proof.Machine

/-- ANVnn.CTRL GO resumes a halted anvil or puts it in WAIT (R306). -/
def execGo (m : Master) (n : Nat) (s : State) : Host.Outcome State Fault Refusal :=
  s.row (m.ok && below 64 n && s.reaches m (anvPage n)) fun s => s.writeKey m (Regs.ANV_CTRL n) 1

/-- ANVnn.CTRL HALT requests the anvil to halt at the next clean instruction boundary (R306). -/
def execHalt (m : Master) (n : Nat) (s : State) : Host.Outcome State Fault Refusal :=
  s.row (m.ok && below 64 n && s.reaches m (anvPage n)) fun s => s.writeKey m (Regs.ANV_CTRL n) 2

/-- ANVnn.CTRL STEP executes one instruction from HALTED and halts again (R372). -/
def execStep (m : Master) (n : Nat) (s : State) : Host.Outcome State Fault Refusal :=
  s.row (m.ok && below 64 n && s.reaches m (anvPage n)) fun s => s.writeKey m (Regs.ANV_CTRL n) 4

/-- After issued instructions and coprocessor operations complete the anvil enters HALTED (R371). -/
def execAnvilHalted (n : Nat) (s : State) : Host.Outcome State Fault Refusal :=
  s.row (below 64 n && s.anvPowered n) fun s => s.haltDone n

/-- SRST or EN 0 on an anvil page stops it, empties its handles and resets its registers (R308). -/
def execAnvilStopReset (m : Master) (n : Nat) (srst : Bool) (s : State) : Host.Outcome State Fault Refusal :=
  s.row (m.ok && below 64 n && s.reaches m (anvPage n)) fun s => s.pgWrite m (anvPage n) (if srst then 4 else 0) (if srst then 0 else 1)

/-- An access to ANVnn.MDATA reads or writes the selected memory word and advances MSEL.WORD (R309). -/
def execMdataAccess (m : Master) (n : Nat) (wr : Bool) (v : Word) (s : State) : Host.Outcome State Fault Refusal :=
  s.row (m.ok && below 64 n && s.reaches m (anvPage n)) fun s =>
    if wr then s.writeKey m (Regs.ANV_MDATA n) v else s.readKey m (Regs.ANV_MDATA n)

/-- A write of BENCHn.CLK.RATE raises VARR at once or lowers the clock at the next boundary (R303). -/
def execBenchRateWrite (m : Master) (n rate : Nat) (s : State) : Host.Outcome State Fault Refusal :=
  s.row (m.ok && below 8 n && below 4 rate && s.reaches m (0xC0 + n)) fun s => s.writeKey m (Regs.BENCH_CLK n) (Word.of rate)

/-- At the first boundary after VARR settles a raised bench rate takes effect (R303). -/
def execVarrSettled (n : Nat) (s : State) : Host.Outcome State Fault Refusal :=
  s.row (below 8 n && s.awake) fun s => s.varrSettled n

/-- An access to DBG.RDATA reads or writes the selected register of a halted anvil (R374). -/
def execDbgRdataAccess (m : Master) (wr : Bool) (v : Word) (s : State) : Host.Outcome State Fault Refusal :=
  s.row (m.ok && s.reaches m 0x0F) fun s => if wr then s.writeKey m Regs.DBG_RDATA v else s.readKey m Regs.DBG_RDATA

end Sys2Proof.Machine
end

