-- ==== Sys2Proof/Machine/AnvilFlowRows.lean ====
section
/-!
DEFINITION. Anvil branches, loops, coprocessor and system instructions, and exceptions (chapters 11 and 12).
-/

namespace Sys2Proof.Machine

/-- BR branches by offset after its delay slot (R338). -/
def execBr (n cond target : Nat) (s : State) : Host.Outcome State Fault Refusal :=
  s.row (below 64 n && s.anvPowered n) fun s => s.anvRow n (.br cond 0 target)

/-- JMP jumps to an absolute index after its delay slot (R338). -/
def execJmp (n cond target : Nat) (s : State) : Host.Outcome State Fault Refusal :=
  s.row (below 64 n && s.anvPowered n) fun s => s.anvRow n (.br cond 1 target)

/-- CALL writes lnk and jumps after its delay slot (R338). -/
def execCall (n cond target : Nat) (s : State) : Host.Outcome State Fault Refusal :=
  s.row (below 64 n && s.anvPowered n) fun s => s.anvRow n (.br cond 2 target)

/-- RET returns to lnk after its delay slot (R338). -/
def execRet (n cond : Nat) (s : State) : Host.Outcome State Fault Refusal :=
  s.row (below 64 n && s.anvPowered n) fun s => s.anvRow n (.br cond 3 0)

/-- LOOP starts a hardware loop (R340). -/
def execLoop (n lc : Nat) (src : Bool) (stop count : Nat) (s : State) : Host.Outcome State Fault Refusal :=
  s.row (below 64 n && s.anvPowered n) fun s => s.anvRow n (.loop lc src stop count)

/-- A loop count reaching zero at its end instruction continues past the loop (R340). -/
def execLoopExit (n : Nat) (s : State) : Host.Outcome State Fault Refusal :=
  s.row (below 64 n && s.anvPowered n) fun s => s.anvLoopExit n

/-- DIV issues a division to the bench coprocessor (R346). -/
def execDiv (n d a b : Nat) (s : State) : Host.Outcome State Fault Refusal :=
  s.row (below 64 n && s.anvPowered n) fun s => s.anvRow n (.cop 0 d a b)

/-- SQRT issues a square root to the coprocessor (R346). -/
def execSqrt (n d a : Nat) (s : State) : Host.Outcome State Fault Refusal :=
  s.row (below 64 n && s.anvPowered n) fun s => s.anvRow n (.cop 1 d a 0)

/-- RSQRT issues a reciprocal square root to the coprocessor (R346). -/
def execRsqrt (n d a : Nat) (s : State) : Host.Outcome State Fault Refusal :=
  s.row (below 64 n && s.anvPowered n) fun s => s.anvRow n (.cop 2 d a 0)

/-- LOG2 issues a base-2 logarithm to the coprocessor (R346). -/
def execLog2 (n d a : Nat) (s : State) : Host.Outcome State Fault Refusal :=
  s.row (below 64 n && s.anvPowered n) fun s => s.anvRow n (.cop 3 d a 0)

/-- EXP2 issues a base-2 exponential to the coprocessor (R346). -/
def execExp2 (n d a : Nat) (s : State) : Host.Outcome State Fault Refusal :=
  s.row (below 64 n && s.anvPowered n) fun s => s.anvRow n (.cop 4 d a 0)

/-- MUL32 issues an exact 32 x 32 product to the coprocessor (R346). -/
def execMul32 (n d a b : Nat) (s : State) : Host.Outcome State Fault Refusal :=
  s.row (below 64 n && s.anvPowered n) fun s => s.anvRow n (.cop 5 d a b)

/-- A coprocessor result is written to its pair, raising COPROC in its error case (R346). -/
def execCoprocResult (n : Nat) (s : State) : Host.Outcome State Fault Refusal :=
  s.row (below 64 n && s.anvPowered n) fun s => s.copResultDone n

/-- CRD reads a control-space word after earlier writes complete (R347). -/
def execCrd (n d a : Nat) (s : State) : Host.Outcome State Fault Refusal :=
  s.row (below 64 n && s.anvPowered n) fun s => s.anvRow n (.bus false d a)

/-- CWR enters a control-space write in the two-entry buffer (R347). -/
def execCwr (n d a : Nat) (s : State) : Host.Outcome State Fault Refusal :=
  s.row (below 64 n && s.anvPowered n) fun s => s.anvRow n (.bus true d a)

/-- NOP does nothing (R348). -/
def execNop (n : Nat) (s : State) : Host.Outcome State Fault Refusal :=
  s.row (below 64 n && s.anvPowered n) fun s => s.anvRow n (.sys 0)

/-- RTE returns from an exception to epc under the saved flags (R365). -/
def execRte (n : Nat) (s : State) : Host.Outcome State Fault Refusal :=
  s.row (below 64 n && s.anvPowered n) fun s => s.anvRow n (.sys 2)

/-- BRK raises the breakpoint trap (R348). -/
def execBrk (n : Nat) (s : State) : Host.Outcome State Fault Refusal :=
  s.row (below 64 n && s.anvPowered n) fun s => s.anvRow n (.sys 3)

/-- The anvil squashes younger work, waits for older coprocessor results, saves epc and estat and vectors (R358). -/
def execExceptionEntry (n : Nat) (s : State) : Host.Outcome State Fault Refusal :=
  s.row (below 64 n && s.anvPowered n) fun s => s.anvEntry n

/-- An armed breakpoint matching at fetch halts the anvil or raises BREAK (R373). -/
def execBreakpointMatch (n : Nat) (s : State) : Host.Outcome State Fault Refusal :=
  s.row (below 64 n && s.anvPowered n) fun s => s.anvMatch n

end Sys2Proof.Machine
end

