-- ==== Sys2Proof/Machine/AnvilMemRows.lean ====
section
/-!
DEFINITION. Anvil instructions on memory, addresses and control registers (chapter 11).
-/

namespace Sys2Proof.Machine

/-- LD loads a 16-bit word (R328). -/
def execLd (n reg p am md off : Nat) (s : State) : Host.Outcome State Fault Refusal :=
  s.row (below 64 n && s.anvPowered n) fun s => s.anvRow n (.load 0 reg p am md off)

/-- LDW loads a 32-bit word into a pair (R328). -/
def execLdw (n reg p am md off : Nat) (s : State) : Host.Outcome State Fault Refusal :=
  s.row (below 64 n && s.anvPowered n) fun s => s.anvRow n (.load 1 reg p am md off)

/-- LDN performs a normalising load (R337). -/
def execLdn (n reg p am md off : Nat) (s : State) : Host.Outcome State Fault Refusal :=
  s.row (below 64 n && s.anvPowered n) fun s => s.anvRow n (.load 2 reg p am md off)

/-- LDA loads a 32-bit word into an accumulator (R328). -/
def execLda (n reg p am md off : Nat) (s : State) : Host.Outcome State Fault Refusal :=
  s.row (below 64 n && s.anvPowered n) fun s => s.anvRow n (.load 3 reg p am md off)

/-- ST stores a 16-bit word (R328). -/
def execSt (n reg p am md off : Nat) (s : State) : Host.Outcome State Fault Refusal :=
  s.row (below 64 n && s.anvPowered n) fun s => s.anvRow n (.store 0 reg p am md off)

/-- STW stores a pair (R328). -/
def execStw (n reg p am md off : Nat) (s : State) : Host.Outcome State Fault Refusal :=
  s.row (below 64 n && s.anvPowered n) fun s => s.anvRow n (.store 1 reg p am md off)

/-- STD performs a denormalising 32-bit store (R337). -/
def execStd (n reg p am md off : Nat) (s : State) : Host.Outcome State Fault Refusal :=
  s.row (below 64 n && s.anvPowered n) fun s => s.anvRow n (.store 2 reg p am md off)

/-- STE stores a 16-bit extraction of an accumulator (R328). -/
def execSte (n reg p am md off : Nat) (s : State) : Host.Outcome State Fault Refusal :=
  s.row (below 64 n && s.anvPowered n) fun s => s.anvRow n (.store 3 reg p am md off)

/-- NORM lowers sx to the headroom of a memory word (R337). -/
def execNorm (n p am md off : Nat) (s : State) : Host.Outcome State Fault Refusal :=
  s.row (below 64 n && s.anvPowered n) fun s => s.anvRow n (.norm 0 0 p am md off)

/-- NORMR lowers sx to the headroom of a pair (R337). -/
def execNormr (n reg : Nat) (s : State) : Host.Outcome State Fault Refusal :=
  s.row (below 64 n && s.anvPowered n) fun s => s.anvRow n (.norm 1 reg 0 0 0 0)

/-- PSET sets an address register (R329). -/
def execPset (n p v : Nat) (s : State) : Host.Outcome State Fault Refusal :=
  s.row (below 64 n && s.anvPowered n) fun s => s.anvRow n (.addr p 0 v)

/-- PADD adds to an address register (R329). -/
def execPadd (n p v : Nat) (s : State) : Host.Outcome State Fault Refusal :=
  s.row (below 64 n && s.anvPowered n) fun s => s.anvRow n (.addr p 1 v)

/-- MVC writes a control register (R349). -/
def execMvc (n reg : Nat) (w : Bool) (cr : Nat) (s : State) : Host.Outcome State Fault Refusal :=
  s.row (below 64 n && s.anvPowered n) fun s => s.anvRow n (.ctl true reg w cr)

/-- MVF reads a control register (R349). -/
def execMvf (n reg : Nat) (w : Bool) (cr : Nat) (s : State) : Host.Outcome State Fault Refusal :=
  s.row (below 64 n && s.anvPowered n) fun s => s.anvRow n (.ctl false reg w cr)

end Sys2Proof.Machine
end

