-- ==== Sys2Proof/Machine/AuxRows.lean ====
section
/-!
DEFINITION. Commands of the housekeeping converters (chapter 18).
-/

namespace Sys2Proof.Machine

/-- AUXn.CTRL.START checks the buffer and starts the sequences (R487). -/
def execAuxStart (m : Master) (n : Nat) (s : State) : Host.Outcome State Fault Refusal :=
  s.row (m.ok && below 2 n && s.reaches m (0x74 + n)) fun s => s.writeKey m (Regs.AUX_CTRL n) (s.w (Regs.AUX_CTRL n) ||| 2)

/-- AUXn.CTRL.STOP stops the sequences after the conversion in progress (R487). -/
def execAuxStop (m : Master) (n : Nat) (s : State) : Host.Outcome State Fault Refusal :=
  s.row (m.ok && below 2 n && s.reaches m (0x74 + n)) fun s => s.writeKey m (Regs.AUX_CTRL n) (s.w (Regs.AUX_CTRL n) ||| 4)

/-- Writing REF_EN starts or stops the reference buffer (R486). -/
def execRefEnWrite (m : Master) (n : Nat) (on : Bool) (s : State) : Host.Outcome State Fault Refusal :=
  s.row (m.ok && below 2 n && s.reaches m (0x74 + n)) fun s => s.writeKey m (Regs.AUX_CTRL n) (b2w on)

/-- REF_RDY sets exactly 2 ms after REF_EN goes to 1 (R486). -/
def execRefRdy (n : Nat) (s : State) : Host.Outcome State Fault Refusal :=
  s.row (below 2 n && s.awake) fun s => s.refReady n

/-- A regular scan begins by its mode, or is skipped while the previous runs (R488). -/
def execAuxScanStart (n : Nat) (s : State) : Host.Outcome State Fault Refusal :=
  s.row (below 2 n && s.awake) fun s => s.auxScanStart n

/-- An injected trigger starts the injected sequence or is dropped if a conversion runs (R489). -/
def execAuxInjTrigger (n : Nat) (s : State) : Host.Outcome State Fault Refusal :=
  s.row (below 2 n && s.awake) fun s => s.auxTrigger n

/-- A conversion completes and writes its entry to the buffer and DATA register (R491). -/
def execAuxConversion (n code : Nat) (ovr : Bool) (s : State) : Host.Outcome State Fault Refusal :=
  s.row (below 2 n && below 4096 code && s.awake) fun s => s.auxConversion n code ovr

/-- Every PERIOD ms both converters convert channel 15 together for plausibility (R494). -/
def execPlausAction (code0 : Nat) (ovr0 : Bool) (code1 : Nat) (ovr1 : Bool) (s : State) : Host.Outcome State Fault Refusal :=
  s.row (below 4096 code0 && below 4096 code1 && s.awake) fun s => s.auxPlaus code0 ovr0 code1 ovr1

/-- A key value held over the debounce time becomes KEY.STATE (R497). -/
def execKey (s : State) : Host.Outcome State Fault Refusal :=
  s.row s.awake fun s => s.keyRow

end Sys2Proof.Machine
end

