-- ==== Sys2Proof/Machine/ChainsRows.lean ====
section
/-!
DEFINITION. Commands of the mixers, chains and meters (chapter 09).
-/

namespace Sys2Proof.Machine

/-- An enabled conditioning chain computes a stroke once its input holds all 32 samples (R656). -/
def execIncComputeStroke (n : Nat) (s : State) : Host.Outcome State Fault Refusal :=
  s.row (below 24 n && s.awake) fun s => s.incStroke n

/-- An enabled finishing chain computes a stroke through filter, delay, gain, limiter and clamp once its input is complete (R656). -/
def execFinComputeStroke (n : Nat) (s : State) : Host.Outcome State Fault Refusal :=
  s.row (below 17 n && s.awake) fun s => s.finStroke n

/-- An active mixer node computes its stroke once every port it reads holds the stroke (R265). -/
def execMixNodeCompute (n : Nat) (s : State) : Host.Outcome State Fault Refusal :=
  s.row (below 64 n && s.awake) fun s => s.nodeStroke n

/-- Writing MTR_CTL.CLR sets the held peak to -0x8000 (R281). -/
def execMeterClear (m : Master) (p : Nat) (s : State) : Host.Outcome State Fault Refusal :=
  s.row (m.ok && chainPage p && s.reaches m p) fun s => s.writeKey m (p * 256 + 0x14) (s.w (p * 256 + 0x14) ||| 16)

end Sys2Proof.Machine
end

