-- ==== Sys2Proof/Machine/ControlRows.lean ====
section
/-!
DEFINITION. Commands that are accesses to the control space and its common header (chapter 02).
-/

namespace Sys2Proof.Machine

/-- A write to a register without behaviour of its own acts on each field by its access type, with rights, locks, reserved bits and range
checked (R42). -/
def execRegisterWrite (m : Master) (p off : Nat) (v : Word) (s : State) : Host.Outcome State Fault Refusal :=
  s.row (m.ok && wordAt p off && s.reaches m p) fun s => s.ctlWrite m p off v

/-- A read of a LO word latches the HI word into the reading master's snapshot (R68). -/
def execWideLoRead (m : Master) (p off : Nat) (s : State) : Host.Outcome State Fault Refusal :=
  s.row (m.ok && wordAt p off && s.reaches m p && wideLo p off) fun s => s.ctlRead m p off

/-- Writing PG_CTRL.SRST starts a soft reset of the block with BUSY held and registers returned to reset (R51). -/
def execSrst (m : Master) (p : Nat) (s : State) : Host.Outcome State Fault Refusal :=
  s.row (m.ok && isPage p && s.reaches m p) fun s => s.pgWrite m p 4 0

/-- The soft reset completes within 2 us, BUSY falls and any writes refused meanwhile are recorded with BUSY (R51). -/
def execSoftResetDone (p : Nat) (s : State) : Host.Outcome State Fault Refusal :=
  s.row (isPage p && s.awake) fun s => s.softResetDone p

/-- A write of PG_CTRL.EN enables or disables a block that has a true enable (R50). -/
def execPageEnable (m : Master) (p : Nat) (on : Bool) (s : State) : Host.Outcome State Fault Refusal :=
  s.row (m.ok && isPage p && s.reaches m p) fun s => s.pgWrite m p (b2w on) 1

/-- Setting or clearing PG_CTRL.FREEZE holds or releases the page's status, counter and meter words (R53). -/
def execPgFreeze (m : Master) (p : Nat) (on : Bool) (s : State) : Host.Outcome State Fault Refusal :=
  s.row (m.ok && isPage p && s.reaches m p) fun s => s.pgWrite m p (if on then 8 else 0) 8

/-- A W1C write of IRQ_PEND clears pending bits, which set again while the cause stays (R54). -/
def execIrqPendClear (m : Master) (p : Nat) (v : Word) (s : State) : Host.Outcome State Fault Refusal :=
  s.row (m.ok && isPage p && s.reaches m p) fun s => s.writeKey m (Regs.IRQ_PEND p) v

/-- Writing IRQ_FORCE sets IRQ_PEND bits, for OWNER and TEST only (R55). -/
def execIrqForce (m : Master) (p : Nat) (v : Word) (s : State) : Host.Outcome State Fault Refusal :=
  s.row (m.ok && isPage p && s.reaches m p) fun s => s.writeKey m (Regs.IRQ_FORCE p) v

/-- An OWNER write of PG_ACCESS sets the domain rights of the page, or sets LOCK fixing the word until reset (R56). -/
def execPgAccessWrite (m : Master) (p : Nat) (v : Word) (s : State) : Host.Outcome State Fault Refusal :=
  s.row (m.ok && isPage p && s.reaches m p) fun s => s.writeKey m (Regs.PG_ACCESS p) v

/-- An OWNER write of PG_LOCK locks groups of words or PG_CTRL and IRQ_EN until reset (R60). -/
def execPgLockWrite (m : Master) (p : Nat) (v : Word) (s : State) : Host.Outcome State Fault Refusal :=
  s.row (m.ok && isPage p && s.reaches m p) fun s => s.writeKey m (Regs.PG_LOCK p) v

/-- A write of SYS.RESET with the right KEY and GO resets the whole device (R43). -/
def execSysReset (m : Master) (v : Word) (s : State) : Host.Outcome State Fault Refusal :=
  s.row (m.ok && s.reaches m 0x00) fun s => s.writeKey m Regs.SYS_RESET v

/-- A read of TB.CAPn_HI returns the capture and clears VALID unless it returned an overwritten snapshot (R113). -/
def execCapHiRead (m : Master) (n : Nat) (s : State) : Host.Outcome State Fault Refusal :=
  s.row (m.ok && below 4 n && s.reaches m 0x03) fun s => s.readKey m (Regs.TB_CAP_HI n)

end Sys2Proof.Machine
end

