-- ==== Sys2Proof/Machine/FaultsRows.lean ====
section
/-!
DEFINITION. Commands of faults and recovery (chapter 22).
-/

namespace Sys2Proof.Machine

/-- A write of FAULT.CLEAR clears an active W-kind fault unless its condition holds (R590). -/
def execFaultClear (m : Master) (code src : Nat) (s : State) : Host.Outcome State Fault Refusal :=
  s.row (m.ok && below 256 code && below 256 src && s.reaches m 0x0D) fun s => s.writeKey m Regs.FAULT_CLEAR (Word.of (src * 256 + code))

/-- A quench tempers every running output to zero over 1 ms and lowers starting channels (R586). -/
def execQuench (s : State) : Host.Outcome State Fault Refusal :=
  s.row s.awake fun s => s.quench

/-- Outputs go high-impedance at 1 ms and the quench completes when the last channel stops (R586). -/
def execQuenchComplete (s : State) : Host.Outcome State Fault Refusal :=
  s.row s.awake fun s => s.quenchComplete

/-- An independent fault of equal or higher class abandons the running recovery and quenches (R593). -/
def execCoincident (code src : Nat) (s : State) : Host.Outcome State Fault Refusal :=
  s.row (below 256 code && below 256 src && s.awake) fun s => s.meetFault code src

/-- A queued fault begins its recovery when the previous ends, or is skipped (R594). -/
def execQueuedRecoveryStart (s : State) : Host.Outcome State Fault Refusal :=
  s.row s.awake fun s => s.queuedRecovery

/-- Core die at 125 C raises WARN CORE_OTW (R589). -/
def execCoreOtw (s : State) : Host.Outcome State Fault Refusal :=
  s.row s.awake fun s => s.coreWarn true

/-- Core die at 150 C raises HALT fault CORE_OTS (R589). -/
def execCoreOts (s : State) : Host.Outcome State Fault Refusal :=
  s.row s.awake fun s => s.raiseDevice 0x07 0x00 false

/-- The core die temperature falls below 120 °C and WARN CORE_OTW clears by itself (R589). -/
def execCoreOtwEnd (s : State) : Host.Outcome State Fault Refusal :=
  s.row s.awake fun s => s.coreWarn false

end Sys2Proof.Machine
end

