-- ==== Sys2Proof/Machine/MicRows.lean ====
section
/-!
DEFINITION. Commands of the microphones, wake, line inputs, headphone output and jacks (chapters 16 and 17).
-/

namespace Sys2Proof.Machine

/-- An on-chip line or microphone channel converts a sample, discarding it while its queue refuses a credit (R651). -/
def execOnchipCaptureSample (x : OnChip) (s : State) : Host.Outcome State Fault Refusal :=
  s.row (x.ok && s.powered) fun s => s.onChip x

/-- Setting HQ_EN or LP_EN checks the queue and starts the path at the next boundary (R444). -/
def execMicPathEnable (m : Master) (k : Nat) (hq lp : Bool) (s : State) : Host.Outcome State Fault Refusal :=
  s.row (m.ok && below 16 k && s.reaches m 0x24) fun s => s.writeKey m (Regs.MIC_CFG k) (s.micEnableWord k hq lp)

/-- A bias above 5 mA limits its current and raises MBIAS_OC (R447). -/
def execBiasOc (n : Nat) (s : State) : Host.Outcome State Fault Refusal :=
  s.row (below 2 n && s.powered) fun s => s.biasOc n

/-- Each 16 ms window the built-in detector updates hits and floor and may fire (R452). -/
def execWakeDetectorWindow (level : Int) (s : State) : Host.Outcome State Fault Refusal :=
  s.row s.powered fun s => s.detectorWindow level

/-- ANV63 writing WAKE.FIRE in EMBER signals a wake with its score (R453). -/
def execWakeFire (m : Master) (score : Nat) (s : State) : Host.Outcome State Fault Refusal :=
  s.row (m.ok && below 256 score && s.reaches m 0x25) fun s => s.writeKey m Regs.WAKE_FIRE (Word.of (score * 256 + 1))

/-- A detection latches EVT, fixes the history start and begins the EMBER to FORGING wake (R455). -/
def execAcousticWake (s : State) : Host.Outcome State Fault Refusal :=
  s.row s.powered fun s => s.detect

/-- A history billet is copied into OUTQ as credits allow, setting DRAINED at the last (R457). -/
def execHistoryDrainBillet (s : State) : Host.Outcome State Fault Refusal :=
  s.row s.awake fun s => s.histDrain

/-- A debounced high on MUTE_SW cuts bias, clocks and front ends and sends MUTED zeros (R461). -/
def execPrivacyMuteAssert (s : State) : Host.Outcome State Fault Refusal :=
  s.row true fun s => s.muteAssert

/-- 50 ms of low on MUTE_SW releases the mute and paths fade in after settling (R465). -/
def execPrivacyMuteRelease (s : State) : Host.Outcome State Fault Refusal :=
  s.row true fun s => s.muteRelease

/-- Every 10 ms the mute indicator is checked for open or short (R466). -/
def execMuteLedCheck (ua mv : Nat) (s : State) : Host.Outcome State Fault Refusal :=
  s.row s.powered fun s => s.ledCheck ua mv

/-- LIN.CMD.START starts every enabled line pair at the next hearth sample (R469). -/
def execLinStart (m : Master) (s : State) : Host.Outcome State Fault Refusal :=
  s.row (m.ok && s.reaches m 0x26) fun s => s.writeKey m Regs.LIN_CMD 1

/-- LIN.CMD.STOP stops both pairs at the next hearth sample (R469). -/
def execLinStop (m : Master) (s : State) : Host.Outcome State Fault Refusal :=
  s.row (m.ok && s.reaches m 0x26) fun s => s.writeKey m Regs.LIN_CMD 2

/-- EN 0 or a soft reset of LIN stops the running pairs (R654). -/
def execLinDisable (m : Master) (srst : Bool) (s : State) : Host.Outcome State Fault Refusal :=
  s.row (m.ok && s.reaches m 0x26) fun s => s.pgWrite m 0x26 (if srst then 4 else 0) (if srst then 0 else 1)

/-- HPO.CMD.START starts the charge pump with the outputs clamped (R472). -/
def execHpoStart (m : Master) (s : State) : Host.Outcome State Fault Refusal :=
  s.row (m.ok && s.reaches m 0x27) fun s => s.writeKey m Regs.HPO_CMD 1

/-- HPO.CMD.STOP ramps HPO out at the next boundary or closes the clamp at once (R473). -/
def execHpoStop (m : Master) (s : State) : Host.Outcome State Fault Refusal :=
  s.row (m.ok && s.reaches m 0x27) fun s => s.writeKey m Regs.HPO_CMD 2

/-- 1.0 ms after start the rails regulate and the amplifiers are enabled (R472). -/
def execHpoRailsReady (s : State) : Host.Outcome State Fault Refusal :=
  s.row s.awake fun s => s.hpoRails

/-- 1.5 ms after start the clamp is released and HPO is in RUN (R472). -/
def execHpoClampRelease (s : State) : Host.Outcome State Fault Refusal :=
  s.row s.awake fun s => s.hpoClamp

/-- 0.5 ms after the clamp closes HPO is STOPPED (R473). -/
def execHpoStopped (s : State) : Host.Outcome State Fault Refusal :=
  s.row s.awake fun s => s.hpoStopped

/-- Output current above 180 mA for 1 ms stops HPO and raises HPO_SC (R475). -/
def execHpoSc (s : State) : Host.Outcome State Fault Refusal :=
  s.row s.awake fun s => s.hpoOvercurrent

/-- Writing HPO EN 0 stops a running HPO (R655). -/
def execHpoDisable (m : Master) (s : State) : Host.Outcome State Fault Refusal :=
  s.row (m.ok && s.reaches m 0x27) fun s => s.pgWrite m 0x27 0 1

/-- A jack detect pin held at a new level for 64 ms updates JACK.STAT and raises its cause (R476). -/
def execJackChange (lin level : Bool) (s : State) : Host.Outcome State Fault Refusal :=
  s.row s.powered fun s => s.jackChange lin level

/-- A bias supply's load falls below its current limit, the bias stops limiting and WARN MBIAS_OC clears by itself (R447). -/
def execMbiasOcEnd (n : Nat) (s : State) : Host.Outcome State Fault Refusal :=
  s.row (below 2 n && s.powered) fun s => s.biasOcEnd n

end Sys2Proof.Machine
end

