-- ==== Sys2Proof/Machine/PairRows.lean ====
section
/-!
DEFINITION. Commands of the link and the pair (chapter 20).
-/

namespace Sys2Proof.Machine

/-- An enabled link exchanges idle sets until 256 valid ones are received (R536). -/
def execLinkTrain (s : State) : Host.Outcome State Fault Refusal :=
  s.row s.awake fun s => s.idleSets

/-- The lead sends PING sets and the follower echoes each after 1,024 ticks (R536). -/
def execPing (rtt : Nat) (s : State) : Host.Outcome State Fault Refusal :=
  s.row s.awake fun s => s.ping rtt

/-- The lead computes D from the round trips and the link is UP or training fails (R536). -/
def execLinkUp (s : State) : Host.Outcome State Fault Refusal :=
  s.row s.awake fun s => s.linkUpLead

/-- 16 consecutive invalid characters return the link to TRAIN (R536). -/
def execLinkLossOfLock (s : State) : Host.Outcome State Fault Refusal :=
  s.row (s.awake && (s.link != 0)) fun s => s.linkTrain

/-- A device assembles and sends its superframe at its launch tick, with retransmitted messages (R537). -/
def execSuperframeSend (s : State) : Host.Outcome State Fault Refusal :=
  s.row s.awake fun s => s.superframeSend

/-- A received superframe is checked and its header, heartbeat, Tongs field, messages, audio and mirror records taken (R539). -/
def execSuperframeReceive (f : Superframe) (e : Int) (s : State) : Host.Outcome State Fault Refusal :=
  s.row s.awake fun s => s.superframe f e

/-- A superframe not valid by its due tick is missed and MISSED counts (R539). -/
def execSuperframeMiss (s : State) : Host.Outcome State Fault Refusal :=
  s.row s.awake fun s => s.superframeMiss

/-- The follower receiving PREPARE validates its half and votes (R181). -/
def execPrepare (seq target id : Nat) (s : State) : Host.Outcome State Fault Refusal :=
  s.row (below 65536 seq && below 16 id && s.linked true) fun s => s.takePrepare seq target id

/-- The lead receives the follower's vote on a pair weld (R180). -/
def execVote (seq : Nat) (yes : Bool) (s : State) : Host.Outcome State Fault Refusal :=
  s.row (below 65536 seq && s.linked true) fun s => s.takeVote seq yes

/-- An ABORT message cold-shuts the follower half with PAIR (R182). -/
def execAbort (seq : Nat) (s : State) : Host.Outcome State Fault Refusal :=
  s.row (below 65536 seq && s.linked true) fun s => s.takeAbort seq

/-- A READ message makes the partner read a word as TWIN and return RESULT (R546). -/
def execRegRead (seq addr : Nat) (s : State) : Host.Outcome State Fault Refusal :=
  s.row (below 65536 seq && below (2 ^ 18) addr && s.linked true) fun s => s.regRead seq addr

/-- A WRITE message makes the partner write a word as TWIN and return RESULT (R546). -/
def execRegWrite (seq addr : Nat) (v : Word) (s : State) : Host.Outcome State Fault Refusal :=
  s.row (below 65536 seq && below (2 ^ 18) addr && s.linked true) fun s => s.regWriteMsg seq addr v

/-- A RESULT message completes the remote access and sets RRES.DONE (R546). -/
def execResult (seq code : Nat) (data : Word) (s : State) : Host.Outcome State Fault Refusal :=
  s.row (below 65536 seq && below 256 code && s.linked true) fun s => s.takeResult seq code data

/-- A TRAIN message gives the follower the link delay D (R536). -/
def execTrain (d : Nat) (s : State) : Host.Outcome State Fault Refusal :=
  s.row (below 256 d && s.linked false) fun s => s.takeTrain d

/-- A joiner receiving HELLO checks mark, rate and state and answers PROOF or REFUSE (R555). -/
def execHello (mark : List Word) (identity : Nat) (rate96 adopt : Bool) (s : State) : Host.Outcome State Fault Refusal :=
  s.row (below (2 ^ 64) identity && s.linked false) fun s => s.takeHello mark identity rate96 adopt

/-- The lead checks the PROOF HMAC and answers ACCEPT or REFUSE (R556). -/
def execProof (identity : Nat) (good : Bool) (s : State) : Host.Outcome State Fault Refusal :=
  s.row (below (2 ^ 64) identity && s.linked false) fun s => s.takeProof identity good

/-- On ACCEPT both devices derive Ks, set SECURE and the joiner acquires the timebase (R556). -/
def execAccept (epoch : Nat) (good : Bool) (s : State) : Host.Outcome State Fault Refusal :=
  s.row (below 65536 epoch && s.linked false) fun s => s.takeAccept epoch good

/-- A REFUSE ends the attach with its reason (R556). -/
def execRefuse (reason : Nat) (s : State) : Host.Outcome State Fault Refusal :=
  s.row (below 16 reason && s.linked false) fun s => s.takeRefuse reason

/-- The joiner checks the adopted image digest and begins applying it under an adoption mute (R557). -/
def execAdoptEnd (digest : Nat) (s : State) : Host.Outcome State Fault Refusal :=
  s.row (below (2 ^ 64) digest && s.linked true) fun s => s.takeAdoptEnd digest

/-- The joiner opens and commits the next adoption weld of received STG words (R557). -/
def execAdoptionWeld (s : State) : Host.Outcome State Fault Refusal :=
  s.row s.awake fun s => s.adoptionWeld

/-- A partner receiving DETACH answers DETACH_ACK and enters DETACHING (R565). -/
def execDetachMessage (seq target : Nat) (s : State) : Host.Outcome State Fault Refusal :=
  s.row (below 65536 seq && s.linked true) fun s => s.takeDetach seq target

/-- The detaching device receives the partner's acknowledgement (R565). -/
def execDetachAck (s : State) : Host.Outcome State Fault Refusal :=
  s.row (s.linked true) fun s => s.detachAcked

/-- PAIR.CMD ATTACH starts an attach from a lead in SEEK, SOLO or DETACHED (R555). -/
def execAttach (m : Master) (adopt : Bool) (s : State) : Host.Outcome State Fault Refusal :=
  s.row (m.ok && s.reaches m 0x7D) fun s => s.writeKey m Regs.PAIR_CMD (Word.of (1 + 4 * b2n adopt))

/-- PAIR.CMD DETACH in LIVE starts an orderly detach with target s + 4 (R565). -/
def execDetach (m : Master) (s : State) : Host.Outcome State Fault Refusal :=
  s.row (m.ok && s.reaches m 0x7D) fun s => s.writeKey m Regs.PAIR_CMD 2

/-- An attach not LIVE 1 s after ATTACH ends with TIMEOUT (R555). -/
def execAttachTimeout (s : State) : Host.Outcome State Fault Refusal :=
  s.row s.awake fun s => s.attachTimeout

/-- DIG_OK 0 for 64 strokes in LIVE raises MIRROR_STALE (R552). -/
def execMirrorStale (s : State) : Host.Outcome State Fault Refusal :=
  s.row s.awake fun s => s.mirrorStale

/-- An OWNER write of PAIR.RCMD sends one READ or WRITE to the partner (R546). -/
def execRcmd (m : Master) (wr : Bool) (addr : Nat) (s : State) : Host.Outcome State Fault Refusal :=
  s.row (m.ok && below (2 ^ 18) addr && s.reaches m 0x7D) fun s => s.writeKey m Regs.PAIR_RCMD (Word.of (b2n wr * 2 ^ 31 + addr))

end Sys2Proof.Machine
end

