-- ==== Sys2Proof/Machine/PortCmdsRows.lean ====
section
/-!
DEFINITION. Commands of the control ports (chapter 19).
-/

namespace Sys2Proof.Machine

/-- TWT SET_PTR loads the port's page and word pointer (R503). -/
def execSetPtr (bytes : List Byte) (s : State) : Host.Outcome State Fault Refusal :=
  s.row true fun s => s.twtSetPtr bytes

/-- TWT WRITE_WORD writes one word at the pointer (R502). -/
def execWriteWord (bytes : List Byte) (s : State) : Host.Outcome State Fault Refusal :=
  s.row true fun s => s.twtWriteWord bytes

/-- TWT WRITE_BLOCK writes n bytes of words from the pointer (R502). -/
def execWriteBlock (count : Nat) (bytes : List Byte) (s : State) : Host.Outcome State Fault Refusal :=
  s.row (below 256 count) fun s => s.twtWriteBlock count bytes

/-- TWT READ_WORD reads one word at the pointer (R504). -/
def execReadWord (s : State) : Host.Outcome State Fault Refusal :=
  s.row true fun s => s.twtReadWord

/-- TWT READ_BLOCK returns RDBLK_LEN bytes from the pointer (R504). -/
def execReadBlock (sent : Nat) (s : State) : Host.Outcome State Fault Refusal :=
  s.row (below 64 sent) fun s => s.twtReadBlock sent

/-- TWT WELD_OP opens a weld and selects it for TWT in one access (R505). -/
def execWeldOp (s : State) : Host.Outcome State Fault Refusal :=
  s.row true fun s => s.twtWeldOp

/-- TWT STATUS returns the status word and clears PEC_SEEN (R506). -/
def execStatus (s : State) : Host.Outcome State Fault Refusal :=
  s.row true fun s => s.twtStatus

/-- TWT NOTIFY_CFG re-arms notification (R513). -/
def execNotifyCfg (s : State) : Host.Outcome State Fault Refusal :=
  s.row true fun s => s.twtNotifyCfg

/-- A write command with a wrong or missing check byte is discarded whole (R507). -/
def execPecErr (s : State) : Host.Outcome State Fault Refusal :=
  s.row true fun s => s.twtPecErr

/-- A start condition on TWT in BANKED is not acknowledged and may wake the device (R510). -/
def execTwtStartCondition (s : State) : Host.Outcome State Fault Refusal :=
  s.row true fun s => s.twtStart

/-- SCL or SDA low for its timeout abandons the transaction (R512). -/
def execTwtTimeout (sda : Bool) (s : State) : Host.Outcome State Fault Refusal :=
  s.row true fun s => s.twtTimeout sda

/-- With notify armed and a page signalling the device sends a Host Notify message as controller (R513). -/
def execNotifySend (res : Nat) (s : State) : Host.Outcome State Fault Refusal :=
  s.row (below 3 res && s.awake) fun s => s.notifySend res

/-- A TWC START operation sends a start and address byte, after bus recovery where needed (R516). -/
def execTwcStart (m : Master) (n data : Nat) (s : State) : Host.Outcome State Fault Refusal :=
  s.row (m.ok && below 3 n && below 256 data && s.reaches m (0x77 + n)) fun s => s.writeKey m (Regs.TWC_OP n) (Word.of data)

/-- A TWC WRITE operation sends a data or CRC byte (R516). -/
def execTwcWrite (m : Master) (n : Nat) (pec : Bool) (data : Nat) (s : State) : Host.Outcome State Fault Refusal :=
  s.row (m.ok && below 3 n && below 256 data && s.reaches m (0x77 + n)) fun s =>
    s.writeKey m (Regs.TWC_OP n) (Word.of (1024 + b2n pec * 512 + data))

/-- A TWC READ operation reads a byte into the receive queue (R516). -/
def execTwcRead (m : Master) (n : Nat) (pec last : Bool) (s : State) : Host.Outcome State Fault Refusal :=
  s.row (m.ok && below 3 n && s.reaches m (0x77 + n)) fun s =>
    s.writeKey m (Regs.TWC_OP n) (Word.of (2048 + b2n pec * 512 + b2n last * 256))

/-- A TWC STOP operation ends the transaction with OK (R516). -/
def execTwcStop (m : Master) (n : Nat) (s : State) : Host.Outcome State Fault Refusal :=
  s.row (m.ok && below 3 n && s.reaches m (0x77 + n)) fun s => s.writeKey m (Regs.TWC_OP n) 3072

/-- A queued TWC operation completes on the bus or fails, discarding operations to the next STOP (R517). -/
def execTwcOperationDone (n res byte : Nat) (recov : Bool) (s : State) : Host.Outcome State Fault Refusal :=
  s.row (below 3 n && below 4 res && below 256 byte && s.awake) fun s => s.twcDone n res byte recov

/-- A read of TWCn.RXD pops the oldest received byte (R516). -/
def execTwcRxdRead (m : Master) (n : Nat) (s : State) : Host.Outcome State Fault Refusal :=
  s.row (m.ok && below 3 n && s.reaches m (0x77 + n)) fun s => s.readKey m (Regs.TWC_RXD n)

/-- A transaction paused 1 ms is ended with a stop and ABANDONED (R517). -/
def execTwcAbandoned (n : Nat) (s : State) : Host.Outcome State Fault Refusal :=
  s.row (below 3 n && s.awake) fun s => s.twcAbandon n

/-- A TWC2 low-time timeout ends the transaction and runs bus recovery (R519). -/
def execTwcTimeout (s : State) : Host.Outcome State Fault Refusal :=
  s.row s.awake fun s => s.twcTimeout

/-- SPIT WRITE writes words to the control space through the write buffer (R525). -/
def execWrite (addr : Nat) (bytes : List Byte) (crcOk : Bool) (s : State) : Host.Outcome State Fault Refusal :=
  s.row (below (2 ^ 24) addr) fun s => s.spitWrite false addr bytes crcOk

/-- SPIT READ returns a status byte and control-space words (R523). -/
def execRead (addr words : Nat) (s : State) : Host.Outcome State Fault Refusal :=
  s.row (below (2 ^ 24) addr) fun s => s.spitRead false addr words

/-- SPIT QWRITE writes control-space words on four lines (R522). -/
def execQwrite (addr : Nat) (bytes : List Byte) (crcOk : Bool) (s : State) : Host.Outcome State Fault Refusal :=
  s.row (below (2 ^ 24) addr) fun s => s.spitWrite true addr bytes crcOk

/-- SPIT QREAD reads control-space words on four lines (R522). -/
def execQread (addr words : Nat) (s : State) : Host.Outcome State Fault Refusal :=
  s.row (below (2 ^ 24) addr) fun s => s.spitRead true addr words

/-- SPIT SWRITE writes Stock bytes without moving billets (R527). -/
def execSwrite (addr : Nat) (bytes : List Byte) (crcOk : Bool) (s : State) : Host.Outcome State Fault Refusal :=
  s.row (below (2 ^ 24) addr) fun s => s.spitStockWrite false addr bytes crcOk

/-- SPIT SREAD reads Stock bytes (R527). -/
def execSread (addr words : Nat) (s : State) : Host.Outcome State Fault Refusal :=
  s.row (below (2 ^ 24) addr) fun s => s.spitStockRead false addr words

/-- SPIT QSWRITE writes Stock bytes on four lines (R527). -/
def execQswrite (addr : Nat) (bytes : List Byte) (crcOk : Bool) (s : State) : Host.Outcome State Fault Refusal :=
  s.row (below (2 ^ 24) addr) fun s => s.spitStockWrite true addr bytes crcOk

/-- SPIT QSREAD reads Stock bytes on four lines (R527). -/
def execQsread (addr words : Nat) (s : State) : Host.Outcome State Fault Refusal :=
  s.row (below (2 ^ 24) addr) fun s => s.spitStockRead true addr words

/-- SPIT STATUS returns the status byte and clears its sticky bits at CSN rising (R524). -/
def execSpitStatus (s : State) : Host.Outcome State Fault Refusal :=
  s.row true fun s => s.spitStatusFrame

/-- A write of QSPI.XFER clocks one byte to or from the flash (R529). -/
def execQspiXfer (m : Master) (byte : Byte) (qin : Bool) (s : State) : Host.Outcome State Fault Refusal :=
  s.row (m.ok && s.reaches m 0x7B) fun s => s.writeKey m Regs.QSPI_XFER (Word.of (b2n qin * 512 + byte.toNat))

/-- A QSPI byte transfer ends, QSPI.STAT.BUSY clears and a read of XFER waiting on it completes with the received byte (R529). -/
def execQspiXferDone (byte : Byte) (s : State) : Host.Outcome State Fault Refusal :=
  s.row s.awake fun s => s.qspiDone byte

end Sys2Proof.Machine
end

