-- ==== Sys2Proof/Machine/PortsRows.lean ====
section
/-!
DEFINITION. Commands of the serial audio ports and the IEC 60958 receiver (chapter 07).
-/

namespace Sys2Proof.Machine

/-- SAPn.CMD START_TX checks and starts the TX side at the next hearth sample (R200). -/
def execStartTx (m : Master) (n : Nat) (s : State) : Host.Outcome State Fault Refusal :=
  s.row (m.ok && below 6 n && s.reaches m (0x10 + n)) fun s => s.writeKey m (Regs.SAP_CMD n) 1

/-- SAPn.CMD START_RX checks and starts the RX side at the next hearth sample (R200). -/
def execStartRx (m : Master) (n : Nat) (s : State) : Host.Outcome State Fault Refusal :=
  s.row (m.ok && below 6 n && s.reaches m (0x10 + n)) fun s => s.writeKey m (Regs.SAP_CMD n) 2

/-- SAPn.CMD STOP_TX stops the TX side, releasing unplayed billets (R203). -/
def execStopTx (m : Master) (n : Nat) (s : State) : Host.Outcome State Fault Refusal :=
  s.row (m.ok && below 6 n && s.reaches m (0x10 + n)) fun s => s.writeKey m (Regs.SAP_CMD n) 4

/-- SAPn.CMD STOP_RX stops the RX side and closes its billets (R203). -/
def execStopRx (m : Master) (n : Nat) (s : State) : Host.Outcome State Fault Refusal :=
  s.row (m.ok && below 6 n && s.reaches m (0x10 + n)) fun s => s.writeKey m (Regs.SAP_CMD n) 8

/-- An RX side receives one frame whole, judging it normal, short or long and delivering or discarding it (R205). -/
def execSapRxFrame (n tick nbits : Nat) (words : List Word) (s : State) : Host.Outcome State Fault Refusal :=
  s.row (below 6 n && s.awake) fun s => s.rxFrame n tick nbits words

/-- No frame edge or target bit clock for two frame periods declares STALL (R210). -/
def execSapStall (n : Nat) (rx : Bool) (s : State) : Host.Outcome State Fault Refusal :=
  s.row (below 6 n && s.awake) fun s => s.sapStall n rx

/-- At a frame edge a TX side sends the frame if every channel has a sample, otherwise zeros counted in UNDER (R213). -/
def execSapTxFrame (n tick nbits : Nat) (disagree : List (Nat × Nat)) (s : State) : Host.Outcome State Fault Refusal :=
  s.row (below 6 n && s.awake) fun s => s.txFrame n tick nbits disagree

/-- After 16 consecutive clean frames a released slot resumes full drive (R217). -/
def execSlotResume (n slot : Nat) (s : State) : Host.Outcome State Fault Refusal :=
  s.row (below 6 n && below 16 slot && s.awake) fun s => s.slotResume n slot

/-- SPDIF.CTRL.START starts the IEC 60958 receiver in WAIT (R225). -/
def execSpdifStart (m : Master) (s : State) : Host.Outcome State Fault Refusal :=
  s.row (m.ok && s.reaches m 0x17) fun s => s.writeKey m Regs.SPDIF_CTRL (s.w Regs.SPDIF_CTRL ||| 8)

/-- SPDIF.CTRL.STOP stops the receiver (R225). -/
def execSpdifStop (m : Master) (s : State) : Host.Outcome State Fault Refusal :=
  s.row (m.ok && s.reaches m 0x17) fun s => s.writeKey m Regs.SPDIF_CTRL (s.w Regs.SPDIF_CTRL ||| 16)

/-- The receiver decodes one frame, checking parity, validity and non-PCM, and releases the frame two frames later (R226). -/
def execSpdifFrame (tick : Nat) (good first : Bool) (a b : Subframe) (s : State) : Host.Outcome State Fault Refusal :=
  s.row s.awake fun s => s.spdifFrame tick good first a b

/-- After 16 consecutive valid frames the receiver enters RUN and shows the rate (R225). -/
def execSpdifLock (rate : Nat) (s : State) : Host.Outcome State Fault Refusal :=
  s.row (below 16 rate && s.awake) fun s => s.spdifLock rate

/-- Two frame periods without a valid preamble declare STALL (R229). -/
def execSpdifStall (s : State) : Host.Outcome State Fault Refusal :=
  s.row s.awake fun s => s.spdifStall

end Sys2Proof.Machine
end

