-- ==== Sys2Proof/Machine/PowerRows.lean ====
section
/-!
DEFINITION. Commands of power, clocks and timebase (chapters 01, 03 and 04).
-/

namespace Sys2Proof.Machine

/-- The 64-bit timebase advances by one tick at 98.304 MHz (R105). -/
def execTbTick (s : State) : Host.Outcome State Fault Refusal :=
  s.row true fun s => s.tick

/-- Every 256 ticks the broadcast bus refreshes every timebase replica; a replica more than 1 tick off adopts the value (R106). -/
def execTbBroadcast (replicas : List Nat) (s : State) : Host.Outcome State Fault Refusal :=
  s.row s.awake fun s => s.tbBroadcast replicas

/-- In sleep or after fast clock loss, each rising slow-clock edge adds exactly 3,000 to the timebase (R108). -/
def execSlowClockEdge (s : State) : Host.Outcome State Fault Refusal :=
  s.row true fun s => s.slowEdge

/-- At a stroke boundary in FORGING the device publishes the stroke weld, applies welds, fires boundary actions, audits and releases the
anvils in order (R28). -/
def execStrokeBoundary (s : State) : Host.Outcome State Fault Refusal :=
  s.row s.awake fun s => s.strokeBoundary

/-- The stroke deadline STROKE.DEADLINE ticks after the boundary expires and each stroke-mode anvil and output input is judged (R174). -/
def execStrokeDeadline (s : State) : Host.Outcome State Fault Refusal :=
  s.row s.awake fun s => s.deadline

/-- A clock domain starts within 4 source cycles of its clock request (R97). -/
def execClockDomainStart (d : Nat) (s : State) : Host.Outcome State Fault Refusal :=
  s.row (below 210 d) fun s => s.domainStart d

/-- A clock domain stops after 32 consecutive cycles without a request (R97). -/
def execClockDomainStop (d : Nat) (s : State) : Host.Outcome State Fault Refusal :=
  s.row (below 210 d) fun s => s.domainStop d

/-- VAON rising through 2.60 V takes the device from COLD towards WARM and the timebase starts from 0 (R74). -/
def execPorRelease (defStrap role addr : Nat) (s : State) : Host.Outcome State Fault Refusal :=
  s.row (below 8 defStrap && below 4 role && below 4 addr) fun s => s.porRelease defStrap role addr

/-- VAON reaching 2.45 V resets the device, safes the outputs within 5 us and returns it to COLD (R103). -/
def execVaonReset (kept : Bool) (s : State) : Host.Outcome State Fault Refusal :=
  s.row s.powered fun s => s.vaonReset kept

/-- After POR release, device reset or wake the boot ROM runs its numbered steps up to DONE (R643). -/
def execBootSequence (fast : Nat) (magic : Bool) (s : State) : Host.Outcome State Fault Refusal :=
  s.row (below 4 fast) fun s => s.bootSequence fast magic

/-- A write of PWR.MODE.REQ requests a power state, held during a transition and routed through WARM where needed (R74). -/
def execPwrModeRequest (m : Master) (req : Nat) (s : State) : Host.Outcome State Fault Refusal :=
  s.row (m.ok && below 8 req && s.reaches m 0x02) fun s => s.writeKey m Regs.PWR_MODE (putBits (s.w Regs.PWR_MODE) 0 3 req)

/-- PLLA achieves lock after its reference is stable (R86). -/
def execPllaLock (s : State) : Host.Outcome State Fault Refusal :=
  s.row s.awake fun s => s.pllaLock

/-- The device enters FORGING at the first stroke boundary after PLLA lock (R75). -/
def execForgingEntry (s : State) : Host.Outcome State Fault Refusal :=
  s.row s.awake fun s => s.forgingEntry

/-- Leaving FORGING stops the started stages, publishes the final stroke weld, audits and stops the audio clocks (R76). -/
def execForgingExit (s : State) : Host.Outcome State Fault Refusal :=
  s.row s.awake fun s => s.forgingExit

/-- Entry to BANKED or EMBER frees unretained billets, drops scheduler entries and welds, drives PSW_EN low and removes core power
(R77). -/
def execSleepEntry (s : State) : Host.Outcome State Fault Refusal :=
  s.row s.awake fun s => s.sleepEntry

/-- An enabled wake source event in BANKED or EMBER wakes the device and records its cause, or aborts a sleep entry (R84). -/
def execWakeEvent (e : WakeEdge) (s : State) : Host.Outcome State Fault Refusal :=
  s.row (below 10 e.source) fun s => s.wakeEvent e.source e.rising

/-- The timebase reaching PWR.ALARM raises the ALARM wake source (R84). -/
def execPwrAlarm (s : State) : Host.Outcome State Fault Refusal :=
  s.row true fun s => s.alarm

/-- No fast-source edge for 2 us switches the fabric to the RC oscillator, raises CLK_LOSS and quenches to WARM (R88). -/
def execFastClockLoss (s : State) : Host.Outcome State Fault Refusal :=
  s.row s.awake fun s => s.fastLoss

/-- A failing slow source makes the island switch to the low-power RC and clear SLOW_OK (R88). -/
def execSlowClockFail (s : State) : Host.Outcome State Fault Refusal :=
  s.row true fun s => s.slowFail

/-- A write of CLK.HEARTH in WARM changes the hearth rate or reference, renumbers strokes and returns ASRC engines to ACQUIRE (R111). -/
def execHearthRateWrite (m : Master) (v : Word) (s : State) : Host.Outcome State Fault Refusal :=
  s.row (m.ok && s.reaches m 0x01) fun s => s.writeKey m Regs.CLK_HEARTH v

/-- A write of CLK.SRC in WARM changes the clock source and PLLA relocks within 0.2 ms (R95). -/
def execClkSrcWrite (m : Master) (v : Word) (s : State) : Host.Outcome State Fault Refusal :=
  s.row (m.ok && s.reaches m 0x01) fun s => s.writeKey m Regs.CLK_SRC v

/-- PLLB_LOCK sets after the tracking error stays within 2 ppm for 64 strokes (R92). -/
def execPllbLockSet (pull : Int) (s : State) : Host.Outcome State Fault Refusal :=
  s.row s.awake fun s => s.pllbLock pull

/-- PLLB_LOCK clears when the tracking error leaves 20 ppm (R92). -/
def execPllbLockClear (s : State) : Host.Outcome State Fault Refusal :=
  s.row s.awake fun s => s.pllbUnlock

/-- A followed source in STALL or LOSS or removed puts PLLB into holdover with CLK_HOLDOVER raised (R92). -/
def execPllbHoldover (s : State) : Host.Outcome State Fault Refusal :=
  s.row s.awake fun s => s.pllbHoldover

/-- VAON falling below 2.90 V in WARM or FORGING enters BRACE, or sets VAON_LOW in sleep (R101). -/
def execVaonWarningFall (s : State) : Host.Outcome State Fault Refusal :=
  s.row true fun s => s.vaonFall

/-- VAON held above 2.96 V for 2 ms ends BRACE, increments BRACE_COUNT and releases deferred welds (R102), after the crossing of 2.96 V (R100). -/
def execBraceEnd (s : State) : Host.Outcome State Fault Refusal :=
  s.row s.powered fun s => s.vaonBack

/-- VSYS falling below 2.80 V raises VSYS_UV, quenches and goes to WARM (R100). -/
def execVsysUndervoltage (s : State) : Host.Outcome State Fault Refusal :=
  s.row true fun s => s.vsysFall

/-- VSYS below 2.80 V for 1 ms takes the device to BANKED (R100). -/
def execVsysUvTimeout (s : State) : Host.Outcome State Fault Refusal :=
  s.row s.awake fun s => s.vsysTimeout

/-- A follower in WARM loads its timebase in one step from the lead's superframe stamp plus link delay (R127). -/
def execTbAcquire (stamp : Nat) (s : State) : Host.Outcome State Fault Refusal :=
  s.row (below (2 ^ 64) stamp && s.awake) fun s => s.tbAcquire stamp (s.f Regs.VHK_STAT 16 8)

/-- After 64 consecutive measured strokes with error within 2 ticks the follower sets LOCK and ends PAIR_DRIFT (R128). -/
def execFollowerLockSet (s : State) : Host.Outcome State Fault Refusal :=
  s.row s.awake fun s => s.followLock

/-- VSYS rising through 2.95 V clears PWR.STAT.VSYS_UV, so the VSYS_UV fault may be cleared and the 1 ms BANKED timeout no longer runs
(R100). -/
def execVsysUvRecovery (s : State) : Host.Outcome State Fault Refusal :=
  s.row s.powered fun s => s.vsysRecover

/-- Edges of the selected fast source return and CLK.STAT.FAST_OK sets again, allowing fault CLK_LOSS to be cleared (R589). -/
def execFastSourceRestored (s : State) : Host.Outcome State Fault Refusal :=
  s.row s.awake fun s => s.fastRestored

/-- VIO falling below 1.2 V makes every VIO ball high-impedance, stops the control ports, GP wake and TWT start detection, while audio
runs on (R615). -/
def execVioLoss (s : State) : Host.Outcome State Fault Refusal :=
  s.row true fun s => s.vio true

/-- VIO rising back into range restores the VIO balls, the control ports, GP wake and TWT start detection (R615). -/
def execVioReturn (s : State) : Host.Outcome State Fault Refusal :=
  s.row true fun s => s.vio false

end Sys2Proof.Machine
end

