-- ==== Sys2Proof/Machine/RateRows.lean ====
section
/-!
DEFINITION. Commands of placement, rate conversion and the patch (chapter 08).
-/

namespace Sys2Proof.Machine

/-- Placement takes a locked stream's billet in its placement stroke, sets OFFSET and hands it on, or fills for a stale or missing billet
(R234). -/
def execBypassPlace (q : Nat) (s : State) : Host.Outcome State Fault Refusal :=
  s.row (below 1024 q && s.awake) fun s => s.bypassPlace q

/-- Setting ASRCn.PG_CTRL.EN checks the channel queues and starts the engine in ACQUIRE (R238). -/
def execAsrcEnable (m : Master) (n : Nat) (s : State) : Host.Outcome State Fault Refusal :=
  s.row (m.ok && below 12 n && s.reaches m (pgAsrc n)) fun s => s.pgWrite m (pgAsrc n) 1 0

/-- An engine takes an input billet, updates its rate estimate and moves through ACQUIRE, VALID, LOCKED or relock (R243). -/
def execAsrcInputBillet (n c fi : Nat) (err : Int) (s : State) : Host.Outcome State Fault Refusal :=
  s.row (below 12 n && below 2 c && s.awake) fun s => s.asrcInput n c fi err

/-- An engine computes a grid sample by interpolation, using zeros for input not yet arrived (R239). -/
def execAsrcGridSample (n : Nat) (s : State) : Host.Outcome State Fault Refusal :=
  s.row (below 12 n && s.awake) fun s => s.asrcGrid n

/-- A direct write of a patch entry is checked if active and applies at once, incrementing GEN (R251). -/
def execPatchEntryWrite (m : Master) (lo hi : Word) (s : State) : Host.Outcome State Fault Refusal :=
  s.row (m.ok && s.reaches m 0x08) fun s => (s.writeKey m Regs.PATCH_ENTRY_LO lo).writeKey m Regs.PATCH_ENTRY_HI hi

/-- A write of PATCH.INVAL makes every unit drop and look up the named entries at the next boundary (R252). -/
def execPatchInval (m : Master) (v : Word) (s : State) : Host.Outcome State Fault Refusal :=
  s.row (m.ok && s.reaches m 0x08) fun s => s.writeKey m Regs.PATCH_INVAL v

/-- PATCH.CTRL.COPY starts copying the active bank into the other bank (R254). -/
def execPatchCopy (m : Master) (s : State) : Host.Outcome State Fault Refusal :=
  s.row (m.ok && s.reaches m 0x08) fun s => s.writeKey m Regs.PATCH_CTRL (s.w Regs.PATCH_CTRL ||| 1)

/-- The bank copy completes within 20 us and COPYING clears (R254). -/
def execPatchCopyDone (s : State) : Host.Outcome State Fault Refusal :=
  s.row s.awake fun s => s.copyDone

end Sys2Proof.Machine
end

