-- ==== Sys2Proof/Machine/RouteRows.lean ====
section
/-!
DEFINITION. Commands of the default route (chapter 25).
-/

namespace Sys2Proof.Machine

/-- A held volume key repeats its action every 250 ms (R640). -/
def execKeyRepeat (s : State) : Host.Outcome State Fault Refusal :=
  s.row s.awake fun s => s.keyRepeat

/-- At b + 4 the patch switches to the new source and the gain ramps back, completing at b + 8 (R642). -/
def execSourceChangeStep (s : State) : Host.Outcome State Fault Refusal :=
  s.row s.awake fun s => s.changeStep

/-- Writing 1 to SYS.DROUTE.EN releases the default route without a break in audio (R646). -/
def execDrouteRelease (m : Master) (s : State) : Host.Outcome State Fault Refusal :=
  s.row (m.ok && s.reaches m 0x00) fun s => s.writeKey m Regs.SYS_DROUTE 1

end Sys2Proof.Machine
end

