-- ==== Sys2Proof/Machine/SchedRows.lean ====
section
/-!
DEFINITION. Commands of captures, the scheduler and its actions (chapter 04).
-/

namespace Sys2Proof.Machine

/-- An edge on a capture channel's pin stores its timebase value and sets VALID, or OVR on overwrite (R112). -/
def execCaptureEdge (pin : Nat) (rising : Bool) (tick : Nat) (s : State) : Host.Outcome State Fault Refusal :=
  s.row (below 16 pin && below (2 ^ 64) tick && s.awake) fun s => s.captureEdge pin rising tick

/-- A read of SCHED.ARM checks the new-entry words and arms the lowest free entry or returns a refusal reason (R117). -/
def execSchedArm (m : Master) (s : State) : Host.Outcome State Fault Refusal :=
  s.row (m.ok && s.reaches m 0x04) fun s => s.readKey m Regs.SCHED_ARM

/-- A write of SCHED.CANCEL returns an armed entry of the writer's domain to free (R124). -/
def execSchedCancel (m : Master) (index : Nat) (s : State) : Host.Outcome State Fault Refusal :=
  s.row (m.ok && below 4096 index && s.reaches m 0x04) fun s => s.writeKey m Regs.SCHED_CANCEL (Word.of index)

/-- A tick-timed action fires when the target's replica reaches its time, dispatching in arm order (R119). -/
def execSchedFire (s : State) : Host.Outcome State Fault Refusal :=
  s.row s.awake fun s => s.schedFire

/-- The target accepts a fired action within 8 cycles and the entry returns to free (R115). -/
def execSchedAccept (s : State) : Host.Outcome State Fault Refusal :=
  s.row s.awake fun s => s.schedAccept

/-- A PORT_START action starts every named port side on the same hearth sample (R116). -/
def execPortStart (m : Master) (index : Nat) (payload : Word) (s : State) : Host.Outcome State Fault Refusal :=
  s.row (m.ok && below 4096 index && s.awake) fun s => s.act m (s.domainOf m) index 1 payload

/-- A PORT_STOP action stops every named side at the end of its current frame (R116). -/
def execPortStop (m : Master) (index : Nat) (payload : Word) (s : State) : Host.Outcome State Fault Refusal :=
  s.row (m.ok && below 4096 index && s.awake) fun s => s.act m (s.domainOf m) index 2 payload

/-- A STAGE_START action begins the start sequence of each named channel that passes its own check (R649). -/
def execStageStart (m : Master) (index : Nat) (payload : Word) (s : State) : Host.Outcome State Fault Refusal :=
  s.row (m.ok && below 4096 index && s.awake) fun s => s.act m (s.domainOf m) index 3 payload

/-- A STAGE_MUTE action writes MUTE 1 on each named channel (R385). -/
def execStageMute (m : Master) (index : Nat) (payload : Word) (s : State) : Host.Outcome State Fault Refusal :=
  s.row (m.ok && below 4096 index && s.awake) fun s => s.act m (s.domainOf m) index 4 payload

/-- A STAGE_UNMUTE action writes MUTE 0 on each named channel (R385). -/
def execStageUnmute (m : Master) (index : Nat) (payload : Word) (s : State) : Host.Outcome State Fault Refusal :=
  s.row (m.ok && below 4096 index && s.awake) fun s => s.act m (s.domainOf m) index 5 payload

/-- A WELD_COMMIT action commits the named weld with target 0 as the arming master (R116). -/
def execActionWeldCommit (m : Master) (index : Nat) (payload : Word) (s : State) : Host.Outcome State Fault Refusal :=
  s.row (m.ok && below 4096 index && s.awake) fun s => s.act m (s.domainOf m) index 6 payload

/-- An AUX_INJ action triggers the injected sequence of each named converter (R489). -/
def execAuxInj (m : Master) (index : Nat) (payload : Word) (s : State) : Host.Outcome State Fault Refusal :=
  s.row (m.ok && below 4096 index && s.awake) fun s => s.act m (s.domainOf m) index 7 payload

/-- A GPIO_SET action drives the named outputs high on one tick (R532). -/
def execGpioSet (m : Master) (index : Nat) (payload : Word) (s : State) : Host.Outcome State Fault Refusal :=
  s.row (m.ok && below 4096 index && s.awake) fun s => s.act m (s.domainOf m) index 8 payload

/-- A GPIO_CLR action drives the named outputs low on one tick (R532). -/
def execGpioClr (m : Master) (index : Nat) (payload : Word) (s : State) : Host.Outcome State Fault Refusal :=
  s.row (m.ok && below 4096 index && s.awake) fun s => s.act m (s.domainOf m) index 9 payload

/-- An IRQ action sets SCHED cause ACTION and writes its tag to SCHED.EVT (R116). -/
def execActionIrq (m : Master) (index : Nat) (payload : Word) (s : State) : Host.Outcome State Fault Refusal :=
  s.row (m.ok && below 4096 index && s.awake) fun s => s.act m (s.domainOf m) index 10 payload

/-- A TEST action writes its payload to TEST.LOOP as a TEST write (R607). -/
def execActionTest (m : Master) (index : Nat) (payload : Word) (s : State) : Host.Outcome State Fault Refusal :=
  s.row (m.ok && below 4096 index && s.awake) fun s => s.act m (s.domainOf m) index 11 payload

end Sys2Proof.Machine
end

