-- ==== Sys2Proof/Machine/SecureRows.lean ====
section
/-!
DEFINITION. Commands of secrecy and images (chapter 21).
-/

namespace Sys2Proof.Machine

/-- SEC.AUTH.NEW draws a fresh challenge for the writing master (R569). -/
def execAuthNew (m : Master) (s : State) : Host.Outcome State Fault Refusal :=
  s.row (m.ok && s.reaches m 0x0A) fun s => s.writeKey m Regs.SEC_AUTH 0x80000000

/-- SEC.AUTH.END ends the port's owner session and takes back its pending welds and actions (R570). -/
def execAuthEnd (m : Master) (s : State) : Host.Outcome State Fault Refusal :=
  s.row (m.ok && s.reaches m 0x0A) fun s => s.writeKey m Regs.SEC_AUTH 0x40000000

/-- SEC.AUTH.REQ 0b01 starts the check of an owner-session signature (R569). -/
def execAuthOwnerSession (m : Master) (s : State) : Host.Outcome State Fault Refusal :=
  s.row (m.ok && s.reaches m 0x0A) fun s => s.writeKey m Regs.SEC_AUTH 0x01000000

/-- SEC.AUTH.REQ 0b10 starts the check of a vendor TEST signature (R577). -/
def execAuthTestVendor (m : Master) (s : State) : Host.Outcome State Fault Refusal :=
  s.row (m.ok && s.reaches m 0x0A) fun s => s.writeKey m Regs.SEC_AUTH 0x02000000

/-- SEC.AUTH.REQ 0b11 starts the check of owner consent to TEST (R577). -/
def execAuthTestConsent (m : Master) (s : State) : Host.Outcome State Fault Refusal :=
  s.row (m.ok && s.reaches m 0x0A) fun s => s.writeKey m Regs.SEC_AUTH 0x03000000

/-- Within 4 ms the signature check ends and opens the session or TEST, or fails (R569). -/
def execAuthCheckDone (m : Master) (good : Bool) (s : State) : Host.Outcome State Fault Refusal :=
  s.row (m.ok && s.awake) fun s => s.authDone m good

/-- An LCREQ to OWNED from BLANK programs the OWNED bit (R575). -/
def execLcToOwned (m : Master) (s : State) : Host.Outcome State Fault Refusal :=
  s.row (m.ok && s.reaches m 0x0A) fun s => s.writeKey m Regs.SEC_LCREQ 0x4C430001

/-- An LCREQ to FIELD from OWNED programs the FIELD bit and puts owner locks in force (R575). -/
def execLcToField (m : Master) (s : State) : Host.Outcome State Fault Refusal :=
  s.row (m.ok && s.reaches m 0x0A) fun s => s.writeKey m Regs.SEC_LCREQ 0x4C430002

/-- An LCREQ to RETURNED erases owner secrets and Ko and resets the device (R576). -/
def execLcToReturned (m : Master) (s : State) : Host.Outcome State Fault Refusal :=
  s.row (m.ok && s.reaches m 0x0A) fun s => s.writeKey m Regs.SEC_LCREQ 0x4C430003

/-- A write of OTP.PROG starts setting bits in the selected OTP word (R574). -/
def execOtpProg (m : Master) (v : Word) (s : State) : Host.Outcome State Fault Refusal :=
  s.row (m.ok && s.reaches m 0x0B) fun s => s.writeKey m Regs.OTP_PROG v

/-- OTP programming ends within 100 us and is checked, setting ERR on failure (R574). -/
def execOtpProgDone (good : Bool) (s : State) : Host.Outcome State Fault Refusal :=
  s.row s.awake fun s => s.otpProgDone good

/-- An OWNER write of SEC.RB advances the anti-rollback thermometer up to ALLOWED (R584). -/
def execRbAdvance (m : Master) (v : Nat) (s : State) : Host.Outcome State Fault Refusal :=
  s.row (m.ok && below 64 v && s.reaches m 0x0A) fun s => s.writeKey m Regs.SEC_RB (Word.of v)

/-- IMG.CTRL.LOAD starts loading an image from flash or a RING queue (R580). -/
def execImgLoad (m : Master) (s : State) : Host.Outcome State Fault Refusal :=
  s.row (m.ok && s.reaches m 0x0C) fun s => s.writeKey m Regs.IMG_CTRL 1

/-- The loader ends its checks and fails with a RESULT or begins applying (R581). -/
def execImgVerifyDone (image : Image) (s : State) : Host.Outcome State Fault Refusal :=
  s.row s.awake fun s => s.imageChecked image

/-- The loader commits the next register-list weld after the previous one applies (R583). -/
def execImgReglistWeld (s : State) : Host.Outcome State Fault Refusal :=
  s.row s.awake fun s => s.imageList

/-- At the boundary of the last register-list weld GO is written and RESULT reads OK (R582). -/
def execImgLoadDone (s : State) : Host.Outcome State Fault Refusal :=
  s.row s.awake fun s => s.imageFinish

end Sys2Proof.Machine
end

