-- ==== Sys2Proof/Machine/StagesRows.lean ====
section
/-!
DEFINITION. Commands of the power stages, tracker, sense, Tongs and ring tests (chapters 13 to 15).
-/

namespace Sys2Proof.Machine

/-- A START command begins the channel's start sequence from the hearth sample at which it acts (R383). -/
def execStageCmdStart (m : Master) (c : Nat) (s : State) : Host.Outcome State Fault Refusal :=
  s.row (m.ok && below 16 c && s.reaches m (chPage c)) fun s => s.writeKey m (Regs.CH_CMD c) 1

/-- A STOP command begins the stop sequence, or stops a tripped channel at once (R384). -/
def execStageCmdStop (m : Master) (c : Nat) (s : State) : Host.Outcome State Fault Refusal :=
  s.row (m.ok && below 16 c && s.reaches m (chPage c)) fun s => s.writeKey m (Regs.CH_CMD c) 2

/-- A CLEAR command returns a latched channel to STOPPED with retries at 0 (R382). -/
def execStageCmdClear (m : Master) (c : Nat) (s : State) : Host.Outcome State Fault Refusal :=
  s.row (m.ok && below 16 c && s.reaches m (chPage c)) fun s => s.writeKey m (Regs.CH_CMD c) 4

/-- Writing EN 0 on a stage page stops a running channel (R652). -/
def execStageDisable (m : Master) (c : Nat) (s : State) : Host.Outcome State Fault Refusal :=
  s.row (m.ok && below 16 c && s.reaches m (chPage c)) fun s => s.pgWrite m (chPage c) 0 1

/-- At the end of inrush the stage checks its outputs and begins switching in SETTLE (R389). -/
def execInrushEnd (c outP outN pvdd : Nat) (s : State) : Host.Outcome State Fault Refusal :=
  s.row (below 16 c && s.awake) fun s => s.inrushEnd c (endCheck outP outN pvdd)

/-- 1 ms after inrush the loop has settled and the channel enters RUN at zero (R383). -/
def execSettleEnd (c : Nat) (s : State) : Host.Outcome State Fault Refusal :=
  s.row (below 16 c && s.awake) fun s => s.settleDone c

/-- After the soft path lowers the outputs the channel is high-impedance and STOPPED (R384). -/
def execStopDischargeEnd (c : Nat) (s : State) : Host.Outcome State Fault Refusal :=
  s.row (below 16 c && s.awake) fun s => s.lowered c

/-- Short detection or 64 limited periods trip the stage to high impedance and TRIPPED (R387). -/
def execStageTrip (c : Nat) (s : State) : Host.Outcome State Fault Refusal :=
  s.row (below 16 c && s.awake) fun s => s.stageTrip c

/-- 500 ms after a trip the stage retries its start or latches when retries are spent (R388). -/
def execRetryTimer (c : Nat) (s : State) : Host.Outcome State Fault Refusal :=
  s.row (below 16 c && s.awake) fun s => s.retryChan c

/-- After 10 s in RUN without a trip RETRIES returns to 0 (R388). -/
def execRetryCountReset (c : Nat) (s : State) : Host.Outcome State Fault Refusal :=
  s.row (below 16 c && s.awake) fun s => s.retriesReset c

/-- A seen XSTn_FLT fault drives both outputs low and latches or holds the channel (R390). -/
def execXstFaultInput (x : Nat) (s : State) : Host.Outcome State Fault Refusal :=
  s.row (below 8 x && s.awake) fun s => s.xstInput (8 + x)

/-- Release of the fault input in follow mode restarts the channel from step 1 (R390). -/
def execXstFaultRelease (x : Nat) (s : State) : Host.Outcome State Fault Refusal :=
  s.row (below 8 x && s.awake) fun s => s.xstRelease (8 + x)

/-- PVDD undervoltage holds every channel of the die with fault PVDD_UV (R391). -/
def execPvddUndervoltage (dieA : Bool) (s : State) : Host.Outcome State Fault Refusal :=
  s.row s.awake fun s => s.dieCond dieA 0x25

/-- PVDD overvoltage holds every channel of the die with fault PVDD_OV (R391). -/
def execPvddOvervoltage (dieA : Bool) (s : State) : Host.Outcome State Fault Refusal :=
  s.row s.awake fun s => s.dieCond dieA 0x26

/-- Die shutdown temperature holds every channel of the die with fault DIE_OTS (R391). -/
def execDieShutdown (dieA : Bool) (s : State) : Host.Outcome State Fault Refusal :=
  s.row s.awake fun s => s.dieCond dieA 0x27

/-- When a die condition ends the held channels restart from step 1 (R391). -/
def execDieConditionEnd (dieA : Bool) (code : Nat) (s : State) : Host.Outcome State Fault Refusal :=
  s.row (dieCode code && s.awake) fun s => s.dieCondEnd dieA code

/-- Die warning temperature raises WARN DIE_OTW (R391). -/
def execDieOtw (dieA : Bool) (s : State) : Host.Outcome State Fault Refusal :=
  s.row s.awake fun s => s.dieWarn dieA true

/-- A stage die losing its die-to-die link mutes and safes its eight channels within 10 us (R22). -/
def execDieLinkLoss (dieA : Bool) (s : State) : Host.Outcome State Fault Refusal :=
  s.row s.awake fun s => s.dieLost dieA

/-- PVDD below the warning level raises PVDD_LOW and pauses stages in inrush (R393). -/
def execPvddLow (mv : Nat) (s : State) : Host.Outcome State Fault Refusal :=
  s.row s.awake fun s => s.pvddLow mv

/-- PVDD above the warning level plus 0.2 V for 100 us resumes paused stages (R392). -/
def execPvddRecovered (mv : Nat) (s : State) : Host.Outcome State Fault Refusal :=
  s.row s.awake fun s => s.pvddRecovered mv

/-- A stage paused 50 ms aborts its start once, or ends it with STG_START_FAIL (R393). -/
def execPauseTimeout (c : Nat) (s : State) : Host.Outcome State Fault Refusal :=
  s.row (below 16 c && s.awake) fun s => s.pauseTimeout c

/-- At each hearth sample the tracker updates the commanded PVDD from the look-ahead need (R398). -/
def execTrackerUpdate (s : State) : Host.Outcome State Fault Refusal :=
  s.row s.awake fun s => s.trkUpdate

/-- A tracker message ends; an unacknowledged one counts and after 8 failures holds C at CAP (R400). -/
def execTrackerMessageDone (ack : Bool) (s : State) : Host.Outcome State Fault Refusal :=
  s.row s.awake fun s => s.trkMessageDone ack

/-- A sense converter begins a billet or discards its samples when its queue has no credit (R657). -/
def execSenseBilletBegin (conv t : Nat) (codes : List Int) (s : State) : Host.Outcome State Fault Refusal :=
  s.row (below 32 conv && s.awake) fun s => s.senseBillet conv t codes

/-- Setting TONGS.PG_CTRL.EN checks the sense queues and starts the Tongs (R406). -/
def execTongsStart (m : Master) (s : State) : Host.Outcome State Fault Refusal :=
  s.row (m.ok && s.reaches m 0x72) fun s => s.pgWrite m 0x72 1 0

/-- A pass not ended 256 ticks before the boundary is handled as a mismatch (R408). -/
def execTongsDeadline (s : State) : Host.Outcome State Fault Refusal :=
  s.row s.awake fun s => s.tongsDeadline

/-- A write of DIAG.RUN starts a ring test of each named stopped channel (R438). -/
def execDiagRun (m : Master) (channels : Nat) (s : State) : Host.Outcome State Fault Refusal :=
  s.row (m.ok && below 65536 channels && s.reaches m 0x73) fun s => s.writeKey m Regs.DIAG_RUN (Word.of channels)

/-- Writing DIAG EN 0 ends running tests with END STOPPED (R653). -/
def execDiagDisable (m : Master) (s : State) : Host.Outcome State Fault Refusal :=
  s.row (m.ok && s.reaches m 0x73) fun s => s.pgWrite m 0x73 0 1

/-- A current above 1 A during the DC test stops it and classes the channel SHORT (R431). -/
def execRingTestOvercurrent (c : Nat) (s : State) : Host.Outcome State Fault Refusal :=
  s.row (below 16 c && s.awake) fun s => s.overcurrent c

/-- A ring test interrupted by PVDD, trip, stop, hold or fallback ends with its END code (R440). -/
def execRingAbort (c code : Nat) (s : State) : Host.Outcome State Fault Refusal :=
  s.row (below 16 c && ringCode code && s.awake) fun s => s.ringEvent c code

/-- A stage die regains lock on its die-to-die link and fault DIE_LINK clears by itself, leaving its channels stopped until START
(R589). -/
def execDieLinkRelock (dieA : Bool) (s : State) : Host.Outcome State Fault Refusal :=
  s.row s.awake fun s => s.dieRelock dieA

/-- A stage die's temperature falls below the die warning level and WARN DIE_OTW clears by itself (R589). -/
def execDieOtwEnd (dieA : Bool) (s : State) : Host.Outcome State Fault Refusal :=
  s.row s.awake fun s => s.dieWarn dieA false

end Sys2Proof.Machine
end

