-- ==== Sys2Proof/Machine/StockRows.lean ====
section
/-!
DEFINITION. Commands of the Stock, its queues and the ledger (chapter 05).
-/

namespace Sys2Proof.Machine

/-- A producer's credit request is granted a FREE billet while OUTSTANDING is below DEPTH, or refused (R137); `q.bad` says that
the billet's location record, read as it moves, holds an uncorrectable error (R154). -/
def execCreditGrant (q : LedgerRef) (s : State) : Host.Outcome State Fault Refusal :=
  s.row (below 1024 q.id && s.awake) fun s => (s.grant q.id .producer).2.locationRead q.bad

/-- A producer puts a filled billet on its queue, stamping DOMAIN, or it is refused as stale (R142). -/
def execBilletPut (q b gen stamp count offset flags : Nat) (data : List Word) (s : State) : Host.Outcome State Fault Refusal :=
  s.row (below 1024 q && below 65536 b && s.awake) fun s =>
    s.put q b gen { stamp := stamp, count := count, offset := offset, flags := flags } data

/-- A consumer takes the oldest billet from its queue (R137). -/
def execBilletTake (q : Nat) (s : State) : Host.Outcome State Fault Refusal :=
  s.row (below 1024 q && s.awake) fun s => (s.take q .consumer).2

/-- A consumer releases a billet, which returns to FREE with its credit (R137); `b.bad` as for a grant. -/
def execBilletRelease (b : LedgerRef) (s : State) : Host.Outcome State Fault Refusal :=
  s.row (below 65536 b.id && s.awake) fun s => (s.consumerRelease b.id).locationRead b.bad

/-- A write of a queue descriptor enables, resizes or disables the queue, drawing or returning billets (R141). -/
def execQueueDescriptorWrite (m : Master) (v : Word) (s : State) : Host.Outcome State Fault Refusal :=
  s.row (m.ok && s.reaches m 0x06) fun s => s.writeKey m Regs.STOCK_QD_CFG v

/-- A single-bit error in a billet or tag is corrected and written back (R147). -/
def execStockCe (s : State) : Host.Outcome State Fault Refusal :=
  s.row s.awake fun s => s.stockCe

/-- An uncorrectable error quarantines the billet, returns its credit and delivers a MISSING replacement (R148). -/
def execStockUe (b : Nat) (readable : Bool) (s : State) : Host.Outcome State Fault Refusal :=
  s.row (below 65536 b && s.awake) fun s => s.stockUe b readable

/-- The scrubber reads every billet, tag and location record of an enabled slab once every 4,096 strokes (R149);
with it come the errors that have arisen in the ledger's own memory (R154), the fault record (R596) and the Tongs (R424). -/
def execScrubPass (ce : Nat) (ue : ScrubErrors) (s : State) : Host.Outcome State Fault Refusal :=
  s.row (ue.billets.all (fun x => below 65536 x.1) && [0, 3, 4].contains ue.tongs && s.awake) fun s =>
    (s.scrub ce ue.billets).memoryErrors ue

/-- A STOCK soft reset in WARM disables every queue and rewrites and checks every billet (R150). -/
def execStockSrst (m : Master) (s : State) : Host.Outcome State Fault Refusal :=
  s.row (m.ok && s.reaches m 0x06) fun s => s.pgWrite m 0x06 4 0

/-- The Stock reset or rebuild finishes within 1 ms with failing billets in QUARANTINE and the rest FREE (R150). -/
def execStockRebuildDone (bad : List Nat) (s : State) : Host.Outcome State Fault Refusal :=
  s.row (bad.all (below 65536) && s.awake) fun s => s.rebuildDone bad

/-- A write of LEDGER.CTRL.AUDIT_NOW requests an audit at once in WARM or at the next boundary (R153). -/
def execAuditNow (m : Master) (s : State) : Host.Outcome State Fault Refusal :=
  s.row (m.ok && s.reaches m 0x07) fun s => s.writeKey m Regs.LEDGER_CTRL 1

end Sys2Proof.Machine
end

