-- ==== Sys2Proof/Machine/TestRows.lean ====
section
/-!
DEFINITION. Commands of test, loop-backs and JTAG (chapter 23).
-/

namespace Sys2Proof.Machine

/-- TEST.LOOP GO requests the named loop, which starts at the next boundary (R604). -/
def execLoopGo (m : Master) (iface inst depth : Nat) (s : State) : Host.Outcome State Fault Refusal :=
  s.row (m.ok && below 256 iface && below 16 inst && below 4 depth && s.reaches m 0x0E) fun s =>
    s.writeKey m Regs.TEST_LOOP (Word.of (2 ^ 31 + depth * 2 ^ 24 + inst * 2 ^ 16 + iface * 256))

/-- TEST.LOOP STOP ends the loop at the next boundary with its result (R604). -/
def execLoopStop (m : Master) (s : State) : Host.Outcome State Fault Refusal :=
  s.row (m.ok && s.reaches m 0x0E) fun s => s.writeKey m Regs.TEST_LOOP (s.w Regs.TEST_LOOP ||| 0x40000000)

/-- 32 matching words lock a BIT check and the loop enters RUN (R603). -/
def execLoopLock (s : State) : Host.Outcome State Fault Refusal :=
  s.row s.awake fun s => s.loopLock

/-- A BIT loop unlocked 64 strokes after start sets FAILED with NO_LOCK (R603). -/
def execNoLock (s : State) : Host.Outcome State Fault Refusal :=
  s.row s.awake fun s => s.loopNoLock

/-- Sleep entry, quench, privacy mute or link loss aborts a running loop (R605). -/
def execLoopAbort (s : State) : Host.Outcome State Fault Refusal :=
  s.row s.awake fun s => s.loopAbort

/-- A TEST write of INJ.EN turns fault injection on until reset (R608). -/
def execInjEnable (m : Master) (s : State) : Host.Outcome State Fault Refusal :=
  s.row (m.ok && s.reaches m 0x0E) fun s => s.writeKey m Regs.TEST_INJ 0x80000000

/-- Injects a double-counted billet in the next audit (R608). -/
def execInjLedger (m : Master) (s : State) : Host.Outcome State Fault Refusal :=
  s.row (m.ok && s.reaches m 0x0E) fun s => s.writeKey m Regs.TEST_INJ 1

/-- Injects a single-bit flip in the next billet read (R608). -/
def execInjStockCe (m : Master) (s : State) : Host.Outcome State Fault Refusal :=
  s.row (m.ok && s.reaches m 0x0E) fun s => s.writeKey m Regs.TEST_INJ 2

/-- Injects a two-bit flip in the next billet read (R608). -/
def execInjStockUe (m : Master) (s : State) : Host.Outcome State Fault Refusal :=
  s.row (m.ok && s.reaches m 0x0E) fun s => s.writeKey m Regs.TEST_INJ 4

/-- Injects one real mismatch in the next Tongs pass (R608). -/
def execInjTongsMis (m : Master) (s : State) : Host.Outcome State Fault Refusal :=
  s.row (m.ok && s.reaches m 0x0E) fun s => s.writeKey m Regs.TEST_INJ 8

/-- Makes the next strike test report no alarm (R608). -/
def execInjStrike (m : Master) (s : State) : Host.Outcome State Fault Refusal :=
  s.row (m.ok && s.reaches m 0x0E) fun s => s.writeKey m Regs.TEST_INJ 16

/-- JTAG EXTEST drives the boundary register and safes the stages (R611). -/
def execExtest (s : State) : Host.Outcome State Fault Refusal :=
  s.row s.powered fun s => s.jtagSelect 0

/-- JTAG SAMPLE/PRELOAD samples or preloads the boundary register (R609). -/
def execSamplePreload (bound : Nat) (s : State) : Host.Outcome State Fault Refusal :=
  s.row s.powered fun s => s.jtagPreload bound

/-- JTAG IDCODE selects the 32-bit identification register (R609). -/
def execIdcode (s : State) : Host.Outcome State Fault Refusal :=
  s.row s.powered fun s => s.jtagSelect 1

/-- JTAG HIGHZ sets outputs to high impedance and safes the stages (R611). -/
def execHighz (s : State) : Host.Outcome State Fault Refusal :=
  s.row s.powered fun s => s.jtagSelect 3

/-- JTAG BYPASS selects the 1-bit bypass register (R609). -/
def execBypass (s : State) : Host.Outcome State Fault Refusal :=
  s.row s.powered fun s => s.jtagSelect 31

/-- JTAG AUTH selects the access register limited to the authentication words (R610). -/
def execAuth (s : State) : Host.Outcome State Fault Refusal :=
  s.row s.powered fun s => s.jtagSelect 16

/-- JTAG CTRL selects the access register over the whole control space while TEST is open (R610). -/
def execCtrl (s : State) : Host.Outcome State Fault Refusal :=
  s.row s.powered fun s => s.jtagSelect 17

/-- Update-DR of the access register performs a control-space access as TEST (R610). -/
def execJtagAccess (wr : Bool) (addr : Nat) (v : Word) (s : State) : Host.Outcome State Fault Refusal :=
  s.row (below (2 ^ 18) addr) fun s => s.jtagAccess wr addr v

end Sys2Proof.Machine
end

