-- ==== Sys2Proof/Machine/WeldRows.lean ====
section
/-!
DEFINITION. Commands of the parameter welds and the command queue (chapter 06).
-/

namespace Sys2Proof.Machine

/-- A read of WELD.OPEN takes the lowest FREE identifier, marks it OPEN for the reader and returns it (R157). -/
def execWeldOpen (m : Master) (s : State) : Host.Outcome State Fault Refusal :=
  s.row (m.ok && s.reaches m 0x05) fun s => s.readKey m Regs.WELD_OPEN

/-- A master's write of its own weld selector selects an OPEN weld it opened or deselects (R159). -/
def execWeldSelect (m : Master) (id : Nat) (s : State) : Host.Outcome State Fault Refusal :=
  s.row (m.ok && below 16 id && s.reaches m 0x05) fun s => s.selectWeld m id

/-- A write to an STG register under a selected weld takes a staging entry, checked against the opener's rights (R162). -/
def execWeldStageWrite (m : Master) (p off : Nat) (v : Word) (s : State) : Host.Outcome State Fault Refusal :=
  s.row (m.ok && wordAt p off && s.reaches m p && (s.selected m).isSome) fun s => s.ctlWrite m p off v

/-- A write of WELD.COMMIT runs the first validation and makes the weld PENDING for its target or cold-shuts it (R165). -/
def execWeldCommit (m : Master) (v : Word) (s : State) : Host.Outcome State Fault Refusal :=
  s.row (m.ok && s.reaches m 0x05) fun s => s.writeKey m Regs.WELD_COMMIT v

/-- A write of WELD.ABORT cold-shuts the master's OPEN or PENDING weld with ABORTED (R170). -/
def execWeldAbort (m : Master) (id : Nat) (s : State) : Host.Outcome State Fault Refusal :=
  s.row (m.ok && below 16 id && s.reaches m 0x05) fun s => s.writeKey m Regs.WELD_ABORT (Word.of id)

/-- A write of WELD.UNDO within the re-heat window commits an undo for the first boundary 256 ticks later (R171). -/
def execWeldUndo (m : Master) (id : Nat) (s : State) : Host.Outcome State Fault Refusal :=
  s.row (m.ok && below 16 id && s.reaches m 0x05) fun s => s.writeKey m Regs.WELD_UNDO (Word.of id)

/-- After step 2 of boundary b + 4 an undo record without an accepted undo is discarded and the weld CLOSED (R171). -/
def execReheatWindowEnd (s : State) : Host.Outcome State Fault Refusal :=
  s.row s.awake fun s => s.closeWindows s.strokeNo

/-- An STG write with no weld selected and queuing in force enters CMDQ, or is refused when full (R187). -/
def execCmdqEnqueue (m : Master) (p off : Nat) (v : Word) (s : State) : Host.Outcome State Fault Refusal :=
  s.row (m.ok && wordAt p off && s.reaches m p && (s.queueActive m && (s.selected m).isNone)) fun s => s.ctlWrite m p off v

end Sys2Proof.Machine
end

