-- ==== Sys2Proof/Machine/Dispatch.lean ====
section
/-!
DEFINITION. One arm per command: a direct call of its meaning.
-/

namespace Sys2Proof.Machine

/-- The effect of a command on everything but the queue of waiting commands. -/
def exec (i : Instr) (s : State) : Host.Outcome State Fault Refusal :=
  match i with
  | .tbTick => Sys2Proof.Machine.execTbTick s
  | .tbBroadcast replicas => Sys2Proof.Machine.execTbBroadcast replicas s
  | .slowClockEdge => Sys2Proof.Machine.execSlowClockEdge s
  | .strokeBoundary => Sys2Proof.Machine.execStrokeBoundary s
  | .strokeDeadline => Sys2Proof.Machine.execStrokeDeadline s
  | .registerWrite m p off v => Sys2Proof.Machine.execRegisterWrite m p off v s
  | .wideLoRead m p off => Sys2Proof.Machine.execWideLoRead m p off s
  | .srst m p => Sys2Proof.Machine.execSrst m p s
  | .softResetDone p => Sys2Proof.Machine.execSoftResetDone p s
  | .pageEnable m p on => Sys2Proof.Machine.execPageEnable m p on s
  | .pgFreeze m p on => Sys2Proof.Machine.execPgFreeze m p on s
  | .irqPendClear m p v => Sys2Proof.Machine.execIrqPendClear m p v s
  | .irqForce m p v => Sys2Proof.Machine.execIrqForce m p v s
  | .pgAccessWrite m p v => Sys2Proof.Machine.execPgAccessWrite m p v s
  | .pgLockWrite m p v => Sys2Proof.Machine.execPgLockWrite m p v s
  | .clockDomainStart d => Sys2Proof.Machine.execClockDomainStart d s
  | .clockDomainStop d => Sys2Proof.Machine.execClockDomainStop d s
  | .porRelease defStrap role addr => Sys2Proof.Machine.execPorRelease defStrap role addr s
  | .vaonReset kept => Sys2Proof.Machine.execVaonReset kept s
  | .sysReset m v => Sys2Proof.Machine.execSysReset m v s
  | .bootSequence fast magic => Sys2Proof.Machine.execBootSequence fast magic s
  | .pwrModeRequest m req => Sys2Proof.Machine.execPwrModeRequest m req s
  | .pllaLock => Sys2Proof.Machine.execPllaLock s
  | .forgingEntry => Sys2Proof.Machine.execForgingEntry s
  | .forgingExit => Sys2Proof.Machine.execForgingExit s
  | .sleepEntry => Sys2Proof.Machine.execSleepEntry s
  | .wakeEvent e => Sys2Proof.Machine.execWakeEvent e s
  | .pwrAlarm => Sys2Proof.Machine.execPwrAlarm s
  | .fastClockLoss => Sys2Proof.Machine.execFastClockLoss s
  | .slowClockFail => Sys2Proof.Machine.execSlowClockFail s
  | .hearthRateWrite m v => Sys2Proof.Machine.execHearthRateWrite m v s
  | .clkSrcWrite m v => Sys2Proof.Machine.execClkSrcWrite m v s
  | .pllbLockSet pull => Sys2Proof.Machine.execPllbLockSet pull s
  | .pllbLockClear => Sys2Proof.Machine.execPllbLockClear s
  | .pllbHoldover => Sys2Proof.Machine.execPllbHoldover s
  | .vaonWarningFall => Sys2Proof.Machine.execVaonWarningFall s
  | .braceEnd => Sys2Proof.Machine.execBraceEnd s
  | .vsysUndervoltage => Sys2Proof.Machine.execVsysUndervoltage s
  | .vsysUvTimeout => Sys2Proof.Machine.execVsysUvTimeout s
  | .captureEdge pin rising tick => Sys2Proof.Machine.execCaptureEdge pin rising tick s
  | .capHiRead m n => Sys2Proof.Machine.execCapHiRead m n s
  | .schedArm m => Sys2Proof.Machine.execSchedArm m s
  | .schedCancel m index => Sys2Proof.Machine.execSchedCancel m index s
  | .schedFire => Sys2Proof.Machine.execSchedFire s
  | .schedAccept => Sys2Proof.Machine.execSchedAccept s
  | .portStart m index payload => Sys2Proof.Machine.execPortStart m index payload s
  | .portStop m index payload => Sys2Proof.Machine.execPortStop m index payload s
  | .stageStart m index payload => Sys2Proof.Machine.execStageStart m index payload s
  | .stageMute m index payload => Sys2Proof.Machine.execStageMute m index payload s
  | .stageUnmute m index payload => Sys2Proof.Machine.execStageUnmute m index payload s
  | .actionWeldCommit m index payload => Sys2Proof.Machine.execActionWeldCommit m index payload s
  | .auxInj m index payload => Sys2Proof.Machine.execAuxInj m index payload s
  | .gpioSet m index payload => Sys2Proof.Machine.execGpioSet m index payload s
  | .gpioClr m index payload => Sys2Proof.Machine.execGpioClr m index payload s
  | .actionIrq m index payload => Sys2Proof.Machine.execActionIrq m index payload s
  | .actionTest m index payload => Sys2Proof.Machine.execActionTest m index payload s
  | .tbAcquire stamp => Sys2Proof.Machine.execTbAcquire stamp s
  | .followerLockSet => Sys2Proof.Machine.execFollowerLockSet s
  | .creditGrant q => Sys2Proof.Machine.execCreditGrant q s
  | .billetPut q b gen stamp count offset flags data => Sys2Proof.Machine.execBilletPut q b gen stamp count offset flags data s
  | .billetTake q => Sys2Proof.Machine.execBilletTake q s
  | .billetRelease b => Sys2Proof.Machine.execBilletRelease b s
  | .queueDescriptorWrite m v => Sys2Proof.Machine.execQueueDescriptorWrite m v s
  | .stockCe => Sys2Proof.Machine.execStockCe s
  | .stockUe b readable => Sys2Proof.Machine.execStockUe b readable s
  | .scrubPass ce ue => Sys2Proof.Machine.execScrubPass ce ue s
  | .stockSrst m => Sys2Proof.Machine.execStockSrst m s
  | .stockRebuildDone bad => Sys2Proof.Machine.execStockRebuildDone bad s
  | .auditNow m => Sys2Proof.Machine.execAuditNow m s
  | .weldOpen m => Sys2Proof.Machine.execWeldOpen m s
  | .weldSelect m id => Sys2Proof.Machine.execWeldSelect m id s
  | .weldStageWrite m p off v => Sys2Proof.Machine.execWeldStageWrite m p off v s
  | .weldCommit m v => Sys2Proof.Machine.execWeldCommit m v s
  | .weldAbort m id => Sys2Proof.Machine.execWeldAbort m id s
  | .weldUndo m id => Sys2Proof.Machine.execWeldUndo m id s
  | .reheatWindowEnd => Sys2Proof.Machine.execReheatWindowEnd s
  | .cmdqEnqueue m p off v => Sys2Proof.Machine.execCmdqEnqueue m p off v s
  | .startTx m n => Sys2Proof.Machine.execStartTx m n s
  | .startRx m n => Sys2Proof.Machine.execStartRx m n s
  | .stopTx m n => Sys2Proof.Machine.execStopTx m n s
  | .stopRx m n => Sys2Proof.Machine.execStopRx m n s
  | .sapRxFrame n tick nbits words => Sys2Proof.Machine.execSapRxFrame n tick nbits words s
  | .sapStall n rx => Sys2Proof.Machine.execSapStall n rx s
  | .sapTxFrame n tick nbits disagree => Sys2Proof.Machine.execSapTxFrame n tick nbits disagree s
  | .slotResume n slot => Sys2Proof.Machine.execSlotResume n slot s
  | .spdifStart m => Sys2Proof.Machine.execSpdifStart m s
  | .spdifStop m => Sys2Proof.Machine.execSpdifStop m s
  | .spdifFrame tick good first a b => Sys2Proof.Machine.execSpdifFrame tick good first a b s
  | .spdifLock rate => Sys2Proof.Machine.execSpdifLock rate s
  | .spdifStall => Sys2Proof.Machine.execSpdifStall s
  | .bypassPlace q => Sys2Proof.Machine.execBypassPlace q s
  | .onchipCaptureSample x => Sys2Proof.Machine.execOnchipCaptureSample x s
  | .asrcEnable m n => Sys2Proof.Machine.execAsrcEnable m n s
  | .asrcInputBillet n c fi err => Sys2Proof.Machine.execAsrcInputBillet n c fi err s
  | .asrcGridSample n => Sys2Proof.Machine.execAsrcGridSample n s
  | .patchEntryWrite m lo hi => Sys2Proof.Machine.execPatchEntryWrite m lo hi s
  | .patchInval m v => Sys2Proof.Machine.execPatchInval m v s
  | .patchCopy m => Sys2Proof.Machine.execPatchCopy m s
  | .patchCopyDone => Sys2Proof.Machine.execPatchCopyDone s
  | .incComputeStroke n => Sys2Proof.Machine.execIncComputeStroke n s
  | .finComputeStroke n => Sys2Proof.Machine.execFinComputeStroke n s
  | .mixNodeCompute n => Sys2Proof.Machine.execMixNodeCompute n s
  | .meterClear m p => Sys2Proof.Machine.execMeterClear m p s
  | .go m n => Sys2Proof.Machine.execGo m n s
  | .halt m n => Sys2Proof.Machine.execHalt m n s
  | .step m n => Sys2Proof.Machine.execStep m n s
  | .anvilHalted n => Sys2Proof.Machine.execAnvilHalted n s
  | .anvilStopReset m n srst => Sys2Proof.Machine.execAnvilStopReset m n srst s
  | .mdataAccess m n wr v => Sys2Proof.Machine.execMdataAccess m n wr v s
  | .benchRateWrite m n rate => Sys2Proof.Machine.execBenchRateWrite m n rate s
  | .varrSettled n => Sys2Proof.Machine.execVarrSettled n s
  | .done n => Sys2Proof.Machine.execDone n s
  | .btake n h t p => Sys2Proof.Machine.execBtake n h t p s
  | .bgrant n h t => Sys2Proof.Machine.execBgrant n h t s
  | .bput n h p => Sys2Proof.Machine.execBput n h p s
  | .brel n h => Sys2Proof.Machine.execBrel n h s
  | .brd n ring idx p => Sys2Proof.Machine.execBrd n ring idx p s
  | .bwr n ring idx p => Sys2Proof.Machine.execBwr n ring idx p s
  | .billetOpComplete n h => Sys2Proof.Machine.execBilletOpComplete n h s
  | .billetCopyDone n => Sys2Proof.Machine.execBilletCopyDone n s
  | .hwait n h d => Sys2Proof.Machine.execHwait n h d s
  | .hstat n h d => Sys2Proof.Machine.execHstat n h d s
  | .rwait n d => Sys2Proof.Machine.execRwait n d s
  | .hget n h d hi => Sys2Proof.Machine.execHget n h d hi s
  | .hset n h d hi => Sys2Proof.Machine.execHset n h d hi s
  | .mov n d a w => Sys2Proof.Machine.execMov n d a w s
  | .add n d a b w => Sys2Proof.Machine.execAdd n d a b w s
  | .sub n d a b w => Sys2Proof.Machine.execSub n d a b w s
  | .and n d a b w => Sys2Proof.Machine.execAnd n d a b w s
  | .or n d a b w => Sys2Proof.Machine.execOr n d a b w s
  | .xor n d a b w => Sys2Proof.Machine.execXor n d a b w s
  | .not n d a w => Sys2Proof.Machine.execNot n d a w s
  | .neg n d a w => Sys2Proof.Machine.execNeg n d a w s
  | .abs n d a w => Sys2Proof.Machine.execAbs n d a w s
  | .min n d a b w => Sys2Proof.Machine.execMin n d a b w s
  | .max n d a b w => Sys2Proof.Machine.execMax n d a b w s
  | .cmp n a b w => Sys2Proof.Machine.execCmp n a b w s
  | .shl n d a b w => Sys2Proof.Machine.execShl n d a b w s
  | .shr n d a b w => Sys2Proof.Machine.execShr n d a b w s
  | .asr n d a b w => Sys2Proof.Machine.execAsr n d a b w s
  | .cls n d a w => Sys2Proof.Machine.execCls n d a w s
  | .movi n d v => Sys2Proof.Machine.execMovi n d v s
  | .addi n d v => Sys2Proof.Machine.execAddi n d v s
  | .cmpi n d v => Sys2Proof.Machine.execCmpi n d v s
  | .andi n d v => Sys2Proof.Machine.execAndi n d v s
  | .ori n d v => Sys2Proof.Machine.execOri n d v s
  | .shli n d v => Sys2Proof.Machine.execShli n d v s
  | .asri n d v => Sys2Proof.Machine.execAsri n d v s
  | .shri n d v => Sys2Proof.Machine.execShri n d v s
  | .ext n d src => Sys2Proof.Machine.execExt n d src s
  | .extw n d src => Sys2Proof.Machine.execExtw n d src s
  | .aclr n ad => Sys2Proof.Machine.execAclr n ad s
  | .aldw n ad d => Sys2Proof.Machine.execAldw n ad d s
  | .ashi n ad src v => Sys2Proof.Machine.execAshi n ad src v s
  | .ashx n ad src => Sys2Proof.Machine.execAshx n ad src s
  | .aadd n ad src => Sys2Proof.Machine.execAadd n ad src s
  | .asub n ad src => Sys2Proof.Machine.execAsub n ad src s
  | .amov n ad src => Sys2Proof.Machine.execAmov n ad src s
  | .aneg n ad src => Sys2Proof.Machine.execAneg n ad src s
  | .aabs n ad src => Sys2Proof.Machine.execAabs n ad src s
  | .ld n reg p am md off => Sys2Proof.Machine.execLd n reg p am md off s
  | .ldw n reg p am md off => Sys2Proof.Machine.execLdw n reg p am md off s
  | .ldn n reg p am md off => Sys2Proof.Machine.execLdn n reg p am md off s
  | .lda n reg p am md off => Sys2Proof.Machine.execLda n reg p am md off s
  | .st n reg p am md off => Sys2Proof.Machine.execSt n reg p am md off s
  | .stw n reg p am md off => Sys2Proof.Machine.execStw n reg p am md off s
  | .std n reg p am md off => Sys2Proof.Machine.execStd n reg p am md off s
  | .ste n reg p am md off => Sys2Proof.Machine.execSte n reg p am md off s
  | .norm n p am md off => Sys2Proof.Machine.execNorm n p am md off s
  | .normr n reg => Sys2Proof.Machine.execNormr n reg s
  | .pset n p v => Sys2Proof.Machine.execPset n p v s
  | .padd n p v => Sys2Proof.Machine.execPadd n p v s
  | .mvc n reg w cr => Sys2Proof.Machine.execMvc n reg w cr s
  | .mvf n reg w cr => Sys2Proof.Machine.execMvf n reg w cr s
  | .mpy n acc x y sgn sh lx px mx ly py my width => Sys2Proof.Machine.execMpy n acc x y sgn sh lx px mx ly py my width s
  | .mac n acc x y sgn sh lx px mx ly py my width => Sys2Proof.Machine.execMac n acc x y sgn sh lx px mx ly py my width s
  | .msu n acc x y sgn sh lx px mx ly py my width => Sys2Proof.Machine.execMsu n acc x y sgn sh lx px mx ly py my width s
  | .br n cond target => Sys2Proof.Machine.execBr n cond target s
  | .jmp n cond target => Sys2Proof.Machine.execJmp n cond target s
  | .call n cond target => Sys2Proof.Machine.execCall n cond target s
  | .ret n cond => Sys2Proof.Machine.execRet n cond s
  | .loop n lc src stop count => Sys2Proof.Machine.execLoop n lc src stop count s
  | .loopExit n => Sys2Proof.Machine.execLoopExit n s
  | .div n d a b => Sys2Proof.Machine.execDiv n d a b s
  | .sqrt n d a => Sys2Proof.Machine.execSqrt n d a s
  | .rsqrt n d a => Sys2Proof.Machine.execRsqrt n d a s
  | .log2 n d a => Sys2Proof.Machine.execLog2 n d a s
  | .exp2 n d a => Sys2Proof.Machine.execExp2 n d a s
  | .mul32 n d a b => Sys2Proof.Machine.execMul32 n d a b s
  | .coprocResult n => Sys2Proof.Machine.execCoprocResult n s
  | .crd n d a => Sys2Proof.Machine.execCrd n d a s
  | .cwr n d a => Sys2Proof.Machine.execCwr n d a s
  | .nop n => Sys2Proof.Machine.execNop n s
  | .rte n => Sys2Proof.Machine.execRte n s
  | .brk n => Sys2Proof.Machine.execBrk n s
  | .exceptionEntry n => Sys2Proof.Machine.execExceptionEntry n s
  | .breakpointMatch n => Sys2Proof.Machine.execBreakpointMatch n s
  | .dbgRdataAccess m wr v => Sys2Proof.Machine.execDbgRdataAccess m wr v s
  | .stageCmdStart m c => Sys2Proof.Machine.execStageCmdStart m c s
  | .stageCmdStop m c => Sys2Proof.Machine.execStageCmdStop m c s
  | .stageCmdClear m c => Sys2Proof.Machine.execStageCmdClear m c s
  | .stageDisable m c => Sys2Proof.Machine.execStageDisable m c s
  | .inrushEnd c outP outN pvdd => Sys2Proof.Machine.execInrushEnd c outP outN pvdd s
  | .settleEnd c => Sys2Proof.Machine.execSettleEnd c s
  | .stopDischargeEnd c => Sys2Proof.Machine.execStopDischargeEnd c s
  | .stageTrip c => Sys2Proof.Machine.execStageTrip c s
  | .retryTimer c => Sys2Proof.Machine.execRetryTimer c s
  | .retryCountReset c => Sys2Proof.Machine.execRetryCountReset c s
  | .xstFaultInput x => Sys2Proof.Machine.execXstFaultInput x s
  | .xstFaultRelease x => Sys2Proof.Machine.execXstFaultRelease x s
  | .pvddUndervoltage dieA => Sys2Proof.Machine.execPvddUndervoltage dieA s
  | .pvddOvervoltage dieA => Sys2Proof.Machine.execPvddOvervoltage dieA s
  | .dieShutdown dieA => Sys2Proof.Machine.execDieShutdown dieA s
  | .dieConditionEnd dieA code => Sys2Proof.Machine.execDieConditionEnd dieA code s
  | .dieOtw dieA => Sys2Proof.Machine.execDieOtw dieA s
  | .dieLinkLoss dieA => Sys2Proof.Machine.execDieLinkLoss dieA s
  | .pvddLow mv => Sys2Proof.Machine.execPvddLow mv s
  | .pvddRecovered mv => Sys2Proof.Machine.execPvddRecovered mv s
  | .pauseTimeout c => Sys2Proof.Machine.execPauseTimeout c s
  | .trackerUpdate => Sys2Proof.Machine.execTrackerUpdate s
  | .trackerMessageDone ack => Sys2Proof.Machine.execTrackerMessageDone ack s
  | .senseBilletBegin conv t codes => Sys2Proof.Machine.execSenseBilletBegin conv t codes s
  | .tongsStart m => Sys2Proof.Machine.execTongsStart m s
  | .tongsDeadline => Sys2Proof.Machine.execTongsDeadline s
  | .diagRun m channels => Sys2Proof.Machine.execDiagRun m channels s
  | .diagDisable m => Sys2Proof.Machine.execDiagDisable m s
  | .ringTestOvercurrent c => Sys2Proof.Machine.execRingTestOvercurrent c s
  | .ringAbort c code => Sys2Proof.Machine.execRingAbort c code s
  | .micPathEnable m k hq lp => Sys2Proof.Machine.execMicPathEnable m k hq lp s
  | .biasOc n => Sys2Proof.Machine.execBiasOc n s
  | .wakeDetectorWindow level => Sys2Proof.Machine.execWakeDetectorWindow level s
  | .wakeFire m score => Sys2Proof.Machine.execWakeFire m score s
  | .acousticWake => Sys2Proof.Machine.execAcousticWake s
  | .historyDrainBillet => Sys2Proof.Machine.execHistoryDrainBillet s
  | .privacyMuteAssert => Sys2Proof.Machine.execPrivacyMuteAssert s
  | .privacyMuteRelease => Sys2Proof.Machine.execPrivacyMuteRelease s
  | .muteLedCheck ua mv => Sys2Proof.Machine.execMuteLedCheck ua mv s
  | .linStart m => Sys2Proof.Machine.execLinStart m s
  | .linStop m => Sys2Proof.Machine.execLinStop m s
  | .linDisable m srst => Sys2Proof.Machine.execLinDisable m srst s
  | .hpoStart m => Sys2Proof.Machine.execHpoStart m s
  | .hpoStop m => Sys2Proof.Machine.execHpoStop m s
  | .hpoRailsReady => Sys2Proof.Machine.execHpoRailsReady s
  | .hpoClampRelease => Sys2Proof.Machine.execHpoClampRelease s
  | .hpoStopped => Sys2Proof.Machine.execHpoStopped s
  | .hpoSc => Sys2Proof.Machine.execHpoSc s
  | .hpoDisable m => Sys2Proof.Machine.execHpoDisable m s
  | .jackChange lin level => Sys2Proof.Machine.execJackChange lin level s
  | .auxStart m n => Sys2Proof.Machine.execAuxStart m n s
  | .auxStop m n => Sys2Proof.Machine.execAuxStop m n s
  | .refEnWrite m n on => Sys2Proof.Machine.execRefEnWrite m n on s
  | .refRdy n => Sys2Proof.Machine.execRefRdy n s
  | .auxScanStart n => Sys2Proof.Machine.execAuxScanStart n s
  | .auxInjTrigger n => Sys2Proof.Machine.execAuxInjTrigger n s
  | .auxConversion n code ovr => Sys2Proof.Machine.execAuxConversion n code ovr s
  | .plausAction code0 ovr0 code1 ovr1 => Sys2Proof.Machine.execPlausAction code0 ovr0 code1 ovr1 s
  | .key => Sys2Proof.Machine.execKey s
  | .setPtr bytes => Sys2Proof.Machine.execSetPtr bytes s
  | .writeWord bytes => Sys2Proof.Machine.execWriteWord bytes s
  | .writeBlock count bytes => Sys2Proof.Machine.execWriteBlock count bytes s
  | .readWord => Sys2Proof.Machine.execReadWord s
  | .readBlock sent => Sys2Proof.Machine.execReadBlock sent s
  | .weldOp => Sys2Proof.Machine.execWeldOp s
  | .status => Sys2Proof.Machine.execStatus s
  | .notifyCfg => Sys2Proof.Machine.execNotifyCfg s
  | .pecErr => Sys2Proof.Machine.execPecErr s
  | .twtStartCondition => Sys2Proof.Machine.execTwtStartCondition s
  | .twtTimeout sda => Sys2Proof.Machine.execTwtTimeout sda s
  | .notifySend res => Sys2Proof.Machine.execNotifySend res s
  | .twcStart m n data => Sys2Proof.Machine.execTwcStart m n data s
  | .twcWrite m n pec data => Sys2Proof.Machine.execTwcWrite m n pec data s
  | .twcRead m n pec last => Sys2Proof.Machine.execTwcRead m n pec last s
  | .twcStop m n => Sys2Proof.Machine.execTwcStop m n s
  | .twcOperationDone n res byte recov => Sys2Proof.Machine.execTwcOperationDone n res byte recov s
  | .twcRxdRead m n => Sys2Proof.Machine.execTwcRxdRead m n s
  | .twcAbandoned n => Sys2Proof.Machine.execTwcAbandoned n s
  | .twcTimeout => Sys2Proof.Machine.execTwcTimeout s
  | .write addr bytes crcOk => Sys2Proof.Machine.execWrite addr bytes crcOk s
  | .read addr words => Sys2Proof.Machine.execRead addr words s
  | .qwrite addr bytes crcOk => Sys2Proof.Machine.execQwrite addr bytes crcOk s
  | .qread addr words => Sys2Proof.Machine.execQread addr words s
  | .swrite addr bytes crcOk => Sys2Proof.Machine.execSwrite addr bytes crcOk s
  | .sread addr words => Sys2Proof.Machine.execSread addr words s
  | .qswrite addr bytes crcOk => Sys2Proof.Machine.execQswrite addr bytes crcOk s
  | .qsread addr words => Sys2Proof.Machine.execQsread addr words s
  | .spitStatus => Sys2Proof.Machine.execSpitStatus s
  | .qspiXfer m byte qin => Sys2Proof.Machine.execQspiXfer m byte qin s
  | .linkTrain => Sys2Proof.Machine.execLinkTrain s
  | .ping rtt => Sys2Proof.Machine.execPing rtt s
  | .linkUp => Sys2Proof.Machine.execLinkUp s
  | .linkLossOfLock => Sys2Proof.Machine.execLinkLossOfLock s
  | .superframeSend => Sys2Proof.Machine.execSuperframeSend s
  | .superframeReceive f e => Sys2Proof.Machine.execSuperframeReceive f e s
  | .superframeMiss => Sys2Proof.Machine.execSuperframeMiss s
  | .prepare seq target id => Sys2Proof.Machine.execPrepare seq target id s
  | .vote seq yes => Sys2Proof.Machine.execVote seq yes s
  | .abort seq => Sys2Proof.Machine.execAbort seq s
  | .regRead seq addr => Sys2Proof.Machine.execRegRead seq addr s
  | .regWrite seq addr v => Sys2Proof.Machine.execRegWrite seq addr v s
  | .result seq code data => Sys2Proof.Machine.execResult seq code data s
  | .train d => Sys2Proof.Machine.execTrain d s
  | .hello mark identity rate96 adopt => Sys2Proof.Machine.execHello mark identity rate96 adopt s
  | .proof identity good => Sys2Proof.Machine.execProof identity good s
  | .accept epoch good => Sys2Proof.Machine.execAccept epoch good s
  | .refuse reason => Sys2Proof.Machine.execRefuse reason s
  | .adoptEnd digest => Sys2Proof.Machine.execAdoptEnd digest s
  | .adoptionWeld => Sys2Proof.Machine.execAdoptionWeld s
  | .detachMessage seq target => Sys2Proof.Machine.execDetachMessage seq target s
  | .detachAck => Sys2Proof.Machine.execDetachAck s
  | .attach m adopt => Sys2Proof.Machine.execAttach m adopt s
  | .detach m => Sys2Proof.Machine.execDetach m s
  | .attachTimeout => Sys2Proof.Machine.execAttachTimeout s
  | .mirrorStale => Sys2Proof.Machine.execMirrorStale s
  | .rcmd m wr addr => Sys2Proof.Machine.execRcmd m wr addr s
  | .authNew m => Sys2Proof.Machine.execAuthNew m s
  | .authEnd m => Sys2Proof.Machine.execAuthEnd m s
  | .authOwnerSession m => Sys2Proof.Machine.execAuthOwnerSession m s
  | .authTestVendor m => Sys2Proof.Machine.execAuthTestVendor m s
  | .authTestConsent m => Sys2Proof.Machine.execAuthTestConsent m s
  | .authCheckDone m good => Sys2Proof.Machine.execAuthCheckDone m good s
  | .lcToOwned m => Sys2Proof.Machine.execLcToOwned m s
  | .lcToField m => Sys2Proof.Machine.execLcToField m s
  | .lcToReturned m => Sys2Proof.Machine.execLcToReturned m s
  | .otpProg m v => Sys2Proof.Machine.execOtpProg m v s
  | .otpProgDone good => Sys2Proof.Machine.execOtpProgDone good s
  | .rbAdvance m v => Sys2Proof.Machine.execRbAdvance m v s
  | .imgLoad m => Sys2Proof.Machine.execImgLoad m s
  | .imgVerifyDone image => Sys2Proof.Machine.execImgVerifyDone image s
  | .imgReglistWeld => Sys2Proof.Machine.execImgReglistWeld s
  | .imgLoadDone => Sys2Proof.Machine.execImgLoadDone s
  | .faultClear m code src => Sys2Proof.Machine.execFaultClear m code src s
  | .quench => Sys2Proof.Machine.execQuench s
  | .quenchComplete => Sys2Proof.Machine.execQuenchComplete s
  | .coincident code src => Sys2Proof.Machine.execCoincident code src s
  | .queuedRecoveryStart => Sys2Proof.Machine.execQueuedRecoveryStart s
  | .coreOtw => Sys2Proof.Machine.execCoreOtw s
  | .coreOts => Sys2Proof.Machine.execCoreOts s
  | .loopGo m iface inst depth => Sys2Proof.Machine.execLoopGo m iface inst depth s
  | .loopStop m => Sys2Proof.Machine.execLoopStop m s
  | .loopLock => Sys2Proof.Machine.execLoopLock s
  | .noLock => Sys2Proof.Machine.execNoLock s
  | .loopAbort => Sys2Proof.Machine.execLoopAbort s
  | .injEnable m => Sys2Proof.Machine.execInjEnable m s
  | .injLedger m => Sys2Proof.Machine.execInjLedger m s
  | .injStockCe m => Sys2Proof.Machine.execInjStockCe m s
  | .injStockUe m => Sys2Proof.Machine.execInjStockUe m s
  | .injTongsMis m => Sys2Proof.Machine.execInjTongsMis m s
  | .injStrike m => Sys2Proof.Machine.execInjStrike m s
  | .extest => Sys2Proof.Machine.execExtest s
  | .samplePreload bound => Sys2Proof.Machine.execSamplePreload bound s
  | .idcode => Sys2Proof.Machine.execIdcode s
  | .highz => Sys2Proof.Machine.execHighz s
  | .bypass => Sys2Proof.Machine.execBypass s
  | .auth => Sys2Proof.Machine.execAuth s
  | .ctrl => Sys2Proof.Machine.execCtrl s
  | .jtagAccess wr addr v => Sys2Proof.Machine.execJtagAccess wr addr v s
  | .keyRepeat => Sys2Proof.Machine.execKeyRepeat s
  | .sourceChangeStep => Sys2Proof.Machine.execSourceChangeStep s
  | .drouteRelease m => Sys2Proof.Machine.execDrouteRelease m s
  | .vsysUvRecovery => Sys2Proof.Machine.execVsysUvRecovery s
  | .fastSourceRestored => Sys2Proof.Machine.execFastSourceRestored s
  | .dieLinkRelock dieA => Sys2Proof.Machine.execDieLinkRelock dieA s
  | .coreOtwEnd => Sys2Proof.Machine.execCoreOtwEnd s
  | .dieOtwEnd dieA => Sys2Proof.Machine.execDieOtwEnd dieA s
  | .mbiasOcEnd n => Sys2Proof.Machine.execMbiasOcEnd n s
  | .vioLoss => Sys2Proof.Machine.execVioLoss s
  | .vioReturn => Sys2Proof.Machine.execVioReturn s
  | .qspiXferDone byte => Sys2Proof.Machine.execQspiXferDone byte s

end Sys2Proof.Machine
end

