-- ==== Sys2Proof/Machine/Step.lean ====
section
/-!
DEFINITION. One step of the block: the command at the front of the queue is taken and runs.
-/

namespace Sys2Proof.Machine

/-- The command at the front of the queue runs with the rest waiting; with nothing waiting the block idles.
(Log entries 1: DESIGN CHOICE, 2: DESIGN CHOICE, 6: DESIGN CHOICE.) -/
def step (s : State) : Host.Outcome State Fault Refusal :=
  match s.pending with
  | [] => .next s
  | c :: rest => exec c { s with pending := rest }

/-- `s` with the command that a word spells at the front of its queue; `s` itself where it spells none. (Log entry 1: DESIGN CHOICE.) -/
def State.withFetchWord (s : State) (nbits w : Nat) : State :=
  match decodeTableWord nbits w with
  | some c => { s with pending := c :: s.pending }
  | none => s

end Sys2Proof.Machine
end

