-- ==== Sys2Proof/Safety.lean ====
section
/-!
DEFINITION. What counts as a sound state of the block, and as a safe run: the terms in which the statements speak.
-/

namespace Sys2Proof.Machine

/-- The stores of registers and of billets are in canonical form: their keys rise strictly, and no entry holds what an unlisted key reads
as. (Log entry 12: DEDUCED.) -/
def Memory.wf (s : State) : Bool := Sparse.wf resetWord s.words && Sparse.wf (fun _ => ({} : Billet)) s.stock.mem

/-- The block answers a next state: it neither faults nor refuses. -/
def Answers (o : Host.Outcome State Fault Refusal) : Prop := ∃ t, o = .next t

/-- The state a command leaves whose own effect on `s` is `t`: what follows it at once has happened, and the commands that waited wait. -/
def State.ends (s t : State) : State := (t.settle s).commit s

/-- Nothing follows a command that leaves this state: no step of an anvil is requested, no takeover, weld of the loader or of the pair,
loop or transfer waits on a condition, and the levels that show a condition show it. -/
def State.quiet (s : State) : Bool :=
  (s.anvs.all fun x => !x.2.stepReq) && !s.fault.takeover && !s.mirrors && s.pair.prof.isNone && s.pair.jobs.isEmpty &&
    s.img.weld.isNone && s.tst.loop.isNone && ((List.range 12).all fun n => !s.en (pgAsrc n)) &&
    ((List.range 6).all fun n => s.sapState n false != 3) && s.pair.transit.isEmpty &&
    s.overcommitted == s.faultActive 0x11 0x06 && s.b (Regs.IRQ_RAW pgWeld) 4 == s.freeIds.isEmpty &&
    s.b (Regs.IRQ_RAW pgSched) 3 == decide (schedSize ≤ s.sched.length)

/-! ### Register accesses -/

/-- A write of `v` by master `m` to the word at byte offset `off` of page `p` is accepted and acts directly (R45 to R51, R59, R60, R647):
the register exists and has a writable field, `v` sets no reserved bit, the master selects no weld and has the right, the page is not
busy and the word not locked, an STG word may be written directly, and neither the value nor the block's state refuses it. A LO word of a
wide value and a weld selector have rules of their own. -/
def State.accepts (s : State) (m : Master) (p off : Nat) (v : Word) : Bool :=
  let k := s.resolve m p off
  (pageKind p).isSome && !selWord p off && (weldExempt p off || (s.selected m).isNone) &&
    !s.writeForbidden m (s.domainOf m) false p off k v && !s.shutBusy p &&
    !s.locked p off && !wideLo p off &&
    (match rowAt p off with
     | none => false
     | some r =>
       r.writable != 0 && v &&& ~~~(Word.of r.assigned) == 0 && (!r.isStg || (!s.queueActive m && s.b (Regs.PG_WELD p) 1)) &&
         (s.directRefused (s.entryOf m k v)).isNone)

/-- A write of the LO word of a wide value is accepted: it waits for the HI word (R69). -/
def State.acceptsLo (s : State) (m : Master) (p off : Nat) (v : Word) : Bool :=
  let k := s.resolve m p off
  (pageKind p).isSome && !selWord p off && (weldExempt p off || (s.selected m).isNone) &&
    !s.writeForbidden m (s.domainOf m) false p off k v && !s.shutBusy p &&
    !s.locked p off && wideLo p off &&
    (match rowAt p off with
     | none => false
     | some r =>
       r.writable != 0 && v &&& ~~~(Word.of r.assigned) == 0 && (!r.isStg || (!s.queueActive m && s.b (Regs.PG_WELD p) 1)))

/-- What an accepted write does: PG_SEQ counts it, but for a command that its block ignores, the held LO word is used up, and the entry
takes effect. -/
def State.accepted (s : State) (m : Master) (p off : Nat) (v : Word) : State :=
  let k := s.resolve m p off
  let t := s.dropLo m k
  (((if s.cmdIgnored m (s.domainOf m) p off v then t else t.pgSeq p).entryWrite m (s.entryOf m k v)).gainWritten p off).afterAccess m p off

/-- The write of the word with key `k` of the control space is accepted. -/
def State.acceptsKey (s : State) (m : Master) (k : Nat) (v : Word) : Bool := s.accepts m (k / 256) (k % 256 * 4) v

/-- What it does. -/
def State.acceptedKey (s : State) (m : Master) (k : Nat) (v : Word) : State := s.accepted m (k / 256) (k % 256 * 4) v

/-- PG_CTRL of page `p` with the bits of `on` set and those of `off` cleared. -/
def State.pgWord (s : State) (p : Nat) (on off : Word) : Word := (s.w (Regs.PG_CTRL p) &&& ~~~off) ||| on

/-- A read by master `m` of the word at byte offset `off` of page `p` is served (R59): the register exists and the master has the right. -/
def State.serves (s : State) (m : Master) (p off : Nat) : Bool :=
  (pageKind p).isSome && (rowAt p off).isSome && !s.readForbidden m (s.domainOf m) p off (s.resolve m p off)

/-- The read of the word with key `k` of the control space is served. -/
def State.servesKey (s : State) (m : Master) (k : Nat) : Bool := s.serves m (k / 256) (k % 256 * 4)

/-! ### Anvil instructions -/

/-- A word of st with the given flags (R314). -/
def flagWord (z n c v s : Bool) : Nat := b2n z + 2 * b2n n + 4 * b2n c + 8 * b2n v + 16 * b2n s


/-- Anvil `n` executes and comes to an instruction: no requested halt and no breakpoint stops it first. -/
def State.anvReady (s : State) (n : Nat) : Bool :=
  s.anvRuns n && !((s.anv n).haltReq && (s.anv n).clean) && (s.breakpoint n).isNone

/-- Nothing about the encoding, the place or a pending pair holds the instruction back (R319, R341, R346). -/
def State.anvClear (s : State) (n : Nat) (op : AnvOp) : Bool :=
  op.legal && !(s.anv n).misplaced op && !(s.anv n).copPending op.uses

/-- A load or store of `size` bytes reaches its address: a modifier that may be used, aligned, in the data memory, and no copy at work
there (R283, R326, R343). -/
def Anv.reaches (a : Anv) (p am m off size : Nat) (store : Bool) : Bool :=
  match a.address p am m off size with
  | none => false
  | some (x, _) => (memFault size x).isNone && !a.spanBusy x size store

/-- An operand load of a lane instruction reaches its address, or there is none (R332). -/
def Anv.laneReaches (a : Anv) (on : Bool) (p m size : Nat) : Bool :=
  match a.laneLoad on p m size with
  | .error _ => false
  | .ok none => true
  | .ok (some (x, _)) => !a.spanBusy x size false

/-- Both operand loads of a lane instruction reach their addresses, and a wide form has md.PREC (R332, R335). -/
def State.laneReady (s : State) (n : Nat) (lx : Bool) (px mx : Nat) (ly : Bool) (py my width : Nat) : Bool :=
  (width == 0 || mdPrec (s.anv n).mode) &&
    (s.anv n).laneReaches lx px mx (if width != 0 || mdBfp (s.anv n).mode then 4 else 2) &&
    (s.anv n).laneReaches ly py my (if width != 0 then 4 else 2)

/-- The instruction sets V while md.OVT is 1: it traps (R315, R355). -/
def Issue.traps (md : Nat) : Issue → Bool
  | .done _ v _ _ => v && mdOvt md
  | _ => false

/-- The state that an instruction's own work leaves, before the program goes on. -/
def Issue.work (s : State) : Issue → State
  | .done t _ _ _ => t
  | _ => s

/-- Where the program goes on after it. -/
def Issue.flow : Issue → Flow
  | .done _ _ _ f => f
  | _ => .next

/-- What anvil `n` does with an instruction that completes: its work, then the program goes on. -/
def State.anvDoes (s : State) (n : Nat) (i : Issue) : State :=
  ((i.work s).anvGoOn n (s.anv n).pc (s.anv n).mode i.flow).anvStepped n

end Sys2Proof.Machine
end

