-- ==== Sys2Proof/Certificates/Slice0/Obligations.lean ====
section
/-!
DEFINITION. The statements for the provers: the machine, the completion of every command, and the rules of the specification.

In a completion statement a command's operands are well-formed and the command reaches the device (`State.reaches`, `State.awake`,
`State.powered`, `State.linked`); a command that is a register access is one that nothing refuses (`State.acceptsKey`); an anvil's
instruction is one the anvil comes to and that neither faults, traps nor waits (`State.anvReady`, `Issue.completes`). `State.ends` adds what
follows every command at once.
-/

open Sys2Proof Sys2Proof.Machine

/-! ### The machine -/

/-- A step with a command at the front of the queue is exec of that command on the state with the queue's rest. -/
def Obligations.StepRunsTheFrontCommand : Prop :=
  ∀ (c : Instr) (rest : List Instr) (s : State), step { s with pending := c :: rest } = exec c { s with pending := rest }

/-- Every step answers a next state; it takes the front command from the queue and leaves the others waiting in order. With nothing waiting
the block idles (log entry 2: the model's choice). -/
def Obligations.EveryStepAnswersAndServesInOrder : Prop :=
  (∀ s : State, ∃ t, step s = .next t ∧ t.pending = s.pending.tail) ∧ ∀ s : State, s.pending = [] → step s = .next s

/-- The stores of registers and of billets keep their canonical form through every step, whatever the command. -/
def Obligations.EveryStepKeepsTheStoresCanonical : Prop :=
  ∀ s t : State, Memory.wf s = true → step s = .next t → Memory.wf t = true

/-- Reset: the stores are canonical, no command waits, nothing is left to follow, no billet is owned, no weld or scheduler entry is in use, no fault is
active, and every word reads its reset value. -/
def Obligations.ResetIsSound : Prop :=
  Memory.wf State.reset = true ∧ State.reset.pending = [] ∧ State.reset.quiet = true ∧ State.reset.sched = [] ∧
    State.reset.stock.own = [] ∧ State.reset.weld.welds = [] ∧ State.reset.fault.active = [] ∧ State.reset.pst = stWarm ∧
    State.reset.tb = 0 ∧ ∀ k, State.reset.w k = resetWord k

/-- A command whose operands name nothing changes nothing (log entry 3: the model's choice). -/
def Obligations.IllFormedCommandsChangeNothing : Prop := ∀ (c : Instr) (s : State), Instr.wf c = false → exec c s = .next s

/-- A command that leaves a quiet, canonical state in which the credit equations hold ends with exactly the state of its own effect. -/
def Obligations.QuietCommandsEndAtOnce : Prop :=
  ∀ s t : State, t.quiet = true → Memory.wf t = true → t.creditsOk s = true → t.pending = s.pending → s.ends t = t

/-- R45 to R47, R59, R60, R65 and R69: a write that nothing refuses counts in PG_SEQ and acts, with the LO word its master holds for it. -/
def Obligations.AcceptedWritesAct : Prop :=
  ∀ (s : State) (m : Master) (p off : Nat) (v : Word), s.accepts m p off v = true → s.ctlWrite m p off v = s.accepted m p off v

/-! ### Every command completes -/

/-- Chapters 03 and 04: every power, clock, supply and timebase command completes with its effect, in every state in which it reaches the
device. -/
def Obligations.PowerCommandsComplete : Prop :=
  (∀ (s : State), exec .tbTick s = .next (s.ends s.tick)) ∧
  (∀ (replicas : List Nat) (s : State), s.awake = true → exec (.tbBroadcast replicas) s = .next (s.ends (s.tbBroadcast replicas))) ∧
  (∀ (s : State), exec .slowClockEdge s = .next (s.ends s.slowEdge)) ∧
  (∀ (s : State), s.awake = true → exec .strokeBoundary s = .next (s.ends s.strokeBoundary)) ∧
  (∀ (s : State), s.awake = true → exec .strokeDeadline s = .next (s.ends s.deadline)) ∧
  (∀ (d : Nat) (s : State), Instr.wf (.clockDomainStart d) = true → exec (.clockDomainStart d) s = .next (s.ends (s.domainStart d))) ∧
  (∀ (d : Nat) (s : State), Instr.wf (.clockDomainStop d) = true → exec (.clockDomainStop d) s = .next (s.ends (s.domainStop d))) ∧
  (∀ (defStrap role addr : Nat) (s : State), Instr.wf (.porRelease defStrap role addr) = true →
    exec (.porRelease defStrap role addr) s = .next (s.ends (s.porRelease defStrap role addr))) ∧
  (∀ (kept : Bool) (s : State), s.powered = true → exec (.vaonReset kept) s = .next (s.ends (s.vaonReset kept))) ∧
  (∀ (fast : Nat) (magic : Bool) (s : State), Instr.wf (.bootSequence fast magic) = true →
    exec (.bootSequence fast magic) s = .next (s.ends (s.bootSequence fast magic))) ∧
  (∀ (m : Master) (req : Nat) (s : State), Instr.wf (.pwrModeRequest m req) = true → s.reaches m 0x02 = true →
    s.acceptsKey m Regs.PWR_MODE (putBits (s.w Regs.PWR_MODE) 0 3 req) = true →
    exec (.pwrModeRequest m req) s = .next (s.ends (s.acceptedKey m Regs.PWR_MODE (putBits (s.w Regs.PWR_MODE) 0 3 req)))) ∧
  (∀ (s : State), s.awake = true → exec .pllaLock s = .next (s.ends s.pllaLock)) ∧
  (∀ (s : State), s.awake = true → exec .forgingEntry s = .next (s.ends s.forgingEntry)) ∧
  (∀ (s : State), s.awake = true → exec .forgingExit s = .next (s.ends s.forgingExit)) ∧
  (∀ (s : State), s.awake = true → exec .sleepEntry s = .next (s.ends s.sleepEntry)) ∧
  (∀ (e : WakeEdge) (s : State), Instr.wf (.wakeEvent e) = true →
    exec (.wakeEvent e) s = .next (s.ends (s.wakeEvent e.source e.rising))) ∧
  (∀ (s : State), exec .pwrAlarm s = .next (s.ends s.alarm)) ∧
  (∀ (s : State), s.awake = true → exec .fastClockLoss s = .next (s.ends s.fastLoss)) ∧
  (∀ (s : State), exec .slowClockFail s = .next (s.ends s.slowFail)) ∧
  (∀ (m : Master) (v : Word) (s : State), Instr.wf (.hearthRateWrite m v) = true → s.reaches m 0x01 = true →
    s.acceptsKey m Regs.CLK_HEARTH v = true → exec (.hearthRateWrite m v) s = .next (s.ends (s.acceptedKey m Regs.CLK_HEARTH v))) ∧
  (∀ (m : Master) (v : Word) (s : State), Instr.wf (.clkSrcWrite m v) = true → s.reaches m 0x01 = true →
    s.acceptsKey m Regs.CLK_SRC v = true → exec (.clkSrcWrite m v) s = .next (s.ends (s.acceptedKey m Regs.CLK_SRC v))) ∧
  (∀ (pull : Int) (s : State), s.awake = true → exec (.pllbLockSet pull) s = .next (s.ends (s.pllbLock pull))) ∧
  (∀ (s : State), s.awake = true → exec .pllbLockClear s = .next (s.ends s.pllbUnlock)) ∧
  (∀ (s : State), s.awake = true → exec .pllbHoldover s = .next (s.ends s.pllbHoldover)) ∧
  (∀ (s : State), exec .vaonWarningFall s = .next (s.ends s.vaonFall)) ∧
  (∀ (s : State), s.powered = true → exec .braceEnd s = .next (s.ends s.vaonBack)) ∧
  (∀ (s : State), exec .vsysUndervoltage s = .next (s.ends s.vsysFall)) ∧
  (∀ (s : State), s.awake = true → exec .vsysUvTimeout s = .next (s.ends s.vsysTimeout)) ∧
  (∀ (stamp : Nat) (s : State), Instr.wf (.tbAcquire stamp) = true → s.awake = true →
    exec (.tbAcquire stamp) s = .next (s.ends (s.tbAcquire stamp (s.f Regs.VHK_STAT 16 8)))) ∧
  (∀ (s : State), s.awake = true → exec .followerLockSet s = .next (s.ends s.followLock)) ∧
  (∀ (s : State), s.powered = true → exec .vsysUvRecovery s = .next (s.ends s.vsysRecover)) ∧
  (∀ (s : State), s.awake = true → exec .fastSourceRestored s = .next (s.ends s.fastRestored)) ∧
  (∀ (s : State), exec .vioLoss s = .next (s.ends (s.vio true))) ∧
  (∀ (s : State), exec .vioReturn s = .next (s.ends (s.vio false)))

/-- Chapter 02: a register access of a master that the fabric serves, where nothing refuses it, completes with its effect. -/
def Obligations.ControlSpaceCommandsComplete : Prop :=
  (∀ (m : Master) (p off : Nat) (v : Word) (s : State), Instr.wf (.registerWrite m p off v) = true → s.reaches m p = true →
    s.accepts m p off v = true → exec (.registerWrite m p off v) s = .next (s.ends (s.accepted m p off v))) ∧
  (∀ (m : Master) (p off : Nat) (s : State), Instr.wf (.wideLoRead m p off) = true → s.reaches m p = true → (wideLo p off) = true →
    s.serves m p off = true → exec (.wideLoRead m p off) s = .next (s.ends (s.ctlRead m p off))) ∧
  (∀ (m : Master) (p : Nat) (s : State), Instr.wf (.srst m p) = true → s.reaches m p = true →
    s.acceptsKey m (Regs.PG_CTRL p) (s.pgWord p 4 0) = true →
    exec (.srst m p) s = .next (s.ends (s.acceptedKey m (Regs.PG_CTRL p) (s.pgWord p 4 0)))) ∧
  (∀ (p : Nat) (s : State), Instr.wf (.softResetDone p) = true → s.awake = true →
    exec (.softResetDone p) s = .next (s.ends (s.softResetDone p))) ∧
  (∀ (m : Master) (p : Nat) (on : Bool) (s : State), Instr.wf (.pageEnable m p on) = true → s.reaches m p = true →
    s.acceptsKey m (Regs.PG_CTRL p) (s.pgWord p (b2w on) 1) = true →
    exec (.pageEnable m p on) s = .next (s.ends (s.acceptedKey m (Regs.PG_CTRL p) (s.pgWord p (b2w on) 1)))) ∧
  (∀ (m : Master) (p : Nat) (on : Bool) (s : State), Instr.wf (.pgFreeze m p on) = true → s.reaches m p = true →
    s.acceptsKey m (Regs.PG_CTRL p) (s.pgWord p (if on then 8 else 0) 8) = true →
    exec (.pgFreeze m p on) s = .next (s.ends (s.acceptedKey m (Regs.PG_CTRL p) (s.pgWord p (if on then 8 else 0) 8)))) ∧
  (∀ (m : Master) (p : Nat) (v : Word) (s : State), Instr.wf (.irqPendClear m p v) = true → s.reaches m p = true →
    s.acceptsKey m (Regs.IRQ_PEND p) v = true → exec (.irqPendClear m p v) s = .next (s.ends (s.acceptedKey m (Regs.IRQ_PEND p) v))) ∧
  (∀ (m : Master) (p : Nat) (v : Word) (s : State), Instr.wf (.irqForce m p v) = true → s.reaches m p = true →
    s.acceptsKey m (Regs.IRQ_FORCE p) v = true → exec (.irqForce m p v) s = .next (s.ends (s.acceptedKey m (Regs.IRQ_FORCE p) v))) ∧
  (∀ (m : Master) (p : Nat) (v : Word) (s : State), Instr.wf (.pgAccessWrite m p v) = true → s.reaches m p = true →
    s.acceptsKey m (Regs.PG_ACCESS p) v = true → exec (.pgAccessWrite m p v) s = .next (s.ends (s.acceptedKey m (Regs.PG_ACCESS p) v))) ∧
  (∀ (m : Master) (p : Nat) (v : Word) (s : State), Instr.wf (.pgLockWrite m p v) = true → s.reaches m p = true →
    s.acceptsKey m (Regs.PG_LOCK p) v = true → exec (.pgLockWrite m p v) s = .next (s.ends (s.acceptedKey m (Regs.PG_LOCK p) v))) ∧
  (∀ (m : Master) (v : Word) (s : State), Instr.wf (.sysReset m v) = true → s.reaches m 0x00 = true →
    s.acceptsKey m Regs.SYS_RESET v = true → exec (.sysReset m v) s = .next (s.ends (s.acceptedKey m Regs.SYS_RESET v))) ∧
  (∀ (m : Master) (n : Nat) (s : State), Instr.wf (.capHiRead m n) = true → s.reaches m 0x03 = true →
    s.servesKey m (Regs.TB_CAP_HI n) = true → exec (.capHiRead m n) s = .next (s.ends (s.readKey m (Regs.TB_CAP_HI n))))

/-- Chapter 04: captures, arming, cancelling, firing and acceptance, and every kind of action complete with their effects. -/
def Obligations.SchedulerCommandsComplete : Prop :=
  (∀ (pin : Nat) (rising : Bool) (tick : Nat) (s : State), Instr.wf (.captureEdge pin rising tick) = true → s.awake = true →
    exec (.captureEdge pin rising tick) s = .next (s.ends (s.captureEdge pin rising tick))) ∧
  (∀ (m : Master) (s : State), Instr.wf (.schedArm m) = true → s.reaches m 0x04 = true → s.servesKey m Regs.SCHED_ARM = true →
    exec (.schedArm m) s = .next (s.ends (s.readKey m Regs.SCHED_ARM))) ∧
  (∀ (m : Master) (index : Nat) (s : State), Instr.wf (.schedCancel m index) = true → s.reaches m 0x04 = true →
    s.acceptsKey m Regs.SCHED_CANCEL (Word.of index) = true →
    exec (.schedCancel m index) s = .next (s.ends (s.acceptedKey m Regs.SCHED_CANCEL (Word.of index)))) ∧
  (∀ (s : State), s.awake = true → exec .schedFire s = .next (s.ends s.schedFire)) ∧
  (∀ (s : State), s.awake = true → exec .schedAccept s = .next (s.ends s.schedAccept)) ∧
  (∀ (m : Master) (index : Nat) (payload : Word) (s : State), Instr.wf (.portStart m index payload) = true → s.awake = true →
    exec (.portStart m index payload) s = .next (s.ends (s.act m (s.domainOf m) index 1 payload))) ∧
  (∀ (m : Master) (index : Nat) (payload : Word) (s : State), Instr.wf (.portStop m index payload) = true → s.awake = true →
    exec (.portStop m index payload) s = .next (s.ends (s.act m (s.domainOf m) index 2 payload))) ∧
  (∀ (m : Master) (index : Nat) (payload : Word) (s : State), Instr.wf (.stageStart m index payload) = true → s.awake = true →
    exec (.stageStart m index payload) s = .next (s.ends (s.act m (s.domainOf m) index 3 payload))) ∧
  (∀ (m : Master) (index : Nat) (payload : Word) (s : State), Instr.wf (.stageMute m index payload) = true → s.awake = true →
    exec (.stageMute m index payload) s = .next (s.ends (s.act m (s.domainOf m) index 4 payload))) ∧
  (∀ (m : Master) (index : Nat) (payload : Word) (s : State), Instr.wf (.stageUnmute m index payload) = true → s.awake = true →
    exec (.stageUnmute m index payload) s = .next (s.ends (s.act m (s.domainOf m) index 5 payload))) ∧
  (∀ (m : Master) (index : Nat) (payload : Word) (s : State), Instr.wf (.actionWeldCommit m index payload) = true → s.awake = true →
    exec (.actionWeldCommit m index payload) s = .next (s.ends (s.act m (s.domainOf m) index 6 payload))) ∧
  (∀ (m : Master) (index : Nat) (payload : Word) (s : State), Instr.wf (.auxInj m index payload) = true → s.awake = true →
    exec (.auxInj m index payload) s = .next (s.ends (s.act m (s.domainOf m) index 7 payload))) ∧
  (∀ (m : Master) (index : Nat) (payload : Word) (s : State), Instr.wf (.gpioSet m index payload) = true → s.awake = true →
    exec (.gpioSet m index payload) s = .next (s.ends (s.act m (s.domainOf m) index 8 payload))) ∧
  (∀ (m : Master) (index : Nat) (payload : Word) (s : State), Instr.wf (.gpioClr m index payload) = true → s.awake = true →
    exec (.gpioClr m index payload) s = .next (s.ends (s.act m (s.domainOf m) index 9 payload))) ∧
  (∀ (m : Master) (index : Nat) (payload : Word) (s : State), Instr.wf (.actionIrq m index payload) = true → s.awake = true →
    exec (.actionIrq m index payload) s = .next (s.ends (s.act m (s.domainOf m) index 10 payload))) ∧
  (∀ (m : Master) (index : Nat) (payload : Word) (s : State), Instr.wf (.actionTest m index payload) = true → s.awake = true →
    exec (.actionTest m index payload) s = .next (s.ends (s.act m (s.domainOf m) index 11 payload)))

/-- Chapters 05 and 06: credits, puts, takes, releases, errors, audits, and every step in a weld's life complete with their effects. -/
def Obligations.StockAndWeldCommandsComplete : Prop :=
  (∀ (q : LedgerRef) (s : State), Instr.wf (.creditGrant q) = true → s.awake = true →
    exec (.creditGrant q) s = .next (s.ends ((s.grant q.id .producer).2.locationRead q.bad))) ∧
  (∀ (q b gen stamp count offset flags : Nat) (data : List Word) (s : State),
    Instr.wf (.billetPut q b gen stamp count offset flags data) = true → s.awake = true →
    exec (.billetPut q b gen stamp count offset flags data) s =
      .next (s.ends (s.put q b gen { stamp := stamp, count := count, offset := offset, flags := flags } data))) ∧
  (∀ (q : Nat) (s : State), Instr.wf (.billetTake q) = true → s.awake = true →
    exec (.billetTake q) s = .next (s.ends ((s.take q .consumer).2))) ∧
  (∀ (b : LedgerRef) (s : State), Instr.wf (.billetRelease b) = true → s.awake = true →
    exec (.billetRelease b) s = .next (s.ends ((s.consumerRelease b.id).locationRead b.bad))) ∧
  (∀ (m : Master) (v : Word) (s : State), Instr.wf (.queueDescriptorWrite m v) = true → s.reaches m 0x06 = true →
    s.acceptsKey m Regs.STOCK_QD_CFG v = true →
    exec (.queueDescriptorWrite m v) s = .next (s.ends (s.acceptedKey m Regs.STOCK_QD_CFG v))) ∧
  (∀ (s : State), s.awake = true → exec .stockCe s = .next (s.ends s.stockCe)) ∧
  (∀ (b : Nat) (readable : Bool) (s : State), Instr.wf (.stockUe b readable) = true → s.awake = true →
    exec (.stockUe b readable) s = .next (s.ends (s.stockUe b readable))) ∧
  (∀ (ce : Nat) (ue : ScrubErrors) (s : State), Instr.wf (.scrubPass ce ue) = true → s.awake = true →
    exec (.scrubPass ce ue) s = .next (s.ends ((s.scrub ce ue.billets).memoryErrors ue))) ∧
  (∀ (m : Master) (s : State), Instr.wf (.stockSrst m) = true → s.reaches m 0x06 = true →
    s.acceptsKey m (Regs.PG_CTRL 0x06) (s.pgWord 0x06 4 0) = true →
    exec (.stockSrst m) s = .next (s.ends (s.acceptedKey m (Regs.PG_CTRL 0x06) (s.pgWord 0x06 4 0)))) ∧
  (∀ (bad : List Nat) (s : State), Instr.wf (.stockRebuildDone bad) = true → s.awake = true →
    exec (.stockRebuildDone bad) s = .next (s.ends (s.rebuildDone bad))) ∧
  (∀ (m : Master) (s : State), Instr.wf (.auditNow m) = true → s.reaches m 0x07 = true → s.acceptsKey m Regs.LEDGER_CTRL 1 = true →
    exec (.auditNow m) s = .next (s.ends (s.acceptedKey m Regs.LEDGER_CTRL 1))) ∧
  (∀ (m : Master) (s : State), Instr.wf (.weldOpen m) = true → s.reaches m 0x05 = true → s.servesKey m Regs.WELD_OPEN = true →
    exec (.weldOpen m) s = .next (s.ends (s.readKey m Regs.WELD_OPEN))) ∧
  (∀ (m : Master) (id : Nat) (s : State), Instr.wf (.weldSelect m id) = true → s.reaches m 0x05 = true →
    exec (.weldSelect m id) s = .next (s.ends (s.selectWeld m id))) ∧
  (∀ (m : Master) (p off : Nat) (v : Word) (s : State), Instr.wf (.weldStageWrite m p off v) = true → s.reaches m p = true →
    ((s.selected m).isSome) = true → exec (.weldStageWrite m p off v) s = .next (s.ends (s.ctlWrite m p off v))) ∧
  (∀ (m : Master) (v : Word) (s : State), Instr.wf (.weldCommit m v) = true → s.reaches m 0x05 = true →
    s.acceptsKey m Regs.WELD_COMMIT v = true → exec (.weldCommit m v) s = .next (s.ends (s.acceptedKey m Regs.WELD_COMMIT v))) ∧
  (∀ (m : Master) (id : Nat) (s : State), Instr.wf (.weldAbort m id) = true → s.reaches m 0x05 = true →
    s.acceptsKey m Regs.WELD_ABORT (Word.of id) = true →
    exec (.weldAbort m id) s = .next (s.ends (s.acceptedKey m Regs.WELD_ABORT (Word.of id)))) ∧
  (∀ (m : Master) (id : Nat) (s : State), Instr.wf (.weldUndo m id) = true → s.reaches m 0x05 = true →
    s.acceptsKey m Regs.WELD_UNDO (Word.of id) = true →
    exec (.weldUndo m id) s = .next (s.ends (s.acceptedKey m Regs.WELD_UNDO (Word.of id)))) ∧
  (∀ (s : State), s.awake = true → exec .reheatWindowEnd s = .next (s.ends (s.closeWindows s.strokeNo))) ∧
  (∀ (m : Master) (p off : Nat) (v : Word) (s : State), Instr.wf (.cmdqEnqueue m p off v) = true → s.reaches m p = true →
    (s.queueActive m && (s.selected m).isNone) = true → exec (.cmdqEnqueue m p off v) s = .next (s.ends (s.ctlWrite m p off v)))

/-- Chapters 07 to 09: the audio ports, the bypass, rate converters, the patch table, chains and mixer nodes. -/
def Obligations.PortAndChainCommandsComplete : Prop :=
  (∀ (m : Master) (n : Nat) (s : State), Instr.wf (.startTx m n) = true → s.reaches m (0x10 + n) = true →
    s.acceptsKey m (Regs.SAP_CMD n) 1 = true → exec (.startTx m n) s = .next (s.ends (s.acceptedKey m (Regs.SAP_CMD n) 1))) ∧
  (∀ (m : Master) (n : Nat) (s : State), Instr.wf (.startRx m n) = true → s.reaches m (0x10 + n) = true →
    s.acceptsKey m (Regs.SAP_CMD n) 2 = true → exec (.startRx m n) s = .next (s.ends (s.acceptedKey m (Regs.SAP_CMD n) 2))) ∧
  (∀ (m : Master) (n : Nat) (s : State), Instr.wf (.stopTx m n) = true → s.reaches m (0x10 + n) = true →
    s.acceptsKey m (Regs.SAP_CMD n) 4 = true → exec (.stopTx m n) s = .next (s.ends (s.acceptedKey m (Regs.SAP_CMD n) 4))) ∧
  (∀ (m : Master) (n : Nat) (s : State), Instr.wf (.stopRx m n) = true → s.reaches m (0x10 + n) = true →
    s.acceptsKey m (Regs.SAP_CMD n) 8 = true → exec (.stopRx m n) s = .next (s.ends (s.acceptedKey m (Regs.SAP_CMD n) 8))) ∧
  (∀ (n tick nbits : Nat) (words : List Word) (s : State), Instr.wf (.sapRxFrame n tick nbits words) = true → s.awake = true →
    exec (.sapRxFrame n tick nbits words) s = .next (s.ends (s.rxFrame n tick nbits words))) ∧
  (∀ (n : Nat) (rx : Bool) (s : State), Instr.wf (.sapStall n rx) = true → s.awake = true →
    exec (.sapStall n rx) s = .next (s.ends (s.sapStall n rx))) ∧
  (∀ (n tick nbits : Nat) (disagree : List (Nat × Nat)) (s : State), Instr.wf (.sapTxFrame n tick nbits disagree) = true → s.awake = true →
    exec (.sapTxFrame n tick nbits disagree) s = .next (s.ends (s.txFrame n tick nbits disagree))) ∧
  (∀ (n slot : Nat) (s : State), Instr.wf (.slotResume n slot) = true → s.awake = true →
    exec (.slotResume n slot) s = .next (s.ends (s.slotResume n slot))) ∧
  (∀ (m : Master) (s : State), Instr.wf (.spdifStart m) = true → s.reaches m 0x17 = true →
    s.acceptsKey m Regs.SPDIF_CTRL (s.w Regs.SPDIF_CTRL ||| 8) = true →
    exec (.spdifStart m) s = .next (s.ends (s.acceptedKey m Regs.SPDIF_CTRL (s.w Regs.SPDIF_CTRL ||| 8)))) ∧
  (∀ (m : Master) (s : State), Instr.wf (.spdifStop m) = true → s.reaches m 0x17 = true →
    s.acceptsKey m Regs.SPDIF_CTRL (s.w Regs.SPDIF_CTRL ||| 16) = true →
    exec (.spdifStop m) s = .next (s.ends (s.acceptedKey m Regs.SPDIF_CTRL (s.w Regs.SPDIF_CTRL ||| 16)))) ∧
  (∀ (tick : Nat) (good first : Bool) (a b : Subframe) (s : State), s.awake = true →
    exec (.spdifFrame tick good first a b) s = .next (s.ends (s.spdifFrame tick good first a b))) ∧
  (∀ (rate : Nat) (s : State), Instr.wf (.spdifLock rate) = true → s.awake = true →
    exec (.spdifLock rate) s = .next (s.ends (s.spdifLock rate))) ∧
  (∀ (s : State), s.awake = true → exec .spdifStall s = .next (s.ends s.spdifStall)) ∧
  (∀ (q : Nat) (s : State), Instr.wf (.bypassPlace q) = true → s.awake = true → exec (.bypassPlace q) s = .next (s.ends (s.bypassPlace q))) ∧
  (∀ (m : Master) (n : Nat) (s : State), Instr.wf (.asrcEnable m n) = true → s.reaches m (pgAsrc n) = true →
    s.acceptsKey m (Regs.PG_CTRL (pgAsrc n)) (s.pgWord (pgAsrc n) 1 0) = true →
    exec (.asrcEnable m n) s = .next (s.ends (s.acceptedKey m (Regs.PG_CTRL (pgAsrc n)) (s.pgWord (pgAsrc n) 1 0)))) ∧
  (∀ (n c fi : Nat) (err : Int) (s : State), Instr.wf (.asrcInputBillet n c fi err) = true → s.awake = true →
    exec (.asrcInputBillet n c fi err) s = .next (s.ends (s.asrcInput n c fi err))) ∧
  (∀ (n : Nat) (s : State), Instr.wf (.asrcGridSample n) = true → s.awake = true →
    exec (.asrcGridSample n) s = .next (s.ends (s.asrcGrid n))) ∧
  (∀ (m : Master) (lo hi : Word) (s : State), Instr.wf (.patchEntryWrite m lo hi) = true → s.reaches m 0x08 = true →
    exec (.patchEntryWrite m lo hi) s = .next (s.ends ((s.writeKey m Regs.PATCH_ENTRY_LO lo).writeKey m Regs.PATCH_ENTRY_HI hi))) ∧
  (∀ (m : Master) (v : Word) (s : State), Instr.wf (.patchInval m v) = true → s.reaches m 0x08 = true →
    s.acceptsKey m Regs.PATCH_INVAL v = true → exec (.patchInval m v) s = .next (s.ends (s.acceptedKey m Regs.PATCH_INVAL v))) ∧
  (∀ (m : Master) (s : State), Instr.wf (.patchCopy m) = true → s.reaches m 0x08 = true →
    s.acceptsKey m Regs.PATCH_CTRL (s.w Regs.PATCH_CTRL ||| 1) = true →
    exec (.patchCopy m) s = .next (s.ends (s.acceptedKey m Regs.PATCH_CTRL (s.w Regs.PATCH_CTRL ||| 1)))) ∧
  (∀ (s : State), s.awake = true → exec .patchCopyDone s = .next (s.ends s.copyDone)) ∧
  (∀ (n : Nat) (s : State), Instr.wf (.incComputeStroke n) = true → s.awake = true →
    exec (.incComputeStroke n) s = .next (s.ends (s.incStroke n))) ∧
  (∀ (n : Nat) (s : State), Instr.wf (.finComputeStroke n) = true → s.awake = true →
    exec (.finComputeStroke n) s = .next (s.ends (s.finStroke n))) ∧
  (∀ (n : Nat) (s : State), Instr.wf (.mixNodeCompute n) = true → s.awake = true →
    exec (.mixNodeCompute n) s = .next (s.ends (s.nodeStroke n))) ∧
  (∀ (m : Master) (p : Nat) (s : State), Instr.wf (.meterClear m p) = true → s.reaches m p = true →
    s.acceptsKey m (p * 256 + 0x14) (s.w (p * 256 + 0x14) ||| 16) = true →
    exec (.meterClear m p) s = .next (s.ends (s.acceptedKey m (p * 256 + 0x14) (s.w (p * 256 + 0x14) ||| 16))))

/-- Chapters 16 to 18: microphones, wake, line, headphone, jacks, auxiliary converters and keys. -/
def Obligations.ConverterCommandsComplete : Prop :=
  (∀ (x : OnChip) (s : State), Instr.wf (.onchipCaptureSample x) = true → s.powered = true →
    exec (.onchipCaptureSample x) s = .next (s.ends (s.onChip x))) ∧
  (∀ (m : Master) (k : Nat) (hq lp : Bool) (s : State), Instr.wf (.micPathEnable m k hq lp) = true → s.reaches m 0x24 = true →
    s.acceptsKey m (Regs.MIC_CFG k) (s.micEnableWord k hq lp) = true →
    exec (.micPathEnable m k hq lp) s = .next (s.ends (s.acceptedKey m (Regs.MIC_CFG k) (s.micEnableWord k hq lp)))) ∧
  (∀ (n : Nat) (s : State), Instr.wf (.biasOc n) = true → s.powered = true → exec (.biasOc n) s = .next (s.ends (s.biasOc n))) ∧
  (∀ (level : Int) (s : State), s.powered = true → exec (.wakeDetectorWindow level) s = .next (s.ends (s.detectorWindow level))) ∧
  (∀ (m : Master) (score : Nat) (s : State), Instr.wf (.wakeFire m score) = true → s.reaches m 0x25 = true →
    s.acceptsKey m Regs.WAKE_FIRE (Word.of (score * 256 + 1)) = true →
    exec (.wakeFire m score) s = .next (s.ends (s.acceptedKey m Regs.WAKE_FIRE (Word.of (score * 256 + 1))))) ∧
  (∀ (s : State), s.powered = true → exec .acousticWake s = .next (s.ends s.detect)) ∧
  (∀ (s : State), s.awake = true → exec .historyDrainBillet s = .next (s.ends s.histDrain)) ∧
  (∀ (s : State), exec .privacyMuteAssert s = .next (s.ends s.muteAssert)) ∧
  (∀ (s : State), exec .privacyMuteRelease s = .next (s.ends s.muteRelease)) ∧
  (∀ (ua mv : Nat) (s : State), s.powered = true → exec (.muteLedCheck ua mv) s = .next (s.ends (s.ledCheck ua mv))) ∧
  (∀ (m : Master) (s : State), Instr.wf (.linStart m) = true → s.reaches m 0x26 = true → s.acceptsKey m Regs.LIN_CMD 1 = true →
    exec (.linStart m) s = .next (s.ends (s.acceptedKey m Regs.LIN_CMD 1))) ∧
  (∀ (m : Master) (s : State), Instr.wf (.linStop m) = true → s.reaches m 0x26 = true → s.acceptsKey m Regs.LIN_CMD 2 = true →
    exec (.linStop m) s = .next (s.ends (s.acceptedKey m Regs.LIN_CMD 2))) ∧
  (∀ (m : Master) (srst : Bool) (s : State), Instr.wf (.linDisable m srst) = true → s.reaches m 0x26 = true →
    s.acceptsKey m (Regs.PG_CTRL 0x26) (s.pgWord 0x26 (if srst then 4 else 0) (if srst then 0 else 1)) = true →
    exec (.linDisable m srst) s =
      .next (s.ends (s.acceptedKey m (Regs.PG_CTRL 0x26) (s.pgWord 0x26 (if srst then 4 else 0) (if srst then 0 else 1))))) ∧
  (∀ (m : Master) (s : State), Instr.wf (.hpoStart m) = true → s.reaches m 0x27 = true → s.acceptsKey m Regs.HPO_CMD 1 = true →
    exec (.hpoStart m) s = .next (s.ends (s.acceptedKey m Regs.HPO_CMD 1))) ∧
  (∀ (m : Master) (s : State), Instr.wf (.hpoStop m) = true → s.reaches m 0x27 = true → s.acceptsKey m Regs.HPO_CMD 2 = true →
    exec (.hpoStop m) s = .next (s.ends (s.acceptedKey m Regs.HPO_CMD 2))) ∧
  (∀ (s : State), s.awake = true → exec .hpoRailsReady s = .next (s.ends s.hpoRails)) ∧
  (∀ (s : State), s.awake = true → exec .hpoClampRelease s = .next (s.ends s.hpoClamp)) ∧
  (∀ (s : State), s.awake = true → exec .hpoStopped s = .next (s.ends s.hpoStopped)) ∧
  (∀ (s : State), s.awake = true → exec .hpoSc s = .next (s.ends s.hpoOvercurrent)) ∧
  (∀ (m : Master) (s : State), Instr.wf (.hpoDisable m) = true → s.reaches m 0x27 = true →
    s.acceptsKey m (Regs.PG_CTRL 0x27) (s.pgWord 0x27 0 1) = true →
    exec (.hpoDisable m) s = .next (s.ends (s.acceptedKey m (Regs.PG_CTRL 0x27) (s.pgWord 0x27 0 1)))) ∧
  (∀ (lin level : Bool) (s : State), s.powered = true → exec (.jackChange lin level) s = .next (s.ends (s.jackChange lin level))) ∧
  (∀ (m : Master) (n : Nat) (s : State), Instr.wf (.auxStart m n) = true → s.reaches m (0x74 + n) = true →
    s.acceptsKey m (Regs.AUX_CTRL n) (s.w (Regs.AUX_CTRL n) ||| 2) = true →
    exec (.auxStart m n) s = .next (s.ends (s.acceptedKey m (Regs.AUX_CTRL n) (s.w (Regs.AUX_CTRL n) ||| 2)))) ∧
  (∀ (m : Master) (n : Nat) (s : State), Instr.wf (.auxStop m n) = true → s.reaches m (0x74 + n) = true →
    s.acceptsKey m (Regs.AUX_CTRL n) (s.w (Regs.AUX_CTRL n) ||| 4) = true →
    exec (.auxStop m n) s = .next (s.ends (s.acceptedKey m (Regs.AUX_CTRL n) (s.w (Regs.AUX_CTRL n) ||| 4)))) ∧
  (∀ (m : Master) (n : Nat) (on : Bool) (s : State), Instr.wf (.refEnWrite m n on) = true → s.reaches m (0x74 + n) = true →
    s.acceptsKey m (Regs.AUX_CTRL n) (b2w on) = true →
    exec (.refEnWrite m n on) s = .next (s.ends (s.acceptedKey m (Regs.AUX_CTRL n) (b2w on)))) ∧
  (∀ (n : Nat) (s : State), Instr.wf (.refRdy n) = true → s.awake = true → exec (.refRdy n) s = .next (s.ends (s.refReady n))) ∧
  (∀ (n : Nat) (s : State), Instr.wf (.auxScanStart n) = true → s.awake = true →
    exec (.auxScanStart n) s = .next (s.ends (s.auxScanStart n))) ∧
  (∀ (n : Nat) (s : State), Instr.wf (.auxInjTrigger n) = true → s.awake = true →
    exec (.auxInjTrigger n) s = .next (s.ends (s.auxTrigger n))) ∧
  (∀ (n code : Nat) (ovr : Bool) (s : State), Instr.wf (.auxConversion n code ovr) = true → s.awake = true →
    exec (.auxConversion n code ovr) s = .next (s.ends (s.auxConversion n code ovr))) ∧
  (∀ (code0 : Nat) (ovr0 : Bool) (code1 : Nat) (ovr1 : Bool) (s : State), Instr.wf (.plausAction code0 ovr0 code1 ovr1) = true →
    s.awake = true → exec (.plausAction code0 ovr0 code1 ovr1) s = .next (s.ends (s.auxPlaus code0 ovr0 code1 ovr1))) ∧
  (∀ (s : State), s.awake = true → exec .key s = .next (s.ends s.keyRow)) ∧
  (∀ (n : Nat) (s : State), Instr.wf (.mbiasOcEnd n) = true → s.powered = true → exec (.mbiasOcEnd n) s = .next (s.ends (s.biasOcEnd n)))

/-- Chapters 10 and 12: the commands that control anvils, benches and the debugger. -/
def Obligations.AnvilControlCommandsComplete : Prop :=
  (∀ (m : Master) (n : Nat) (s : State), Instr.wf (.go m n) = true → s.reaches m (anvPage n) = true →
    s.acceptsKey m (Regs.ANV_CTRL n) 1 = true → exec (.go m n) s = .next (s.ends (s.acceptedKey m (Regs.ANV_CTRL n) 1))) ∧
  (∀ (m : Master) (n : Nat) (s : State), Instr.wf (.halt m n) = true → s.reaches m (anvPage n) = true →
    s.acceptsKey m (Regs.ANV_CTRL n) 2 = true → exec (.halt m n) s = .next (s.ends (s.acceptedKey m (Regs.ANV_CTRL n) 2))) ∧
  (∀ (m : Master) (n : Nat) (s : State), Instr.wf (.step m n) = true → s.reaches m (anvPage n) = true →
    s.acceptsKey m (Regs.ANV_CTRL n) 4 = true → exec (.step m n) s = .next (s.ends (s.acceptedKey m (Regs.ANV_CTRL n) 4))) ∧
  (∀ (n : Nat) (s : State), Instr.wf (.anvilHalted n) = true → s.anvPowered n = true →
    exec (.anvilHalted n) s = .next (s.ends (s.haltDone n))) ∧
  (∀ (m : Master) (n : Nat) (srst : Bool) (s : State), Instr.wf (.anvilStopReset m n srst) = true → s.reaches m (anvPage n) = true →
    s.acceptsKey m (Regs.PG_CTRL (anvPage n)) (s.pgWord (anvPage n) (if srst then 4 else 0) (if srst then 0 else 1)) = true →
    exec (.anvilStopReset m n srst) s =
      .next (s.ends (s.acceptedKey m (Regs.PG_CTRL (anvPage n)) (s.pgWord (anvPage n) (if srst then 4 else 0) (if srst then 0 else 1))))) ∧
  (∀ (m : Master) (n : Nat) (wr : Bool) (v : Word) (s : State), Instr.wf (.mdataAccess m n wr v) = true → s.reaches m (anvPage n) = true →
    (if wr then s.acceptsKey m (Regs.ANV_MDATA n) v else s.servesKey m (Regs.ANV_MDATA n)) = true →
    exec (.mdataAccess m n wr v) s =
      .next (s.ends (if wr then s.acceptedKey m (Regs.ANV_MDATA n) v else s.readKey m (Regs.ANV_MDATA n)))) ∧
  (∀ (m : Master) (n rate : Nat) (s : State), Instr.wf (.benchRateWrite m n rate) = true → s.reaches m (0xC0 + n) = true →
    s.acceptsKey m (Regs.BENCH_CLK n) (Word.of rate) = true →
    exec (.benchRateWrite m n rate) s = .next (s.ends (s.acceptedKey m (Regs.BENCH_CLK n) (Word.of rate)))) ∧
  (∀ (n : Nat) (s : State), Instr.wf (.varrSettled n) = true → s.awake = true → exec (.varrSettled n) s = .next (s.ends (s.varrSettled n))) ∧
  (∀ (m : Master) (wr : Bool) (v : Word) (s : State), Instr.wf (.dbgRdataAccess m wr v) = true → s.reaches m 0x0F = true →
    (if wr then s.acceptsKey m Regs.DBG_RDATA v else s.servesKey m Regs.DBG_RDATA) = true →
    s.anvState ((s.resolve m 0x0F 0x05C - 0x1D000) / 128) = anHalted →
    exec (.dbgRdataAccess m wr v) s = .next (s.ends (if wr then s.acceptedKey m Regs.DBG_RDATA v else s.readKey m Regs.DBG_RDATA)))

/-- Chapter 11: an ALU, accumulator or lane instruction of an anvil that executes and comes to it completes, where it neither faults, traps
nor waits: its own work is done and the program goes on. -/
def Obligations.AnvilArithmeticCompletes : Prop :=
  (∀ (n d a : Nat) (w : Bool) (s : State), Instr.wf (.mov n d a w) = true → s.anvPowered n = true → s.anvReady n = true →
    s.anvClear n (.alu 0x0 d a 0 w) = true → (s.anvAlu n (s.anv n).mode 0x0 d a 0 w).traps (s.anv n).mode = false →
    exec (.mov n d a w) s = .next (s.ends (s.anvDoes n (s.anvAlu n (s.anv n).mode 0x0 d a 0 w)))) ∧
  (∀ (n d a b : Nat) (w : Bool) (s : State), Instr.wf (.add n d a b w) = true → s.anvPowered n = true → s.anvReady n = true →
    s.anvClear n (.alu 0x1 d a b w) = true → (s.anvAlu n (s.anv n).mode 0x1 d a b w).traps (s.anv n).mode = false →
    exec (.add n d a b w) s = .next (s.ends (s.anvDoes n (s.anvAlu n (s.anv n).mode 0x1 d a b w)))) ∧
  (∀ (n d a b : Nat) (w : Bool) (s : State), Instr.wf (.sub n d a b w) = true → s.anvPowered n = true → s.anvReady n = true →
    s.anvClear n (.alu 0x2 d a b w) = true → (s.anvAlu n (s.anv n).mode 0x2 d a b w).traps (s.anv n).mode = false →
    exec (.sub n d a b w) s = .next (s.ends (s.anvDoes n (s.anvAlu n (s.anv n).mode 0x2 d a b w)))) ∧
  (∀ (n d a b : Nat) (w : Bool) (s : State), Instr.wf (.and n d a b w) = true → s.anvPowered n = true → s.anvReady n = true →
    s.anvClear n (.alu 0x3 d a b w) = true → (s.anvAlu n (s.anv n).mode 0x3 d a b w).traps (s.anv n).mode = false →
    exec (.and n d a b w) s = .next (s.ends (s.anvDoes n (s.anvAlu n (s.anv n).mode 0x3 d a b w)))) ∧
  (∀ (n d a b : Nat) (w : Bool) (s : State), Instr.wf (.or n d a b w) = true → s.anvPowered n = true → s.anvReady n = true →
    s.anvClear n (.alu 0x4 d a b w) = true → (s.anvAlu n (s.anv n).mode 0x4 d a b w).traps (s.anv n).mode = false →
    exec (.or n d a b w) s = .next (s.ends (s.anvDoes n (s.anvAlu n (s.anv n).mode 0x4 d a b w)))) ∧
  (∀ (n d a b : Nat) (w : Bool) (s : State), Instr.wf (.xor n d a b w) = true → s.anvPowered n = true → s.anvReady n = true →
    s.anvClear n (.alu 0x5 d a b w) = true → (s.anvAlu n (s.anv n).mode 0x5 d a b w).traps (s.anv n).mode = false →
    exec (.xor n d a b w) s = .next (s.ends (s.anvDoes n (s.anvAlu n (s.anv n).mode 0x5 d a b w)))) ∧
  (∀ (n d a : Nat) (w : Bool) (s : State), Instr.wf (.not n d a w) = true → s.anvPowered n = true → s.anvReady n = true →
    s.anvClear n (.alu 0x6 d a 0 w) = true → (s.anvAlu n (s.anv n).mode 0x6 d a 0 w).traps (s.anv n).mode = false →
    exec (.not n d a w) s = .next (s.ends (s.anvDoes n (s.anvAlu n (s.anv n).mode 0x6 d a 0 w)))) ∧
  (∀ (n d a : Nat) (w : Bool) (s : State), Instr.wf (.neg n d a w) = true → s.anvPowered n = true → s.anvReady n = true →
    s.anvClear n (.alu 0x7 d a 0 w) = true → (s.anvAlu n (s.anv n).mode 0x7 d a 0 w).traps (s.anv n).mode = false →
    exec (.neg n d a w) s = .next (s.ends (s.anvDoes n (s.anvAlu n (s.anv n).mode 0x7 d a 0 w)))) ∧
  (∀ (n d a : Nat) (w : Bool) (s : State), Instr.wf (.abs n d a w) = true → s.anvPowered n = true → s.anvReady n = true →
    s.anvClear n (.alu 0x8 d a 0 w) = true → (s.anvAlu n (s.anv n).mode 0x8 d a 0 w).traps (s.anv n).mode = false →
    exec (.abs n d a w) s = .next (s.ends (s.anvDoes n (s.anvAlu n (s.anv n).mode 0x8 d a 0 w)))) ∧
  (∀ (n d a b : Nat) (w : Bool) (s : State), Instr.wf (.min n d a b w) = true → s.anvPowered n = true → s.anvReady n = true →
    s.anvClear n (.alu 0x9 d a b w) = true → (s.anvAlu n (s.anv n).mode 0x9 d a b w).traps (s.anv n).mode = false →
    exec (.min n d a b w) s = .next (s.ends (s.anvDoes n (s.anvAlu n (s.anv n).mode 0x9 d a b w)))) ∧
  (∀ (n d a b : Nat) (w : Bool) (s : State), Instr.wf (.max n d a b w) = true → s.anvPowered n = true → s.anvReady n = true →
    s.anvClear n (.alu 0xA d a b w) = true → (s.anvAlu n (s.anv n).mode 0xA d a b w).traps (s.anv n).mode = false →
    exec (.max n d a b w) s = .next (s.ends (s.anvDoes n (s.anvAlu n (s.anv n).mode 0xA d a b w)))) ∧
  (∀ (n a b : Nat) (w : Bool) (s : State), Instr.wf (.cmp n a b w) = true → s.anvPowered n = true → s.anvReady n = true →
    s.anvClear n (.alu 0xB 0 a b w) = true → (s.anvAlu n (s.anv n).mode 0xB 0 a b w).traps (s.anv n).mode = false →
    exec (.cmp n a b w) s = .next (s.ends (s.anvDoes n (s.anvAlu n (s.anv n).mode 0xB 0 a b w)))) ∧
  (∀ (n d a b : Nat) (w : Bool) (s : State), Instr.wf (.shl n d a b w) = true → s.anvPowered n = true → s.anvReady n = true →
    s.anvClear n (.alu 0xC d a b w) = true → (s.anvAlu n (s.anv n).mode 0xC d a b w).traps (s.anv n).mode = false →
    exec (.shl n d a b w) s = .next (s.ends (s.anvDoes n (s.anvAlu n (s.anv n).mode 0xC d a b w)))) ∧
  (∀ (n d a b : Nat) (w : Bool) (s : State), Instr.wf (.shr n d a b w) = true → s.anvPowered n = true → s.anvReady n = true →
    s.anvClear n (.alu 0xD d a b w) = true → (s.anvAlu n (s.anv n).mode 0xD d a b w).traps (s.anv n).mode = false →
    exec (.shr n d a b w) s = .next (s.ends (s.anvDoes n (s.anvAlu n (s.anv n).mode 0xD d a b w)))) ∧
  (∀ (n d a b : Nat) (w : Bool) (s : State), Instr.wf (.asr n d a b w) = true → s.anvPowered n = true → s.anvReady n = true →
    s.anvClear n (.alu 0xE d a b w) = true → (s.anvAlu n (s.anv n).mode 0xE d a b w).traps (s.anv n).mode = false →
    exec (.asr n d a b w) s = .next (s.ends (s.anvDoes n (s.anvAlu n (s.anv n).mode 0xE d a b w)))) ∧
  (∀ (n d a : Nat) (w : Bool) (s : State), Instr.wf (.cls n d a w) = true → s.anvPowered n = true → s.anvReady n = true →
    s.anvClear n (.alu 0xF d a 0 w) = true → (s.anvAlu n (s.anv n).mode 0xF d a 0 w).traps (s.anv n).mode = false →
    exec (.cls n d a w) s = .next (s.ends (s.anvDoes n (s.anvAlu n (s.anv n).mode 0xF d a 0 w)))) ∧
  (∀ (n d v : Nat) (s : State), Instr.wf (.movi n d v) = true → s.anvPowered n = true → s.anvReady n = true →
    s.anvClear n (.imm 0 d v) = true → (s.anvImm n (s.anv n).mode 0 d v).traps (s.anv n).mode = false →
    exec (.movi n d v) s = .next (s.ends (s.anvDoes n (s.anvImm n (s.anv n).mode 0 d v)))) ∧
  (∀ (n d v : Nat) (s : State), Instr.wf (.addi n d v) = true → s.anvPowered n = true → s.anvReady n = true →
    s.anvClear n (.imm 1 d v) = true → (s.anvImm n (s.anv n).mode 1 d v).traps (s.anv n).mode = false →
    exec (.addi n d v) s = .next (s.ends (s.anvDoes n (s.anvImm n (s.anv n).mode 1 d v)))) ∧
  (∀ (n d v : Nat) (s : State), Instr.wf (.cmpi n d v) = true → s.anvPowered n = true → s.anvReady n = true →
    s.anvClear n (.imm 2 d v) = true → (s.anvImm n (s.anv n).mode 2 d v).traps (s.anv n).mode = false →
    exec (.cmpi n d v) s = .next (s.ends (s.anvDoes n (s.anvImm n (s.anv n).mode 2 d v)))) ∧
  (∀ (n d v : Nat) (s : State), Instr.wf (.andi n d v) = true → s.anvPowered n = true → s.anvReady n = true →
    s.anvClear n (.imm 3 d v) = true → (s.anvImm n (s.anv n).mode 3 d v).traps (s.anv n).mode = false →
    exec (.andi n d v) s = .next (s.ends (s.anvDoes n (s.anvImm n (s.anv n).mode 3 d v)))) ∧
  (∀ (n d v : Nat) (s : State), Instr.wf (.ori n d v) = true → s.anvPowered n = true → s.anvReady n = true →
    s.anvClear n (.imm 4 d v) = true → (s.anvImm n (s.anv n).mode 4 d v).traps (s.anv n).mode = false →
    exec (.ori n d v) s = .next (s.ends (s.anvDoes n (s.anvImm n (s.anv n).mode 4 d v)))) ∧
  (∀ (n d v : Nat) (s : State), Instr.wf (.shli n d v) = true → s.anvPowered n = true → s.anvReady n = true →
    s.anvClear n (.imm 5 d v) = true → (s.anvImm n (s.anv n).mode 5 d v).traps (s.anv n).mode = false →
    exec (.shli n d v) s = .next (s.ends (s.anvDoes n (s.anvImm n (s.anv n).mode 5 d v)))) ∧
  (∀ (n d v : Nat) (s : State), Instr.wf (.asri n d v) = true → s.anvPowered n = true → s.anvReady n = true →
    s.anvClear n (.imm 6 d v) = true → (s.anvImm n (s.anv n).mode 6 d v).traps (s.anv n).mode = false →
    exec (.asri n d v) s = .next (s.ends (s.anvDoes n (s.anvImm n (s.anv n).mode 6 d v)))) ∧
  (∀ (n d v : Nat) (s : State), Instr.wf (.shri n d v) = true → s.anvPowered n = true → s.anvReady n = true →
    s.anvClear n (.imm 7 d v) = true → (s.anvImm n (s.anv n).mode 7 d v).traps (s.anv n).mode = false →
    exec (.shri n d v) s = .next (s.ends (s.anvDoes n (s.anvImm n (s.anv n).mode 7 d v)))) ∧
  (∀ (n d src : Nat) (s : State), Instr.wf (.ext n d src) = true → s.anvPowered n = true → s.anvReady n = true →
    s.anvClear n (.acc 0 d 0 src 0) = true → (s.anvAcc n (s.anv n).mode 0 d 0 src 0).traps (s.anv n).mode = false →
    exec (.ext n d src) s = .next (s.ends (s.anvDoes n (s.anvAcc n (s.anv n).mode 0 d 0 src 0)))) ∧
  (∀ (n d src : Nat) (s : State), Instr.wf (.extw n d src) = true → s.anvPowered n = true → s.anvReady n = true →
    s.anvClear n (.acc 1 d 0 src 0) = true → (s.anvAcc n (s.anv n).mode 1 d 0 src 0).traps (s.anv n).mode = false →
    exec (.extw n d src) s = .next (s.ends (s.anvDoes n (s.anvAcc n (s.anv n).mode 1 d 0 src 0)))) ∧
  (∀ (n ad : Nat) (s : State), Instr.wf (.aclr n ad) = true → s.anvPowered n = true → s.anvReady n = true →
    s.anvClear n (.acc 2 0 ad 0 0) = true → (s.anvAcc n (s.anv n).mode 2 0 ad 0 0).traps (s.anv n).mode = false →
    exec (.aclr n ad) s = .next (s.ends (s.anvDoes n (s.anvAcc n (s.anv n).mode 2 0 ad 0 0)))) ∧
  (∀ (n ad d : Nat) (s : State), Instr.wf (.aldw n ad d) = true → s.anvPowered n = true → s.anvReady n = true →
    s.anvClear n (.acc 3 d ad 0 0) = true → (s.anvAcc n (s.anv n).mode 3 d ad 0 0).traps (s.anv n).mode = false →
    exec (.aldw n ad d) s = .next (s.ends (s.anvDoes n (s.anvAcc n (s.anv n).mode 3 d ad 0 0)))) ∧
  (∀ (n ad src v : Nat) (s : State), Instr.wf (.ashi n ad src v) = true → s.anvPowered n = true → s.anvReady n = true →
    s.anvClear n (.acc 4 0 ad src v) = true → (s.anvAcc n (s.anv n).mode 4 0 ad src v).traps (s.anv n).mode = false →
    exec (.ashi n ad src v) s = .next (s.ends (s.anvDoes n (s.anvAcc n (s.anv n).mode 4 0 ad src v)))) ∧
  (∀ (n ad src : Nat) (s : State), Instr.wf (.ashx n ad src) = true → s.anvPowered n = true → s.anvReady n = true →
    s.anvClear n (.acc 5 0 ad src 0) = true → (s.anvAcc n (s.anv n).mode 5 0 ad src 0).traps (s.anv n).mode = false →
    exec (.ashx n ad src) s = .next (s.ends (s.anvDoes n (s.anvAcc n (s.anv n).mode 5 0 ad src 0)))) ∧
  (∀ (n ad src : Nat) (s : State), Instr.wf (.aadd n ad src) = true → s.anvPowered n = true → s.anvReady n = true →
    s.anvClear n (.acc 6 0 ad src 0) = true → (s.anvAcc n (s.anv n).mode 6 0 ad src 0).traps (s.anv n).mode = false →
    exec (.aadd n ad src) s = .next (s.ends (s.anvDoes n (s.anvAcc n (s.anv n).mode 6 0 ad src 0)))) ∧
  (∀ (n ad src : Nat) (s : State), Instr.wf (.asub n ad src) = true → s.anvPowered n = true → s.anvReady n = true →
    s.anvClear n (.acc 7 0 ad src 0) = true → (s.anvAcc n (s.anv n).mode 7 0 ad src 0).traps (s.anv n).mode = false →
    exec (.asub n ad src) s = .next (s.ends (s.anvDoes n (s.anvAcc n (s.anv n).mode 7 0 ad src 0)))) ∧
  (∀ (n ad src : Nat) (s : State), Instr.wf (.amov n ad src) = true → s.anvPowered n = true → s.anvReady n = true →
    s.anvClear n (.acc 8 0 ad src 0) = true → (s.anvAcc n (s.anv n).mode 8 0 ad src 0).traps (s.anv n).mode = false →
    exec (.amov n ad src) s = .next (s.ends (s.anvDoes n (s.anvAcc n (s.anv n).mode 8 0 ad src 0)))) ∧
  (∀ (n ad src : Nat) (s : State), Instr.wf (.aneg n ad src) = true → s.anvPowered n = true → s.anvReady n = true →
    s.anvClear n (.acc 9 0 ad src 0) = true → (s.anvAcc n (s.anv n).mode 9 0 ad src 0).traps (s.anv n).mode = false →
    exec (.aneg n ad src) s = .next (s.ends (s.anvDoes n (s.anvAcc n (s.anv n).mode 9 0 ad src 0)))) ∧
  (∀ (n ad src : Nat) (s : State), Instr.wf (.aabs n ad src) = true → s.anvPowered n = true → s.anvReady n = true →
    s.anvClear n (.acc 10 0 ad src 0) = true → (s.anvAcc n (s.anv n).mode 10 0 ad src 0).traps (s.anv n).mode = false →
    exec (.aabs n ad src) s = .next (s.ends (s.anvDoes n (s.anvAcc n (s.anv n).mode 10 0 ad src 0)))) ∧
  (∀ (n acc x y sgn : Nat) (sh lx : Bool) (px mx : Nat) (ly : Bool) (py my width : Nat) (s : State),
    Instr.wf (.mpy n acc x y sgn sh lx px mx ly py my width) = true → s.anvPowered n = true → s.anvReady n = true →
    s.anvClear n (.lane 0 acc x y sgn sh lx px mx ly py my width) = true → s.laneReady n lx px mx ly py my width = true →
    (s.anvLane n (s.anv n).mode 0 acc x y sgn sh lx px mx ly py my width).traps (s.anv n).mode = false →
    exec (.mpy n acc x y sgn sh lx px mx ly py my width) s =
      .next (s.ends (s.anvDoes n (s.anvLane n (s.anv n).mode 0 acc x y sgn sh lx px mx ly py my width)))) ∧
  (∀ (n acc x y sgn : Nat) (sh lx : Bool) (px mx : Nat) (ly : Bool) (py my width : Nat) (s : State),
    Instr.wf (.mac n acc x y sgn sh lx px mx ly py my width) = true → s.anvPowered n = true → s.anvReady n = true →
    s.anvClear n (.lane 1 acc x y sgn sh lx px mx ly py my width) = true → s.laneReady n lx px mx ly py my width = true →
    (s.anvLane n (s.anv n).mode 1 acc x y sgn sh lx px mx ly py my width).traps (s.anv n).mode = false →
    exec (.mac n acc x y sgn sh lx px mx ly py my width) s =
      .next (s.ends (s.anvDoes n (s.anvLane n (s.anv n).mode 1 acc x y sgn sh lx px mx ly py my width)))) ∧
  (∀ (n acc x y sgn : Nat) (sh lx : Bool) (px mx : Nat) (ly : Bool) (py my width : Nat) (s : State),
    Instr.wf (.msu n acc x y sgn sh lx px mx ly py my width) = true → s.anvPowered n = true → s.anvReady n = true →
    s.anvClear n (.lane 2 acc x y sgn sh lx px mx ly py my width) = true → s.laneReady n lx px mx ly py my width = true →
    (s.anvLane n (s.anv n).mode 2 acc x y sgn sh lx px mx ly py my width).traps (s.anv n).mode = false →
    exec (.msu n acc x y sgn sh lx px mx ly py my width) s =
      .next (s.ends (s.anvDoes n (s.anvLane n (s.anv n).mode 2 acc x y sgn sh lx px mx ly py my width))))

/-- Chapters 10 to 12: loads, stores, addresses, billets, handles, branches, loops, the coprocessor and the system instructions complete in
the same sense; BRK ends in the exception that is its effect. -/
def Obligations.AnvilMemoryBilletAndFlowComplete : Prop :=
  (∀ (n : Nat) (s : State), Instr.wf (.done n) = true → s.anvPowered n = true → s.anvReady n = true → s.anvClear n (.sys 1) = true →
    (s.anv n).copies = [] → (s.anv n).cops = [] → exec (.done n) s = .next (s.ends (s.anvDoes n (s.anvDone n)))) ∧
  (∀ (n h t p : Nat) (s : State), Instr.wf (.btake n h t p) = true → s.anvPowered n = true → s.anvReady n = true →
    s.anvClear n (.billet 0 h t 0 0 p) = true → ((s.anv n).handle h).st = .empty → billetFault ((s.anv n).crv p) = none →
    ∀ (q : Nat) (u : State) (i : QItem) (l : List QItem), s.anvRoute n t = (some q, u) → (u.queue q).ready = i :: l →
    u.anvMayTake n (u.itemBillet i).tag.domain = true →
    exec (.btake n h t p) s = .next (s.ends (s.anvDoes n (.plain (u.beginTake n h q ((s.anv n).crv p)))))) ∧
  (∀ (n h t : Nat) (s : State), Instr.wf (.bgrant n h t) = true → s.anvPowered n = true → s.anvReady n = true →
    s.anvClear n (.billet 1 h t 0 0 0) = true → ((s.anv n).handle h).st = .empty →
    ∀ (q b : Nat) (u v : State), s.anvRoute n t = (some q, u) → u.anvMayGrant n (u.queue q).domain = true →
    u.grant q (.anvil n h) = (some b, v) → exec (.bgrant n h t) s = .next (s.ends (s.anvDoes n (.plain (v.heldGrant n h q b))))) ∧
  (∀ (n h p : Nat) (s : State), Instr.wf (.bput n h p) = true → s.anvPowered n = true → s.anvReady n = true →
    s.anvClear n (.billet 2 h 0 0 0 p) = true → ((s.anv n).handle h).st = .held → ((s.anv n).handle h).granted = true →
    billetFault ((s.anv n).crv p) = none → (s.anv n).copyWaits ((s.anv n).crv p) = false →
    exec (.bput n h p) s = .next (s.ends (s.anvDoes n (s.anvPut n h ((s.anv n).crv p))))) ∧
  (∀ (n h : Nat) (s : State), Instr.wf (.brel n h) = true → s.anvPowered n = true → s.anvReady n = true →
    s.anvClear n (.billet 3 h 0 0 0 0) = true → ((s.anv n).handle h).st = .held → ((s.anv n).handle h).item.isSome = true →
    exec (.brel n h) s = .next (s.ends (s.anvDoes n (s.anvRel n h)))) ∧
  (∀ (n ring idx p : Nat) (s : State), Instr.wf (.brd n ring idx p) = true → s.anvPowered n = true → s.anvReady n = true →
    s.anvClear n (.billet 4 0 0 ring idx p) = true → billetFault ((s.anv n).crv p) = none → ∀ q : Nat, s.anvRing n ring = some q →
    (s.anv n).reg idx < (s.queue q).depth →
    exec (.brd n ring idx p) s = .next (s.ends (s.anvDoes n (s.anvRingOp n false ring ((s.anv n).reg idx) ((s.anv n).crv p))))) ∧
  (∀ (n ring idx p : Nat) (s : State), Instr.wf (.bwr n ring idx p) = true → s.anvPowered n = true → s.anvReady n = true →
    s.anvClear n (.billet 5 0 0 ring idx p) = true → billetFault ((s.anv n).crv p) = none → (s.anv n).copyWaits ((s.anv n).crv p) = false →
    ∀ q : Nat, s.anvRing n ring = some q → (s.anv n).reg idx < (s.queue q).depth →
    exec (.bwr n ring idx p) s = .next (s.ends (s.anvDoes n (s.anvRingOp n true ring ((s.anv n).reg idx) ((s.anv n).crv p))))) ∧
  (∀ (n h : Nat) (s : State), Instr.wf (.billetOpComplete n h) = true → s.anvPowered n = true →
    exec (.billetOpComplete n h) s = .next (s.ends (s.opComplete n h))) ∧
  (∀ (n : Nat) (s : State), Instr.wf (.billetCopyDone n) = true → s.anvPowered n = true →
    exec (.billetCopyDone n) s = .next (s.ends (s.copyComplete n))) ∧
  (∀ (n h d : Nat) (s : State), Instr.wf (.hwait n h d) = true → s.anvPowered n = true → s.anvReady n = true →
    s.anvClear n (.handle 0 h d false) = true → ((s.anv n).handle h).pending = false →
    exec (.hwait n h d) s = .next (s.ends (s.anvDoes n (s.anvHandle n 0 h d false)))) ∧
  (∀ (n h d : Nat) (s : State), Instr.wf (.hstat n h d) = true → s.anvPowered n = true → s.anvReady n = true →
    s.anvClear n (.handle 1 h d false) = true → exec (.hstat n h d) s = .next (s.ends (s.anvDoes n (s.anvHandle n 1 h d false)))) ∧
  (∀ (n d : Nat) (s : State), Instr.wf (.rwait n d) = true → s.anvPowered n = true → s.anvReady n = true →
    s.anvClear n (.handle 2 0 d false) = true → (s.anv n).bst < 32768 →
    exec (.rwait n d) s = .next (s.ends (s.anvDoes n (s.anvHandle n 2 0 d false)))) ∧
  (∀ (n h d : Nat) (hi : Bool) (s : State), Instr.wf (.hget n h d hi) = true → s.anvPowered n = true → s.anvReady n = true →
    s.anvClear n (.handle 3 h d hi) = true → ((s.anv n).handle h).st = .held →
    exec (.hget n h d hi) s = .next (s.ends (s.anvDoes n (s.anvHandle n 3 h d hi)))) ∧
  (∀ (n h d : Nat) (hi : Bool) (s : State), Instr.wf (.hset n h d hi) = true → s.anvPowered n = true → s.anvReady n = true →
    s.anvClear n (.handle 4 h d hi) = true → ((s.anv n).handle h).st = .held →
    exec (.hset n h d hi) s = .next (s.ends (s.anvDoes n (s.anvHandle n 4 h d hi)))) ∧
  (∀ (n reg p am md off : Nat) (s : State), Instr.wf (.ld n reg p am md off) = true → s.anvPowered n = true → s.anvReady n = true →
    s.anvClear n (.load 0 reg p am md off) = true → (s.anv n).reaches p am md off 2 false = true →
    exec (.ld n reg p am md off) s = .next (s.ends (s.anvDoes n (s.anvLoad n (s.anv n).mode 0 reg p am md off)))) ∧
  (∀ (n reg p am md off : Nat) (s : State), Instr.wf (.ldw n reg p am md off) = true → s.anvPowered n = true → s.anvReady n = true →
    s.anvClear n (.load 1 reg p am md off) = true → (s.anv n).reaches p am md off 4 false = true →
    exec (.ldw n reg p am md off) s = .next (s.ends (s.anvDoes n (s.anvLoad n (s.anv n).mode 1 reg p am md off)))) ∧
  (∀ (n reg p am md off : Nat) (s : State), Instr.wf (.ldn n reg p am md off) = true → s.anvPowered n = true → s.anvReady n = true →
    s.anvClear n (.load 2 reg p am md off) = true → (s.anv n).reaches p am md off 4 false = true →
    (s.anvLoad n (s.anv n).mode 2 reg p am md off).traps (s.anv n).mode = false →
    exec (.ldn n reg p am md off) s = .next (s.ends (s.anvDoes n (s.anvLoad n (s.anv n).mode 2 reg p am md off)))) ∧
  (∀ (n reg p am md off : Nat) (s : State), Instr.wf (.lda n reg p am md off) = true → s.anvPowered n = true → s.anvReady n = true →
    s.anvClear n (.load 3 reg p am md off) = true → (s.anv n).reaches p am md off 4 false = true →
    exec (.lda n reg p am md off) s = .next (s.ends (s.anvDoes n (s.anvLoad n (s.anv n).mode 3 reg p am md off)))) ∧
  (∀ (n reg p am md off : Nat) (s : State), Instr.wf (.st n reg p am md off) = true → s.anvPowered n = true → s.anvReady n = true →
    s.anvClear n (.store 0 reg p am md off) = true → (s.anv n).reaches p am md off 2 true = true →
    exec (.st n reg p am md off) s = .next (s.ends (s.anvDoes n (s.anvStore n (s.anv n).mode 0 reg p am md off)))) ∧
  (∀ (n reg p am md off : Nat) (s : State), Instr.wf (.stw n reg p am md off) = true → s.anvPowered n = true → s.anvReady n = true →
    s.anvClear n (.store 1 reg p am md off) = true → (s.anv n).reaches p am md off 4 true = true →
    exec (.stw n reg p am md off) s = .next (s.ends (s.anvDoes n (s.anvStore n (s.anv n).mode 1 reg p am md off)))) ∧
  (∀ (n reg p am md off : Nat) (s : State), Instr.wf (.std n reg p am md off) = true → s.anvPowered n = true → s.anvReady n = true →
    s.anvClear n (.store 2 reg p am md off) = true → (s.anv n).reaches p am md off 4 true = true →
    (s.anvStore n (s.anv n).mode 2 reg p am md off).traps (s.anv n).mode = false →
    exec (.std n reg p am md off) s = .next (s.ends (s.anvDoes n (s.anvStore n (s.anv n).mode 2 reg p am md off)))) ∧
  (∀ (n reg p am md off : Nat) (s : State), Instr.wf (.ste n reg p am md off) = true → s.anvPowered n = true → s.anvReady n = true →
    s.anvClear n (.store 3 reg p am md off) = true → (s.anv n).reaches p am md off 2 true = true →
    (s.anvStore n (s.anv n).mode 3 reg p am md off).traps (s.anv n).mode = false →
    exec (.ste n reg p am md off) s = .next (s.ends (s.anvDoes n (s.anvStore n (s.anv n).mode 3 reg p am md off)))) ∧
  (∀ (n p am md off : Nat) (s : State), Instr.wf (.norm n p am md off) = true → s.anvPowered n = true → s.anvReady n = true →
    s.anvClear n (.norm 0 0 p am md off) = true → (s.anv n).reaches p am md off 4 false = true →
    exec (.norm n p am md off) s = .next (s.ends (s.anvDoes n (s.anvNorm n 0 0 p am md off)))) ∧
  (∀ (n reg : Nat) (s : State), Instr.wf (.normr n reg) = true → s.anvPowered n = true → s.anvReady n = true →
    s.anvClear n (.norm 1 reg 0 0 0 0) = true → exec (.normr n reg) s = .next (s.ends (s.anvDoes n (s.anvNorm n 1 reg 0 0 0 0)))) ∧
  (∀ (n p v : Nat) (s : State), Instr.wf (.pset n p v) = true → s.anvPowered n = true → s.anvReady n = true →
    s.anvClear n (.addr p 0 v) = true → exec (.pset n p v) s = .next (s.ends (s.anvDoes n (s.anvAddr n p 0 v)))) ∧
  (∀ (n p v : Nat) (s : State), Instr.wf (.padd n p v) = true → s.anvPowered n = true → s.anvReady n = true →
    s.anvClear n (.addr p 1 v) = true → exec (.padd n p v) s = .next (s.ends (s.anvDoes n (s.anvAddr n p 1 v)))) ∧
  (∀ (n reg : Nat) (w : Bool) (cr : Nat) (s : State), Instr.wf (.mvc n reg w cr) = true → s.anvPowered n = true → s.anvReady n = true →
    s.anvClear n (.ctl true reg w cr) = true → exec (.mvc n reg w cr) s = .next (s.ends (s.anvDoes n (s.anvCtl n true reg w cr)))) ∧
  (∀ (n reg : Nat) (w : Bool) (cr : Nat) (s : State), Instr.wf (.mvf n reg w cr) = true → s.anvPowered n = true → s.anvReady n = true →
    s.anvClear n (.ctl false reg w cr) = true → exec (.mvf n reg w cr) s = .next (s.ends (s.anvDoes n (s.anvCtl n false reg w cr)))) ∧
  (∀ (n cond target : Nat) (s : State), Instr.wf (.br n cond target) = true → s.anvPowered n = true → s.anvReady n = true →
    s.anvClear n (.br cond 0 target) = true → exec (.br n cond target) s = .next (s.ends (s.anvDoes n (s.anvBranch n cond 0 target)))) ∧
  (∀ (n cond target : Nat) (s : State), Instr.wf (.jmp n cond target) = true → s.anvPowered n = true → s.anvReady n = true →
    s.anvClear n (.br cond 1 target) = true → exec (.jmp n cond target) s = .next (s.ends (s.anvDoes n (s.anvBranch n cond 1 target)))) ∧
  (∀ (n cond target : Nat) (s : State), Instr.wf (.call n cond target) = true → s.anvPowered n = true → s.anvReady n = true →
    s.anvClear n (.br cond 2 target) = true →
    exec (.call n cond target) s = .next (s.ends (s.anvDoes n (s.anvBranch n cond 2 target)))) ∧
  (∀ (n cond : Nat) (s : State), Instr.wf (.ret n cond) = true → s.anvPowered n = true → s.anvReady n = true →
    s.anvClear n (.br cond 3 0) = true → exec (.ret n cond) s = .next (s.ends (s.anvDoes n (s.anvBranch n cond 3 0)))) ∧
  (∀ (n lc : Nat) (src : Bool) (stop count : Nat) (s : State), Instr.wf (.loop n lc src stop count) = true → s.anvPowered n = true →
    s.anvReady n = true → s.anvClear n (.loop lc src stop count) = true →
    (s.anv n).loopRefused lc stop (if src then (s.anv n).reg count else count) = false →
    exec (.loop n lc src stop count) s = .next (s.ends (s.anvDoes n (s.anvLoop n lc src stop count)))) ∧
  (∀ (n : Nat) (s : State), Instr.wf (.loopExit n) = true → s.anvPowered n = true →
    exec (.loopExit n) s = .next (s.ends (s.anvLoopExit n))) ∧
  (∀ (n d a b : Nat) (s : State), Instr.wf (.div n d a b) = true → s.anvPowered n = true → s.anvReady n = true →
    s.anvClear n (.cop 0 d a b) = true → (s.anv n).cops.length < 4 →
    exec (.div n d a b) s = .next (s.ends (s.anvDoes n (s.anvCop n (s.anv n).mode 0 d a b)))) ∧
  (∀ (n d a : Nat) (s : State), Instr.wf (.sqrt n d a) = true → s.anvPowered n = true → s.anvReady n = true →
    s.anvClear n (.cop 1 d a 0) = true → (s.anv n).cops.length < 4 →
    exec (.sqrt n d a) s = .next (s.ends (s.anvDoes n (s.anvCop n (s.anv n).mode 1 d a 0)))) ∧
  (∀ (n d a : Nat) (s : State), Instr.wf (.rsqrt n d a) = true → s.anvPowered n = true → s.anvReady n = true →
    s.anvClear n (.cop 2 d a 0) = true → (s.anv n).cops.length < 4 →
    exec (.rsqrt n d a) s = .next (s.ends (s.anvDoes n (s.anvCop n (s.anv n).mode 2 d a 0)))) ∧
  (∀ (n d a : Nat) (s : State), Instr.wf (.log2 n d a) = true → s.anvPowered n = true → s.anvReady n = true →
    s.anvClear n (.cop 3 d a 0) = true → (s.anv n).cops.length < 4 →
    exec (.log2 n d a) s = .next (s.ends (s.anvDoes n (s.anvCop n (s.anv n).mode 3 d a 0)))) ∧
  (∀ (n d a : Nat) (s : State), Instr.wf (.exp2 n d a) = true → s.anvPowered n = true → s.anvReady n = true →
    s.anvClear n (.cop 4 d a 0) = true → (s.anv n).cops.length < 4 →
    exec (.exp2 n d a) s = .next (s.ends (s.anvDoes n (s.anvCop n (s.anv n).mode 4 d a 0)))) ∧
  (∀ (n d a b : Nat) (s : State), Instr.wf (.mul32 n d a b) = true → s.anvPowered n = true → s.anvReady n = true →
    s.anvClear n (.cop 5 d a b) = true → (s.anv n).cops.length < 4 →
    exec (.mul32 n d a b) s = .next (s.ends (s.anvDoes n (s.anvCop n (s.anv n).mode 5 d a b)))) ∧
  (∀ (n : Nat) (s : State), Instr.wf (.coprocResult n) = true → s.anvPowered n = true →
    exec (.coprocResult n) s = .next (s.ends (s.copResultDone n))) ∧
  (∀ (n d a : Nat) (s : State), Instr.wf (.crd n d a) = true → s.anvPowered n = true → s.anvReady n = true →
    s.anvClear n (.bus false d a) = true → exec (.crd n d a) s = .next (s.ends (s.anvDoes n (s.anvBus n false d a)))) ∧
  (∀ (n d a : Nat) (s : State), Instr.wf (.cwr n d a) = true → s.anvPowered n = true → s.anvReady n = true →
    s.anvClear n (.bus true d a) = true → exec (.cwr n d a) s = .next (s.ends (s.anvDoes n (s.anvBus n true d a)))) ∧
  (∀ (n : Nat) (s : State), Instr.wf (.nop n) = true → s.anvPowered n = true → s.anvReady n = true → s.anvClear n (.sys 0) = true →
    exec (.nop n) s = .next (s.ends (s.anvDoes n (.plain s)))) ∧
  (∀ (n : Nat) (s : State), Instr.wf (.rte n) = true → s.anvPowered n = true → s.anvReady n = true → s.anvClear n (.sys 2) = true →
    exec (.rte n) s = .next (s.ends (s.anvDoes n (.done s false false .rte)))) ∧
  (∀ (n : Nat) (s : State), Instr.wf (.brk n) = true → s.anvPowered n = true → s.anvReady n = true → s.anvClear n (.sys 3) = true →
    exec (.brk n) s = .next (s.ends (((s.anvGoOn n (s.anv n).pc (s.anv n).mode .next).anvTrap n 7 (s.anv n).pc).anvStepped n))) ∧
  (∀ (n : Nat) (s : State), Instr.wf (.exceptionEntry n) = true → s.anvPowered n = true →
    exec (.exceptionEntry n) s = .next (s.ends (s.anvEntry n))) ∧
  (∀ (n : Nat) (s : State), Instr.wf (.breakpointMatch n) = true → s.anvPowered n = true →
    exec (.breakpointMatch n) s = .next (s.ends (s.anvMatch n)))

/-- Chapters 13 to 15: the stages' commands and conditions, the supply tracker, the senses, the Tongs and the ring test. -/
def Obligations.StageCommandsComplete : Prop :=
  (∀ (m : Master) (c : Nat) (s : State), Instr.wf (.stageCmdStart m c) = true → s.reaches m (chPage c) = true →
    s.acceptsKey m (Regs.CH_CMD c) 1 = true → exec (.stageCmdStart m c) s = .next (s.ends (s.acceptedKey m (Regs.CH_CMD c) 1))) ∧
  (∀ (m : Master) (c : Nat) (s : State), Instr.wf (.stageCmdStop m c) = true → s.reaches m (chPage c) = true →
    s.acceptsKey m (Regs.CH_CMD c) 2 = true → exec (.stageCmdStop m c) s = .next (s.ends (s.acceptedKey m (Regs.CH_CMD c) 2))) ∧
  (∀ (m : Master) (c : Nat) (s : State), Instr.wf (.stageCmdClear m c) = true → s.reaches m (chPage c) = true →
    s.acceptsKey m (Regs.CH_CMD c) 4 = true → exec (.stageCmdClear m c) s = .next (s.ends (s.acceptedKey m (Regs.CH_CMD c) 4))) ∧
  (∀ (m : Master) (c : Nat) (s : State), Instr.wf (.stageDisable m c) = true → s.reaches m (chPage c) = true →
    s.acceptsKey m (Regs.PG_CTRL (chPage c)) (s.pgWord (chPage c) 0 1) = true →
    exec (.stageDisable m c) s = .next (s.ends (s.acceptedKey m (Regs.PG_CTRL (chPage c)) (s.pgWord (chPage c) 0 1)))) ∧
  (∀ (c outP outN pvdd : Nat) (s : State), Instr.wf (.inrushEnd c outP outN pvdd) = true → s.awake = true →
    exec (.inrushEnd c outP outN pvdd) s = .next (s.ends (s.inrushEnd c (endCheck outP outN pvdd)))) ∧
  (∀ (c : Nat) (s : State), Instr.wf (.settleEnd c) = true → s.awake = true → exec (.settleEnd c) s = .next (s.ends (s.settleDone c))) ∧
  (∀ (c : Nat) (s : State), Instr.wf (.stopDischargeEnd c) = true → s.awake = true →
    exec (.stopDischargeEnd c) s = .next (s.ends (s.lowered c))) ∧
  (∀ (c : Nat) (s : State), Instr.wf (.stageTrip c) = true → s.awake = true → exec (.stageTrip c) s = .next (s.ends (s.stageTrip c))) ∧
  (∀ (c : Nat) (s : State), Instr.wf (.retryTimer c) = true → s.awake = true → exec (.retryTimer c) s = .next (s.ends (s.retryChan c))) ∧
  (∀ (c : Nat) (s : State), Instr.wf (.retryCountReset c) = true → s.awake = true →
    exec (.retryCountReset c) s = .next (s.ends (s.retriesReset c))) ∧
  (∀ (x : Nat) (s : State), Instr.wf (.xstFaultInput x) = true → s.awake = true →
    exec (.xstFaultInput x) s = .next (s.ends (s.xstInput (8 + x)))) ∧
  (∀ (x : Nat) (s : State), Instr.wf (.xstFaultRelease x) = true → s.awake = true →
    exec (.xstFaultRelease x) s = .next (s.ends (s.xstRelease (8 + x)))) ∧
  (∀ (dieA : Bool) (s : State), s.awake = true → exec (.pvddUndervoltage dieA) s = .next (s.ends (s.dieCond dieA 0x25))) ∧
  (∀ (dieA : Bool) (s : State), s.awake = true → exec (.pvddOvervoltage dieA) s = .next (s.ends (s.dieCond dieA 0x26))) ∧
  (∀ (dieA : Bool) (s : State), s.awake = true → exec (.dieShutdown dieA) s = .next (s.ends (s.dieCond dieA 0x27))) ∧
  (∀ (dieA : Bool) (code : Nat) (s : State), Instr.wf (.dieConditionEnd dieA code) = true → s.awake = true →
    exec (.dieConditionEnd dieA code) s = .next (s.ends (s.dieCondEnd dieA code))) ∧
  (∀ (dieA : Bool) (s : State), s.awake = true → exec (.dieOtw dieA) s = .next (s.ends (s.dieWarn dieA true))) ∧
  (∀ (dieA : Bool) (s : State), s.awake = true → exec (.dieLinkLoss dieA) s = .next (s.ends (s.dieLost dieA))) ∧
  (∀ (mv : Nat) (s : State), s.awake = true → exec (.pvddLow mv) s = .next (s.ends (s.pvddLow mv))) ∧
  (∀ (mv : Nat) (s : State), s.awake = true → exec (.pvddRecovered mv) s = .next (s.ends (s.pvddRecovered mv))) ∧
  (∀ (c : Nat) (s : State), Instr.wf (.pauseTimeout c) = true → s.awake = true →
    exec (.pauseTimeout c) s = .next (s.ends (s.pauseTimeout c))) ∧
  (∀ (s : State), s.awake = true → exec .trackerUpdate s = .next (s.ends s.trkUpdate)) ∧
  (∀ (ack : Bool) (s : State), s.awake = true → exec (.trackerMessageDone ack) s = .next (s.ends (s.trkMessageDone ack))) ∧
  (∀ (conv t : Nat) (codes : List Int) (s : State), Instr.wf (.senseBilletBegin conv t codes) = true → s.awake = true →
    exec (.senseBilletBegin conv t codes) s = .next (s.ends (s.senseBillet conv t codes))) ∧
  (∀ (m : Master) (s : State), Instr.wf (.tongsStart m) = true → s.reaches m 0x72 = true →
    s.acceptsKey m (Regs.PG_CTRL 0x72) (s.pgWord 0x72 1 0) = true →
    exec (.tongsStart m) s = .next (s.ends (s.acceptedKey m (Regs.PG_CTRL 0x72) (s.pgWord 0x72 1 0)))) ∧
  (∀ (s : State), s.awake = true → exec .tongsDeadline s = .next (s.ends s.tongsDeadline)) ∧
  (∀ (m : Master) (channels : Nat) (s : State), Instr.wf (.diagRun m channels) = true → s.reaches m 0x73 = true →
    s.acceptsKey m Regs.DIAG_RUN (Word.of channels) = true →
    exec (.diagRun m channels) s = .next (s.ends (s.acceptedKey m Regs.DIAG_RUN (Word.of channels)))) ∧
  (∀ (m : Master) (s : State), Instr.wf (.diagDisable m) = true → s.reaches m 0x73 = true →
    s.acceptsKey m (Regs.PG_CTRL 0x73) (s.pgWord 0x73 0 1) = true →
    exec (.diagDisable m) s = .next (s.ends (s.acceptedKey m (Regs.PG_CTRL 0x73) (s.pgWord 0x73 0 1)))) ∧
  (∀ (c : Nat) (s : State), Instr.wf (.ringTestOvercurrent c) = true → s.awake = true →
    exec (.ringTestOvercurrent c) s = .next (s.ends (s.overcurrent c))) ∧
  (∀ (c code : Nat) (s : State), Instr.wf (.ringAbort c code) = true → s.awake = true →
    exec (.ringAbort c code) s = .next (s.ends (s.ringEvent c code))) ∧
  (∀ (dieA : Bool) (s : State), s.awake = true → exec (.dieLinkRelock dieA) s = .next (s.ends (s.dieRelock dieA))) ∧
  (∀ (dieA : Bool) (s : State), s.awake = true → exec (.dieOtwEnd dieA) s = .next (s.ends (s.dieWarn dieA false)))

/-- Chapter 19: every command of TWT, SPIT, TWC and QSPI. -/
def Obligations.ControlPortCommandsComplete : Prop :=
  (∀ (bytes : List Byte) (s : State), exec (.setPtr bytes) s = .next (s.ends (s.twtSetPtr bytes))) ∧
  (∀ (bytes : List Byte) (s : State), exec (.writeWord bytes) s = .next (s.ends (s.twtWriteWord bytes))) ∧
  (∀ (count : Nat) (bytes : List Byte) (s : State), Instr.wf (.writeBlock count bytes) = true →
    exec (.writeBlock count bytes) s = .next (s.ends (s.twtWriteBlock count bytes))) ∧
  (∀ (s : State), exec .readWord s = .next (s.ends s.twtReadWord)) ∧
  (∀ (sent : Nat) (s : State), Instr.wf (.readBlock sent) = true → exec (.readBlock sent) s = .next (s.ends (s.twtReadBlock sent))) ∧
  (∀ (s : State), exec .weldOp s = .next (s.ends s.twtWeldOp)) ∧
  (∀ (s : State), exec .status s = .next (s.ends s.twtStatus)) ∧
  (∀ (s : State), exec .notifyCfg s = .next (s.ends s.twtNotifyCfg)) ∧
  (∀ (s : State), exec .pecErr s = .next (s.ends s.twtPecErr)) ∧
  (∀ (s : State), exec .twtStartCondition s = .next (s.ends s.twtStart)) ∧
  (∀ (sda : Bool) (s : State), exec (.twtTimeout sda) s = .next (s.ends (s.twtTimeout sda))) ∧
  (∀ (res : Nat) (s : State), Instr.wf (.notifySend res) = true → s.awake = true →
    exec (.notifySend res) s = .next (s.ends (s.notifySend res))) ∧
  (∀ (m : Master) (n data : Nat) (s : State), Instr.wf (.twcStart m n data) = true → s.reaches m (0x77 + n) = true →
    s.acceptsKey m (Regs.TWC_OP n) (Word.of data) = true →
    exec (.twcStart m n data) s = .next (s.ends (s.acceptedKey m (Regs.TWC_OP n) (Word.of data)))) ∧
  (∀ (m : Master) (n : Nat) (pec : Bool) (data : Nat) (s : State), Instr.wf (.twcWrite m n pec data) = true →
    s.reaches m (0x77 + n) = true → s.acceptsKey m (Regs.TWC_OP n) (Word.of (1024 + b2n pec * 512 + data)) = true →
    exec (.twcWrite m n pec data) s = .next (s.ends (s.acceptedKey m (Regs.TWC_OP n) (Word.of (1024 + b2n pec * 512 + data))))) ∧
  (∀ (m : Master) (n : Nat) (pec last : Bool) (s : State), Instr.wf (.twcRead m n pec last) = true → s.reaches m (0x77 + n) = true →
    s.acceptsKey m (Regs.TWC_OP n) (Word.of (2048 + b2n pec * 512 + b2n last * 256)) = true →
    exec (.twcRead m n pec last) s =
      .next (s.ends (s.acceptedKey m (Regs.TWC_OP n) (Word.of (2048 + b2n pec * 512 + b2n last * 256))))) ∧
  (∀ (m : Master) (n : Nat) (s : State), Instr.wf (.twcStop m n) = true → s.reaches m (0x77 + n) = true →
    s.acceptsKey m (Regs.TWC_OP n) 3072 = true → exec (.twcStop m n) s = .next (s.ends (s.acceptedKey m (Regs.TWC_OP n) 3072))) ∧
  (∀ (n res byte : Nat) (recov : Bool) (s : State), Instr.wf (.twcOperationDone n res byte recov) = true → s.awake = true →
    exec (.twcOperationDone n res byte recov) s = .next (s.ends (s.twcDone n res byte recov))) ∧
  (∀ (m : Master) (n : Nat) (s : State), Instr.wf (.twcRxdRead m n) = true → s.reaches m (0x77 + n) = true →
    s.servesKey m (Regs.TWC_RXD n) = true → exec (.twcRxdRead m n) s = .next (s.ends (s.readKey m (Regs.TWC_RXD n)))) ∧
  (∀ (n : Nat) (s : State), Instr.wf (.twcAbandoned n) = true → s.awake = true →
    exec (.twcAbandoned n) s = .next (s.ends (s.twcAbandon n))) ∧
  (∀ (s : State), s.awake = true → exec .twcTimeout s = .next (s.ends s.twcTimeout)) ∧
  (∀ (addr : Nat) (bytes : List Byte) (crcOk : Bool) (s : State), Instr.wf (.write addr bytes crcOk) = true →
    exec (.write addr bytes crcOk) s = .next (s.ends (s.spitWrite false addr bytes crcOk))) ∧
  (∀ (addr words : Nat) (s : State), Instr.wf (.read addr words) = true →
    exec (.read addr words) s = .next (s.ends (s.spitRead false addr words))) ∧
  (∀ (addr : Nat) (bytes : List Byte) (crcOk : Bool) (s : State), Instr.wf (.qwrite addr bytes crcOk) = true →
    exec (.qwrite addr bytes crcOk) s = .next (s.ends (s.spitWrite true addr bytes crcOk))) ∧
  (∀ (addr words : Nat) (s : State), Instr.wf (.qread addr words) = true →
    exec (.qread addr words) s = .next (s.ends (s.spitRead true addr words))) ∧
  (∀ (addr : Nat) (bytes : List Byte) (crcOk : Bool) (s : State), Instr.wf (.swrite addr bytes crcOk) = true →
    exec (.swrite addr bytes crcOk) s = .next (s.ends (s.spitStockWrite false addr bytes crcOk))) ∧
  (∀ (addr words : Nat) (s : State), Instr.wf (.sread addr words) = true →
    exec (.sread addr words) s = .next (s.ends (s.spitStockRead false addr words))) ∧
  (∀ (addr : Nat) (bytes : List Byte) (crcOk : Bool) (s : State), Instr.wf (.qswrite addr bytes crcOk) = true →
    exec (.qswrite addr bytes crcOk) s = .next (s.ends (s.spitStockWrite true addr bytes crcOk))) ∧
  (∀ (addr words : Nat) (s : State), Instr.wf (.qsread addr words) = true →
    exec (.qsread addr words) s = .next (s.ends (s.spitStockRead true addr words))) ∧
  (∀ (s : State), exec .spitStatus s = .next (s.ends s.spitStatusFrame)) ∧
  (∀ (m : Master) (byte : Byte) (qin : Bool) (s : State), Instr.wf (.qspiXfer m byte qin) = true → s.reaches m 0x7B = true →
    s.acceptsKey m Regs.QSPI_XFER (Word.of (b2n qin * 512 + byte.toNat)) = true →
    exec (.qspiXfer m byte qin) s = .next (s.ends (s.acceptedKey m Regs.QSPI_XFER (Word.of (b2n qin * 512 + byte.toNat))))) ∧
  (∀ (byte : Byte) (s : State), s.awake = true → exec (.qspiXferDone byte) s = .next (s.ends (s.qspiDone byte)))

/-- Chapter 20: training, superframes, every message of the pair and the pair's commands. -/
def Obligations.PairCommandsComplete : Prop :=
  (∀ (s : State), s.awake = true → exec .linkTrain s = .next (s.ends s.idleSets)) ∧
  (∀ (rtt : Nat) (s : State), s.awake = true → exec (.ping rtt) s = .next (s.ends (s.ping rtt))) ∧
  (∀ (s : State), s.awake = true → exec .linkUp s = .next (s.ends s.linkUpLead)) ∧
  (∀ (s : State), s.awake = true → (s.link != 0) = true → exec .linkLossOfLock s = .next (s.ends s.linkTrain)) ∧
  (∀ (s : State), s.awake = true → exec .superframeSend s = .next (s.ends s.superframeSend)) ∧
  (∀ (f : Superframe) (e : Int) (s : State), s.awake = true → exec (.superframeReceive f e) s = .next (s.ends (s.superframe f e))) ∧
  (∀ (s : State), s.awake = true → exec .superframeMiss s = .next (s.ends s.superframeMiss)) ∧
  (∀ (seq target id : Nat) (s : State), Instr.wf (.prepare seq target id) = true → s.linked true = true →
    exec (.prepare seq target id) s = .next (s.ends (s.takePrepare seq target id))) ∧
  (∀ (seq : Nat) (yes : Bool) (s : State), Instr.wf (.vote seq yes) = true → s.linked true = true →
    exec (.vote seq yes) s = .next (s.ends (s.takeVote seq yes))) ∧
  (∀ (seq : Nat) (s : State), Instr.wf (.abort seq) = true → s.linked true = true → exec (.abort seq) s = .next (s.ends (s.takeAbort seq))) ∧
  (∀ (seq addr : Nat) (s : State), Instr.wf (.regRead seq addr) = true → s.linked true = true →
    exec (.regRead seq addr) s = .next (s.ends (s.regRead seq addr))) ∧
  (∀ (seq addr : Nat) (v : Word) (s : State), Instr.wf (.regWrite seq addr v) = true → s.linked true = true →
    exec (.regWrite seq addr v) s = .next (s.ends (s.regWriteMsg seq addr v))) ∧
  (∀ (seq code : Nat) (data : Word) (s : State), Instr.wf (.result seq code data) = true → s.linked true = true →
    exec (.result seq code data) s = .next (s.ends (s.takeResult seq code data))) ∧
  (∀ (d : Nat) (s : State), Instr.wf (.train d) = true → s.linked false = true → exec (.train d) s = .next (s.ends (s.takeTrain d))) ∧
  (∀ (mark : List Word) (identity : Nat) (rate96 adopt : Bool) (s : State), Instr.wf (.hello mark identity rate96 adopt) = true →
    s.linked false = true → exec (.hello mark identity rate96 adopt) s = .next (s.ends (s.takeHello mark identity rate96 adopt))) ∧
  (∀ (identity : Nat) (good : Bool) (s : State), Instr.wf (.proof identity good) = true → s.linked false = true →
    exec (.proof identity good) s = .next (s.ends (s.takeProof identity good))) ∧
  (∀ (epoch : Nat) (good : Bool) (s : State), Instr.wf (.accept epoch good) = true → s.linked false = true →
    exec (.accept epoch good) s = .next (s.ends (s.takeAccept epoch good))) ∧
  (∀ (reason : Nat) (s : State), Instr.wf (.refuse reason) = true → s.linked false = true →
    exec (.refuse reason) s = .next (s.ends (s.takeRefuse reason))) ∧
  (∀ (digest : Nat) (s : State), Instr.wf (.adoptEnd digest) = true → s.linked true = true →
    exec (.adoptEnd digest) s = .next (s.ends (s.takeAdoptEnd digest))) ∧
  (∀ (s : State), s.awake = true → exec .adoptionWeld s = .next (s.ends s.adoptionWeld)) ∧
  (∀ (seq target : Nat) (s : State), Instr.wf (.detachMessage seq target) = true → s.linked true = true →
    exec (.detachMessage seq target) s = .next (s.ends (s.takeDetach seq target))) ∧
  (∀ (s : State), s.linked true = true → exec .detachAck s = .next (s.ends s.detachAcked)) ∧
  (∀ (m : Master) (adopt : Bool) (s : State), Instr.wf (.attach m adopt) = true → s.reaches m 0x7D = true →
    s.acceptsKey m Regs.PAIR_CMD (Word.of (1 + 4 * b2n adopt)) = true →
    exec (.attach m adopt) s = .next (s.ends (s.acceptedKey m Regs.PAIR_CMD (Word.of (1 + 4 * b2n adopt))))) ∧
  (∀ (m : Master) (s : State), Instr.wf (.detach m) = true → s.reaches m 0x7D = true → s.acceptsKey m Regs.PAIR_CMD 2 = true →
    exec (.detach m) s = .next (s.ends (s.acceptedKey m Regs.PAIR_CMD 2))) ∧
  (∀ (s : State), s.awake = true → exec .attachTimeout s = .next (s.ends s.attachTimeout)) ∧
  (∀ (s : State), s.awake = true → exec .mirrorStale s = .next (s.ends s.mirrorStale)) ∧
  (∀ (m : Master) (wr : Bool) (addr : Nat) (s : State), Instr.wf (.rcmd m wr addr) = true → s.reaches m 0x7D = true →
    s.acceptsKey m Regs.PAIR_RCMD (Word.of (b2n wr * 2 ^ 31 + addr)) = true →
    exec (.rcmd m wr addr) s = .next (s.ends (s.acceptedKey m Regs.PAIR_RCMD (Word.of (b2n wr * 2 ^ 31 + addr)))))

/-- Chapter 21: authentication, the life cycle, the OTP and the image loader. -/
def Obligations.SecurityCommandsComplete : Prop :=
  (∀ (m : Master) (s : State), Instr.wf (.authNew m) = true → s.reaches m 0x0A = true → s.acceptsKey m Regs.SEC_AUTH 0x80000000 = true →
    exec (.authNew m) s = .next (s.ends (s.acceptedKey m Regs.SEC_AUTH 0x80000000))) ∧
  (∀ (m : Master) (s : State), Instr.wf (.authEnd m) = true → s.reaches m 0x0A = true → s.acceptsKey m Regs.SEC_AUTH 0x40000000 = true →
    exec (.authEnd m) s = .next (s.ends (s.acceptedKey m Regs.SEC_AUTH 0x40000000))) ∧
  (∀ (m : Master) (s : State), Instr.wf (.authOwnerSession m) = true → s.reaches m 0x0A = true →
    s.acceptsKey m Regs.SEC_AUTH 0x01000000 = true →
    exec (.authOwnerSession m) s = .next (s.ends (s.acceptedKey m Regs.SEC_AUTH 0x01000000))) ∧
  (∀ (m : Master) (s : State), Instr.wf (.authTestVendor m) = true → s.reaches m 0x0A = true →
    s.acceptsKey m Regs.SEC_AUTH 0x02000000 = true →
    exec (.authTestVendor m) s = .next (s.ends (s.acceptedKey m Regs.SEC_AUTH 0x02000000))) ∧
  (∀ (m : Master) (s : State), Instr.wf (.authTestConsent m) = true → s.reaches m 0x0A = true →
    s.acceptsKey m Regs.SEC_AUTH 0x03000000 = true →
    exec (.authTestConsent m) s = .next (s.ends (s.acceptedKey m Regs.SEC_AUTH 0x03000000))) ∧
  (∀ (m : Master) (good : Bool) (s : State), Instr.wf (.authCheckDone m good) = true → s.awake = true →
    exec (.authCheckDone m good) s = .next (s.ends (s.authDone m good))) ∧
  (∀ (m : Master) (s : State), Instr.wf (.lcToOwned m) = true → s.reaches m 0x0A = true → s.acceptsKey m Regs.SEC_LCREQ 0x4C430001 = true →
    exec (.lcToOwned m) s = .next (s.ends (s.acceptedKey m Regs.SEC_LCREQ 0x4C430001))) ∧
  (∀ (m : Master) (s : State), Instr.wf (.lcToField m) = true → s.reaches m 0x0A = true → s.acceptsKey m Regs.SEC_LCREQ 0x4C430002 = true →
    exec (.lcToField m) s = .next (s.ends (s.acceptedKey m Regs.SEC_LCREQ 0x4C430002))) ∧
  (∀ (m : Master) (s : State), Instr.wf (.lcToReturned m) = true → s.reaches m 0x0A = true →
    s.acceptsKey m Regs.SEC_LCREQ 0x4C430003 = true →
    exec (.lcToReturned m) s = .next (s.ends (s.acceptedKey m Regs.SEC_LCREQ 0x4C430003))) ∧
  (∀ (m : Master) (v : Word) (s : State), Instr.wf (.otpProg m v) = true → s.reaches m 0x0B = true →
    s.acceptsKey m Regs.OTP_PROG v = true → exec (.otpProg m v) s = .next (s.ends (s.acceptedKey m Regs.OTP_PROG v))) ∧
  (∀ (good : Bool) (s : State), s.awake = true → exec (.otpProgDone good) s = .next (s.ends (s.otpProgDone good))) ∧
  (∀ (m : Master) (v : Nat) (s : State), Instr.wf (.rbAdvance m v) = true → s.reaches m 0x0A = true →
    s.acceptsKey m Regs.SEC_RB (Word.of v) = true → exec (.rbAdvance m v) s = .next (s.ends (s.acceptedKey m Regs.SEC_RB (Word.of v)))) ∧
  (∀ (m : Master) (s : State), Instr.wf (.imgLoad m) = true → s.reaches m 0x0C = true → s.acceptsKey m Regs.IMG_CTRL 1 = true →
    exec (.imgLoad m) s = .next (s.ends (s.acceptedKey m Regs.IMG_CTRL 1))) ∧
  (∀ (image : Image) (s : State), s.awake = true → exec (.imgVerifyDone image) s = .next (s.ends (s.imageChecked image))) ∧
  (∀ (s : State), s.awake = true → exec .imgReglistWeld s = .next (s.ends s.imageList)) ∧
  (∀ (s : State), s.awake = true → exec .imgLoadDone s = .next (s.ends s.imageFinish))

/-- Chapters 22, 23 and 25: fault clearing, the recoveries, loops, injections, JTAG and the default route. -/
def Obligations.FaultTestAndRouteCommandsComplete : Prop :=
  (∀ (m : Master) (code src : Nat) (s : State), Instr.wf (.faultClear m code src) = true → s.reaches m 0x0D = true →
    s.acceptsKey m Regs.FAULT_CLEAR (Word.of (src * 256 + code)) = true →
    exec (.faultClear m code src) s = .next (s.ends (s.acceptedKey m Regs.FAULT_CLEAR (Word.of (src * 256 + code))))) ∧
  (∀ (s : State), s.awake = true → exec .quench s = .next (s.ends s.quench)) ∧
  (∀ (s : State), s.awake = true → exec .quenchComplete s = .next (s.ends s.quenchComplete)) ∧
  (∀ (code src : Nat) (s : State), Instr.wf (.coincident code src) = true → s.awake = true →
    exec (.coincident code src) s = .next (s.ends (s.meetFault code src))) ∧
  (∀ (s : State), s.awake = true → exec .queuedRecoveryStart s = .next (s.ends s.queuedRecovery)) ∧
  (∀ (s : State), s.awake = true → exec .coreOtw s = .next (s.ends (s.coreWarn true))) ∧
  (∀ (s : State), s.awake = true → exec .coreOts s = .next (s.ends (s.raiseDevice 0x07 0x00 false))) ∧
  (∀ (m : Master) (iface inst depth : Nat) (s : State), Instr.wf (.loopGo m iface inst depth) = true → s.reaches m 0x0E = true →
    s.acceptsKey m Regs.TEST_LOOP (Word.of (2 ^ 31 + depth * 2 ^ 24 + inst * 2 ^ 16 + iface * 256)) = true →
    exec (.loopGo m iface inst depth) s =
      .next (s.ends (s.acceptedKey m Regs.TEST_LOOP (Word.of (2 ^ 31 + depth * 2 ^ 24 + inst * 2 ^ 16 + iface * 256))))) ∧
  (∀ (m : Master) (s : State), Instr.wf (.loopStop m) = true → s.reaches m 0x0E = true →
    s.acceptsKey m Regs.TEST_LOOP (s.w Regs.TEST_LOOP ||| 0x40000000) = true →
    exec (.loopStop m) s = .next (s.ends (s.acceptedKey m Regs.TEST_LOOP (s.w Regs.TEST_LOOP ||| 0x40000000)))) ∧
  (∀ (s : State), s.awake = true → exec .loopLock s = .next (s.ends s.loopLock)) ∧
  (∀ (s : State), s.awake = true → exec .noLock s = .next (s.ends s.loopNoLock)) ∧
  (∀ (s : State), s.awake = true → exec .loopAbort s = .next (s.ends s.loopAbort)) ∧
  (∀ (m : Master) (s : State), Instr.wf (.injEnable m) = true → s.reaches m 0x0E = true → s.acceptsKey m Regs.TEST_INJ 0x80000000 = true →
    exec (.injEnable m) s = .next (s.ends (s.acceptedKey m Regs.TEST_INJ 0x80000000))) ∧
  (∀ (m : Master) (s : State), Instr.wf (.injLedger m) = true → s.reaches m 0x0E = true → s.acceptsKey m Regs.TEST_INJ 1 = true →
    exec (.injLedger m) s = .next (s.ends (s.acceptedKey m Regs.TEST_INJ 1))) ∧
  (∀ (m : Master) (s : State), Instr.wf (.injStockCe m) = true → s.reaches m 0x0E = true → s.acceptsKey m Regs.TEST_INJ 2 = true →
    exec (.injStockCe m) s = .next (s.ends (s.acceptedKey m Regs.TEST_INJ 2))) ∧
  (∀ (m : Master) (s : State), Instr.wf (.injStockUe m) = true → s.reaches m 0x0E = true → s.acceptsKey m Regs.TEST_INJ 4 = true →
    exec (.injStockUe m) s = .next (s.ends (s.acceptedKey m Regs.TEST_INJ 4))) ∧
  (∀ (m : Master) (s : State), Instr.wf (.injTongsMis m) = true → s.reaches m 0x0E = true → s.acceptsKey m Regs.TEST_INJ 8 = true →
    exec (.injTongsMis m) s = .next (s.ends (s.acceptedKey m Regs.TEST_INJ 8))) ∧
  (∀ (m : Master) (s : State), Instr.wf (.injStrike m) = true → s.reaches m 0x0E = true → s.acceptsKey m Regs.TEST_INJ 16 = true →
    exec (.injStrike m) s = .next (s.ends (s.acceptedKey m Regs.TEST_INJ 16))) ∧
  (∀ (s : State), s.powered = true → exec .extest s = .next (s.ends (s.jtagSelect 0))) ∧
  (∀ (bound : Nat) (s : State), s.powered = true → exec (.samplePreload bound) s = .next (s.ends (s.jtagPreload bound))) ∧
  (∀ (s : State), s.powered = true → exec .idcode s = .next (s.ends (s.jtagSelect 1))) ∧
  (∀ (s : State), s.powered = true → exec .highz s = .next (s.ends (s.jtagSelect 3))) ∧
  (∀ (s : State), s.powered = true → exec .bypass s = .next (s.ends (s.jtagSelect 31))) ∧
  (∀ (s : State), s.powered = true → exec .auth s = .next (s.ends (s.jtagSelect 16))) ∧
  (∀ (s : State), s.powered = true → exec .ctrl s = .next (s.ends (s.jtagSelect 17))) ∧
  (∀ (wr : Bool) (addr : Nat) (v : Word) (s : State), Instr.wf (.jtagAccess wr addr v) = true →
    exec (.jtagAccess wr addr v) s = .next (s.ends (s.jtagAccess wr addr v))) ∧
  (∀ (s : State), s.awake = true → exec .keyRepeat s = .next (s.ends s.keyRepeat)) ∧
  (∀ (s : State), s.awake = true → exec .sourceChangeStep s = .next (s.ends s.changeStep)) ∧
  (∀ (m : Master) (s : State), Instr.wf (.drouteRelease m) = true → s.reaches m 0x00 = true → s.acceptsKey m Regs.SYS_DROUTE 1 = true →
    exec (.drouteRelease m) s = .next (s.ends (s.acceptedKey m Regs.SYS_DROUTE 1))) ∧
  (∀ (s : State), s.awake = true → exec .coreOtwEnd s = .next (s.ends (s.coreWarn false)))

/-! ### Time (chapters 00, 03, 04) -/

/-- R16, whole: a boundary is a tick that is an exact multiple of the stroke length, and stroke `k` runs from its boundary to the tick
before the next one. -/
def Obligations.StrokesAreNumberedFromTheTimebase : Prop :=
  ∀ (s : State) (k : Nat),
    ((∃ j, s.tb = s.boundaryTick j) ↔ s.tb % s.strokeLen = 0) ∧
    (s.strokeNo = k ↔ s.boundaryTick k ≤ s.tb ∧ s.tb < s.boundaryTick (k + 1))

/-- R108, whole: in BANKED, in EMBER, up to PLLA's lock in a wake and while the slow clock stands in for the fast one, an edge of the slow
clock adds exactly 3,000 and the count holds between edges. Nothing else changes. -/
def Obligations.SlowClockCarriesTheCount : Prop :=
  ∀ s : State, s.quiet = true → Memory.wf s = true → s.power.cold = false → s.slowCarried = true →
    exec .slowClockEdge s = .next { s with tb := (s.tb + 3000) % 2 ^ 64 } ∧ exec .tbTick s = .next s

/-- R105: out of COLD, the timebase's own clock adds one tick to the 64-bit count; in COLD it stands. Nothing else changes. -/
def Obligations.FastClockCountsTicks : Prop :=
  ∀ s : State, s.quiet = true → Memory.wf s = true →
    (s.power.cold = false → s.slowCarried = false →
      exec .tbTick s = .next { s with tb := (s.tb + 1) % 2 ^ 64 } ∧ exec .slowClockEdge s = .next s) ∧
    (s.power.cold = true → exec .tbTick s = .next s ∧ exec .slowClockEdge s = .next s)

/-! ### The control space (chapter 02) -/

/-- R42: what a write does to each bit of a register by its access type. A bit of RWS written 1 sets; one of W1C written 1 clears; one of
RW or STG takes the value; any other bit stays. -/
def Obligations.RegisterBitsFollowTheirAccessType : Prop :=
  ∀ (r : RegRow) (old v : Word) (i : Nat), i < 32 →
    (r.merge old v).getLsbD i =
      (if r.rws.testBit i && v.getLsbD i then true
       else if r.w1c.testBit i && v.getLsbD i then false
       else if (r.rw ||| r.stg).testBit i then v.getLsbD i
       else old.getLsbD i)

/-- R41, whole: every word of a reserved page reads 0; a write to it is ignored and recorded in SYS.PG_ERR with code RESERVED, and no PG_EVT
counts it. Nothing else changes. -/
def Obligations.ReservedPagesHoldNothing : Prop :=
  ∀ (m : Master) (p off : Nat) (v : Word) (s : State), pageKind p = none →
    (Instr.wf (.registerWrite m p off v) = true → s.reaches m p = true → s.quiet = true → Memory.wf s = true →
      exec (.registerWrite m p off v) s = .next (s.setW (Regs.PG_ERR 0) (Word.of (p * 65536 + off / 4 % 256 * 256 + 5)))) ∧
    s.busRead m p off = (0, s) ∧
    (∀ q < 256, (s.setW (Regs.PG_ERR 0) v).w (Regs.PG_EVT q) = s.w (Regs.PG_EVT q))

/-- R59: a forbidden read returns 0 and a forbidden write is ignored; PG_EVT of the page counts either, and its PG_ERR records ACCESS. No
other word changes, and nothing beside the words. A write that waits in CMDQ is judged at its boundary, and dropped there (R188). -/
def Obligations.ForbiddenAccessesAreRefusedAndCounted : Prop :=
  ∀ (m : Master) (p off : Nat) (v : Word) (s : State), p < 256 → (pageKind p).isSome = true → (rowAt p off).isSome = true →
    ∀ isWrite : Bool,
    let t := s.forbid (s.domainOf m) p off isWrite
    (isWrite = false → s.readForbidden m (s.domainOf m) p off (s.resolve m p off) = true → s.busRead m p off = (0, t)) ∧
    (isWrite = true → selWord p off = false → (weldExempt p off = true ∨ s.selected m = none) →
      s.queueActive m = false → s.writeForbidden m (s.domainOf m) false p off (s.resolve m p off) v = true →
      s.busWrite m p off v = (false, t)) ∧
    (∀ e : CmdqEntry, e.words = [(s.resolve m p off, v)] → e.master = m →
      s.writeForbidden m e.domain false (kvPlace (s.resolve m p off, v)).1 (kvPlace (s.resolve m p off, v)).2 (s.resolve m p off) v = true →
      s.cmdqFault e = some errAccess) ∧
    t.f (Regs.PG_EVT p) 0 16 = min 65535 (s.f (Regs.PG_EVT p) 0 16 + 1) ∧
    t.f (Regs.PG_ERR p) 0 8 = 1 ∧
    (∀ k, k ≠ Regs.PG_EVT p → k ≠ Regs.PG_ERR p → t.w k = s.w k) ∧ { t with words := s.words } = s

/-- R69: an accepted write of the LO word of a wide value changes no word of the control space but the page's PG_SEQ, and is held; the
master's next write of the HI word makes one entry of both. -/
def Obligations.WideWritesTakeEffectTogether : Prop :=
  ∀ (m : Master) (p off : Nat) (v w : Word) (s : State), s.acceptsLo m p off v = true →
    let k := s.resolve m p off
    let t := s.ctlWrite m p off v
    (∀ j, j ≠ Regs.PG_SEQ p → t.w j = s.w j) ∧ t.entryOf m (k + 1) w = [(k, v), (k + 1, w)]

/-- R51: a soft reset returns every register of its page to its reset value, but the header words it keeps, and the page is busy. Pages
with a register of their own rule at a soft reset (PAIR, TEST, FINn and ANVnn) are left out, and so are the memories and the OTP behind a
window. -/
def Obligations.SoftResetReturnsRegistersToReset : Prop :=
  ∀ (s : State) (p k : Nat), p ≠ pgPair → (∀ x ∈ [PageKind.test, .fin, .anv], pageKind p ≠ some x) →
    (s.softReset p).pageBusy p = true ∧
    ((keyPlace k).1 = p → keptBySoftReset (keyPlace k).2 = false → keyLow k < 0x200000 → isOtpKey k = false →
      (s.softReset p).w k = resetWord k)

/-- R54: a pending bit written 1 clears, and sets again while its cause is present. No other word changes. -/
def Obligations.PendingBitsReturnWhileTheirCauseIsPresent : Prop :=
  ∀ (m : Master) (p : Nat) (v : Word) (s : State), p < 256 →
    let t := s.regWrite m (Regs.IRQ_PEND p) v
    (∀ i < 32, (t.w (Regs.IRQ_PEND p)).getLsbD i =
      ((s.w (Regs.IRQ_PEND p)).getLsbD i && !v.getLsbD i || (s.w (Regs.IRQ_RAW p)).getLsbD i)) ∧
    (∀ k, k ≠ Regs.IRQ_PEND p → t.w k = s.w k)

/-- R532: a GPIO action sets, or clears, GPIO.OUT of exactly the pins it names, and changes no other word. -/
def Obligations.GpioActionsMoveTheNamedPins : Prop :=
  ∀ (s : State) (mask i : Nat) (v : Bool), i < 16 →
    (s.gpioAct mask v).b Regs.GPIO_OUT i = (if mask.testBit i then v else s.b Regs.GPIO_OUT i) ∧
    (∀ k, k ≠ Regs.GPIO_OUT → (s.gpioAct mask v).w k = s.w k)

/-! ### The scheduler (chapter 04) -/

/-- R117 and R118: a refused read of SCHED.ARM returns its reason and changes nothing; an accepted one arms one new entry, with the
arming master, its domain and the payload, at an index that no entry held, and returns that index. -/
def Obligations.ArmingTakesAFreeEntry : Prop :=
  ∀ (s : State) (m : Master) (d : Domain),
    let ctrl := s.w (perKey m Regs.SCHED_NEW_CTRL)
    let payload := s.w (perKey m Regs.SCHED_NEW_PAYLOAD)
    let time := (s.w (perKey m Regs.SCHED_NEW_LO)).toNat + 2 ^ 32 * (s.w (perKey m Regs.SCHED_NEW_HI)).toNat
    let r := s.armReason d (bit ctrl 31) (bit ctrl 30) time (bits ctrl 0 4) payload
    (r ≠ 0 → s.schedArm m d = (Word.of (r * 0x1000000), s)) ∧
    (r = 0 → ∃ e, (s.schedArm m d).1 = Word.of (0x80000000 + e.idx) ∧ (s.schedArm m d).2.sched = s.sched ++ [e] ∧ e.idx < 4096 ∧
      (∀ x ∈ s.sched, x.idx ≠ e.idx) ∧ e.master = m ∧ e.domain = d ∧ e.kind = bits ctrl 0 4 ∧ e.payload = payload ∧ e.fired = false ∧
      e.boundary = bit ctrl 31)

/-! ### The Stock and its ledger (chapter 05) -/

/-- R136 and R137: a credit for a STREAM queue is one FREE billet, drawn at once while OUTSTANDING is below DEPTH; ISSUED counts it and the
billet carries the queue's GEN. A grant at full depth gives nothing and changes nothing. -/
def Obligations.CreditsAreFreeBillets : Prop :=
  ∀ (s : State) (q : Nat) (l : Loc), s.stock.rebuilding = false → (s.queue q).isRing = false →
    ((s.queue q).depth ≤ (s.queue q).outstanding → s.grant q l = (none, s)) ∧
    (∀ b, (s.queue q).outstanding < (s.queue q).depth → s.freeFor (s.queue q) = some b →
      s.isFree b = true ∧ ((s.queue q).pin = true → slabOf b = (s.queue q).slab) ∧
      s.grant q l = (some b, (s.setOwn b { queue := q, loc := l, gen := (s.queue q).gen }).setQueue q
        { s.queue q with issued := (s.queue q).issued + 1 }) ∧
      (s.grant q l).2.own b = some { queue := q, loc := l, gen := (s.queue q).gen } ∧
      (s.grant q l).2.isFree b = false)

/-- R142, whole: a grant carries the queue's GEN; a put whose GEN differs from the queue's, or that finds the queue disabled, is refused: the
billet returns to FREE and STALE_PUT increments. A billet that has been granted anew in the meantime stays with its new grant. -/
def Obligations.StalePutsReturnTheirBillet : Prop :=
  (∀ (s : State) (q b : Nat) (l : Loc) (t : State), s.grant q l = (some b, t) → ∃ o, t.own b = some o ∧ o.gen = (s.queue q).gen) ∧
  (∀ (s : State) (q b gen : Nat) (t : Tag) (data : List Word), (gen ≠ (s.queue q).gen ∨ (s.queue q).on = false) →
    s.put q b gen t data = s.stalePut q b gen) ∧
  (∀ (s : State) (q b gen : Nat), s.grantStands q b gen = false →
    (s.stalePut q b gen).stock = s.stock ∧
    (s.stalePut q b gen).f Regs.STOCK_EVT 16 16 = min 65535 (s.f Regs.STOCK_EVT 16 16 + 1)) ∧
  ∀ (s : State) (q b gen stamp count offset flags : Nat) (data : List Word) (o : Own),
    Instr.wf (.billetPut q b gen stamp count offset flags data) = true → s.awake = true → s.own b = some o →
    o.queue = q → o.gen = gen → s.stock.quar.contains b = false → (gen ≠ (s.queue q).gen ∨ (s.queue q).on = false) →
    exec (.billetPut q b gen stamp count offset flags data) s = .next (s.ends (s.stalePut q b gen)) ∧ (s.stalePut q b gen).isFree b = true ∧
      (s.stalePut q b gen).f Regs.STOCK_EVT 16 16 = min 65535 (s.f Regs.STOCK_EVT 16 16 + 1)

/-- R137 and R143: an accepted put ends the queue with its billet, whose tag takes the queue's DOMAIN; a take removes the oldest item of a
STREAM queue that the forging unit's consumer sees whole; a release gives the billet and its credit back. -/
def Obligations.StreamQueuesAreFirstInFirstOut : Prop :=
  (∀ (s : State) (q b gen : Nat) (t : Tag) (data : List Word) (o : Own), s.own b = some o → o.queue = q → o.gen = gen →
    gen = (s.queue q).gen → (s.queue q).on = true →
    ((s.put q b gen t data).queue q).waiting = (s.queue q).waiting ++ [.billet b] ∧
    ((s.put q b gen t data).billet b).tag.domain = (s.queue q).domain ∧
    ∃ x, (s.put q b gen t data).own b = some x ∧ x.loc = .waiting ∧ x.queue = q) ∧
  (∀ (s : State) (q : Nat) (l : Loc) (i : QItem) (rest : List QItem), (s.queue q).isInput = false → (s.queue q).fresh = 0 →
    (s.queue q).on = true → (s.queue q).waiting = i :: rest → s.tst.injCe = false → s.tst.injUe = false →
    (s.take q l).1 = some i ∧ ((s.take q l).2.queue q).waiting = rest) ∧
  (∀ (s : State) (b : Nat) (o : Own), s.own b = some o →
    (s.release b).own b = none ∧ (∀ c, c ≠ b → (s.release b).own c = s.own c) ∧
    (s.release b).words = s.words ∧ (s.stock.quar.contains b = false → b < 65536 → (s.release b).isFree b = true))

/-- R144: every billet counts in exactly one of the six terms, so that they make 65,536 while the location records and QUARANTINE name no
more than the Stock's billets. -/
def Obligations.TheLedgerCountsEveryBilletOnce : Prop :=
  ∀ s : State, s.stock.own.length + s.stock.quar.length ≤ 65536 →
    s.terms.free + s.terms.queue + s.terms.anvil + s.terms.weld + s.terms.link + s.terms.quar = 65536

/-! ### Welds (chapter 06) -/

/-- R157: a read of WELD.OPEN takes the lowest-numbered FREE identifier, marks it OPEN for the reading master and its domain and returns
it; with none FREE it returns 0 and opens nothing. -/
def Obligations.OpeningTakesTheLowestFreeIdentifier : Prop :=
  ∀ (s : State) (m : Master) (d : Domain),
    (s.freeIds = [] → s.weldOpen m d = (0, s)) ∧
    (∀ id rest, s.freeIds = id :: rest →
      1 ≤ id ∧ id ≤ 15 ∧ s.weldOf id = none ∧ (∀ j, 1 ≤ j → j < id → s.weldOf j ≠ none) ∧ (s.weldOpen m d).1 = id ∧
      ∃ w, (s.weldOpen m d).2.weldOf id = some w ∧ w.st = .open_ ∧ w.opener = m ∧ w.domain = d ∧ w.entries = [])

/-- R170: an abort by the opening master of an OPEN weld cold-shuts it at once with reason ABORTED, its entries gone, counted in
WELD.SHUTS and its selector back at 0; an abort that names a FREE or COMMITTED identifier, or another master's weld, records RANGE and
changes nothing else. -/
def Obligations.AbortColdShutsAnOpenWeld : Prop :=
  ∀ (s : State) (m : Master) (id : Nat), id < 16 →
    (s.weldOf id = none → s.weldAbort m (Word.of id) = s.range pgWeld 0x058) ∧
    (∀ w, s.weldOf id = some w → (w.opener ≠ m ∨ w.st = .committed) → s.weldAbort m (Word.of id) = s.range pgWeld 0x058) ∧
    (∀ w, s.weldOf id = some w → w.opener = m → w.st = .open_ → w.pairHalf = none →
      (∃ x, (s.weldAbort m (Word.of id)).weldBySerial w.serial = some x ∧ x.st = .coldShut ∧ x.reason = 9 ∧ x.entries = []) ∧
      (s.weldAbort m (Word.of id)).f Regs.WELD_SHUTS 0 16 = min 65535 (s.f Regs.WELD_SHUTS 0 16 + 1) ∧
      (s.selector m = id → (s.weldAbort m (Word.of id)).selector m = 0))

/-! ### Anvils (chapters 10 to 12) -/

/-- R319 to R321 and R330: the decoder reads back every legal instruction from the word that spells it: no bit of an encoding is dropped. -/
def Obligations.AnvilDecodeOfEncode : Prop :=
  ∀ o : AnvOp, o.legal = true → encodeAnvil o < 2 ^ 32 ∧ decodeAnvil (encodeAnvil o) = some o

/-- R319 to R321 and R330: a word that spells an instruction is the only word that spells it, so that a reserved bit set spells none. -/
def Obligations.AnvilWordsSpellOneInstruction : Prop :=
  ∀ (w : Nat) (o : AnvOp), w < 2 ^ 32 → decodeAnvil w = some o → encodeAnvil o = w

/-- R323 and R324: ADD, SUB, NEG and ABS compute exactly, take the flags the rule gives, and saturate or wrap by md.SAT; CMP sets Z, N and C
and writes no register. `x` and `y` name data registers, or pairs with `w`; nothing of the machine changes but st and the destination. -/
def Obligations.AnvilSumsFollowTheOverflowRule : Prop :=
  ∀ (s : State) (n md f d x y : Nat) (w : Bool),
    let a := s.anv n
    let k := if w then 32 else 16
    let u := fun (r : Nat) => (if w then a.pair r else a.reg r) % 2 ^ k
    let sx := sext k (u x)
    let sy := sext k (u y)
    let exact : Int := if f = 1 then sx + sy else if f = 2 then sx - sy else if f = 7 then -sx else (sx.natAbs : Int)
    let ovf := decide (exact > 2 ^ (k - 1) - 1) || decide (exact < -(2 ^ (k - 1)))
    let res : Int :=
      if ovf && md.testBit 1 then (if exact > 2 ^ (k - 1) - 1 then 2 ^ (k - 1) - 1 else -(2 ^ (k - 1))) else sext k (unsign k exact)
    let c := if f = 1 then decide (2 ^ k ≤ u x + u y) else if f = 2 then decide (u y ≤ u x) else a.st.testBit 2
    let st := flagWord (decide (res = 0)) (decide (res < 0)) c (a.st.testBit 3 || ovf) (a.st.testBit 4 || ovf && md.testBit 1)
    let b := a.setCr 0x10 st
    (f ∈ [1, 2, 7, 8] →
      s.anvAlu n md f d x y w =
        .done (s.setAnv n (if w then b.setPair d (unsign 32 res) else b.setReg d (unsign 16 res))) ovf false .next) ∧
    s.anvAlu n md 0x0B d x y w =
      .done (s.setAnv n (a.setCr 0x10 (flagWord (decide (u x = u y)) (decide (sx < sy)) (decide (u y ≤ u x)) (a.st.testBit 3)
        (a.st.testBit 4)))) false false .next

/-- R331: MPY, MAC and MSU with 16-bit operands and no loads: the exact product, doubled, its low half discarded with SH16, goes to the
accumulator of 40 bits, which saturates or wraps by md.SAT; only V and S are set, and nothing but the accumulator and st changes. -/
def Obligations.AnvilLaneAccumulates : Prop :=
  ∀ (s : State) (n md op acc x y sgn : Nat) (sh : Bool), op < 3 →
    let a := s.anv n
    let xv : Int := if sgn.testBit 0 then (a.reg x : Int) else sext 16 (a.reg x)
    let yv : Int := if sgn.testBit 1 then (a.reg y : Int) else sext 16 (a.reg y)
    let p : Int := if sh then xv * yv * 2 / 65536 else xv * yv * 2
    let t : Int := if op = 0 then p else if op = 1 then a.accv acc + p else a.accv acc - p
    let ovf := decide (t > 2 ^ 39 - 1) || decide (t < -(2 ^ 39))
    let res : Int := if ovf && md.testBit 1 then (if t > 2 ^ 39 - 1 then 2 ^ 39 - 1 else -(2 ^ 39)) else sext 40 (unsign 40 t)
    let st := flagWord (a.st.testBit 0) (a.st.testBit 1) (a.st.testBit 2) (a.st.testBit 3 || ovf) (a.st.testBit 4 || ovf && md.testBit 1)
    s.anvLane n md op acc x y sgn sh false 0 0 false 0 0 0 = .done (s.setAnv n ((a.setAcc acc res).setCr 0x10 st)) ovf false .next

/-- R326: a linear step moves p by STEP modulo 2^16; a circular one stays in its aligned buffer of 2^LOG2LEN bytes and moves by STEP in it;
a bit-reversed one stays there too and, with STEP equal to half the buffer, counts one up in the reversed order of the field's bits. -/
def Obligations.AnvilBuffersKeepTheirAddresses : Prop :=
  ∀ p m : Nat, p < 65536 → modifierOk m = true →
    let len := 2 ^ fld m 16 5
    let q := postModify p m
    q < 65536 ∧
    (fld m 30 2 = 0 → q = (p + fld m 0 16) % 65536) ∧
    (fld m 30 2 = 1 → q / len = p / len ∧ q % len = (p + fld m 0 16) % len) ∧
    (fld m 30 2 = 2 → q / len = p / len ∧
      (fld m 0 16 = len / 2 → revBits (fld m 16 5) (q % len) = (revBits (fld m 16 5) (p % len) + 1) % len))

/-- R283, R327 and R328: ST and STW that complete write the register's value, and nothing else, at the address that the fields compute; the
same load reads it back. Every other byte of the data memory, every other word and every register but the address register keeps its
value. -/
def Obligations.AnvilStoresWriteTheirBytesAlone : Prop :=
  ∀ (s : State) (n md sub reg p am m off x v : Nat) (t : State) (vf bf : Bool) (fl : Flow), sub < 2 →
    (s.anv n).address p am m off (if sub = 0 then 2 else 4) = some (x, v) → s.anvStore n md sub reg p am m off = .done t vf bf fl →
    x < 0x4000 ∧ vf = false ∧ bf = false ∧ fl = .next ∧
    (sub = 0 → t.read16 n x = (s.anv n).reg reg) ∧ (sub = 1 → t.read32 n x = (s.anv n).pair reg) ∧
    (∀ y, y ≠ x → y % 2 = 0 → (sub = 1 → y ≠ x + 2) → t.read16 n y = s.read16 n y) ∧
    (∀ k, k ≠ dataKey n (x / 4) → t.w k = s.w k) ∧ { t with words := s.words } = s.anvAfter n (s.anv n).st p v

/-- R283, R327 and R328: LD, LDW and LDA that complete put the word at the address into their register, a pair or an accumulator, and leave
all of memory and every other register but the address register. -/
def Obligations.AnvilLoadsLeaveMemory : Prop :=
  ∀ (s : State) (n md sub reg p am m off x v : Nat) (t : State) (vf bf : Bool) (fl : Flow), sub ≠ 2 → sub < 4 →
    (s.anv n).address p am m off (if sub = 0 then 2 else 4) = some (x, v) → s.anvLoad n md sub reg p am m off = .done t vf bf fl →
    x < 0x4000 ∧ x % (if sub = 0 then 2 else 4) = 0 ∧ vf = false ∧ bf = false ∧ fl = .next ∧
    t = (s.setAnv n (if sub = 0 then (s.anv n).setReg reg (s.read16 n x) else if sub = 1 then (s.anv n).setPair reg (s.read32 n x)
      else (s.anv n).setAcc reg (sext 32 (s.read32 n x)))).anvAfter n (s.anv n).st p v ∧ t.words = s.words

/-- R358 to R360: an exception taken with no coprocessor operation open saves the place in epc and estat with EXL set, leaves every other
register and flag of the anvil and every other anvil, goes on at vbase + 2 × CAUSE, and of all words changes EXC_LAST, EXC_CNT and the page's
pending causes alone. Inside a handler, any cause but OVERRUN halts the program instead (R369). -/
def Obligations.ExceptionsSaveTheirPlace : Prop :=
  ∀ (s : State) (n cause src : Nat) (p : Place), (s.anv n).cops = [] →
    let a := s.anv n
    let b := (a.setCr 0x20 p.epc).setCr 0x21 (p.estat cause)
    let t := s.anvExcept n cause src p
    ((a.exl = false ∨ cause = 4) →
      t.anv n = { b with slot := none, shadow := none, pc := b.crv 0x22 + 2 * cause } ∧ (∀ i, i ≠ n → t.anv i = s.anv i) ∧
      (∀ k, k ≠ Regs.ANV_EXC_LAST n → k ≠ Regs.ANV_EXC_CNT n → k ≠ Regs.IRQ_PEND (anvPage n) → t.w k = s.w k)) ∧
    (a.exl = true → cause ≠ 4 → t.anvState n = anHalted ∧ (t.anv n).crv 0x20 = a.crv 0x20)

/-- R340: a loop's end with more than one pass left counts down and goes back to its start; with one left it becomes inactive and the
program goes on past the end; outside an active loop's end the program goes on. No other register changes. -/
def Obligations.LoopsCountDownToTheirEnd : Prop :=
  ∀ (a : Anv) (i : Nat), a.exl = false →
    (a.loopAt i = none → a.loopStep i = (a, i + 1)) ∧
    (∀ l, a.loopAt i = some l → l < 3 ∧ 1 ≤ a.crv (0x14 + l) ∧ a.crv (0x1C + l) = i ∧
      (1 < a.crv (0x14 + l) → a.loopStep i = (a.setCr (0x14 + l) (a.crv (0x14 + l) - 1), a.crv (0x18 + l))) ∧
      (a.crv (0x14 + l) = 1 → a.loopStep i = (a.setCr (0x14 + l) 0, i + 1)))

/-- R346: SQRT gives the correctly rounded root of a Q1.31 number, down with md.RND and to nearest without, and an error for a negative
one; DIV by zero gives its error case's result. -/
def Obligations.CoprocessorRootsAreCorrectlyRounded : Prop :=
  ∀ md a b : Nat, a < 2 ^ 32 →
    let r := (copResult 1 md a b).val.toNat
    (a < 2 ^ 31 → (copResult 1 md a b).err = false ∧
      (if md.testBit 0 then r * r ≤ a * 2 ^ 31 ∧ a * 2 ^ 31 < (r + 1) * (r + 1)
       else (0 < r → (2 * r - 1) * (2 * r - 1) < 4 * (a * 2 ^ 31)) ∧ ((copResult 1 md a b).sat = false →
         4 * (a * 2 ^ 31) < (2 * r + 1) * (2 * r + 1)))) ∧
    (2 ^ 31 ≤ a → (copResult 1 md a b).err = true ∧ r = 0) ∧
    (copResult 0 md a 0).err = true ∧ (copResult 0 md a 0).val = if a < 2 ^ 31 then 0x7FFFFFFF else 0x80000000

/-! ### Chains, stages, microphones and ports (chapters 09, 13, 16, 19, 23, 25) -/

/-- R258: whatever the free value of the device's own arithmetic, every gain factor lies within a relative 2^-28 of 10^(G / 5,120), in
exact arithmetic, and mute is exactly 0. -/
def Obligations.GainFactorsKeepTheirBound : Prop :=
  fieldFactor (-0x8000) = 0 ∧
  ∀ g : Int, -0x8000 < g → g ≤ 0x7FFF →
    let n := fieldFactor g
    let up := if 0 ≤ g then 10 ^ g.toNat else 1
    let dn := if 0 ≤ g then 1 else 10 ^ (-g).toNat
    up * (2 ^ 28 - 1) ^ 5120 * 2 ^ (32 * 5120) < n ^ 5120 * dn ∧ n ^ 5120 * dn < up * (2 ^ 28 + 1) ^ 5120 * 2 ^ (32 * 5120)

/-- R611: leaving EXTEST or HIGHZ leaves no stage and no external channel driven: each is STOPPED, LATCHED or a SLAVE. -/
def Obligations.LeavingExtestStopsEveryChannel : Prop :=
  ∀ (s : State) (ir c : Nat), (s.tst.ir = 0 ∨ s.tst.ir = 3) → c < 16 →
    (s.jtagSelect ir).chState c = chStopped ∨ (s.jtagSelect ir).chState c = chLatched ∨ (s.jtagSelect ir).chState c = chSlave

/-- R646: a release of the default route clears EN and BUSY, drops what a source change and a key hold had left to do, and changes no other
bit of SYS.DROUTE and no other word. -/
def Obligations.ReleasedRouteLeavesEverythingElse : Prop :=
  ∀ s : State, s.releaseRoute.routed = false ∧ s.releaseRoute.boot.change = none ∧ s.releaseRoute.boot.held = none ∧
    s.releaseRoute.boot.keyAt = none ∧ (∀ i, i < 32 → i ≠ 0 → i ≠ 9 → s.releaseRoute.b Regs.SYS_DROUTE i = s.b Regs.SYS_DROUTE i) ∧
    (∀ k, k ≠ Regs.SYS_DROUTE → s.releaseRoute.w k = s.w k)

/-- R388: a stage that trips with retries left waits 500 ms in TRIPPED; with none left it is LATCHED; either raises the page's first
cause. -/
def Obligations.TripsWaitOrLatch : Prop :=
  ∀ (s : State) (c : Nat), c < 16 → s.test c = none → s.chState c ≠ chTripped → s.chState c ≠ chLatched →
    (s.trip c).b (Regs.IRQ_PEND (chPage c)) 0 = true ∧
    (s.f (Regs.CH_STAT c) 16 4 < s.f (Regs.CH_CFG c) 12 4 →
      (s.trip c).chState c = chTripped ∧ ((s.trip c).chan c).due = s.tb + 500 * tickMs) ∧
    (s.f (Regs.CH_STAT c) 16 4 = s.f (Regs.CH_CFG c) 12 4 → (s.trip c).chState c = chLatched)

/-- R465 and R466: the privacy mute sets MIC.PRIV's flag and counts once; while it stands, a further assertion changes nothing. -/
def Obligations.PrivacyMuteSetsItsFlag : Prop :=
  ∀ s : State, s.power.cold = false →
    (s.privacy = false → s.muteAssert.b Regs.MIC_PRIV 31 = true ∧
      s.muteAssert.f Regs.MIC_PRIV 0 16 = min 65535 (s.f Regs.MIC_PRIV 0 16 + 1)) ∧ (s.privacy = true → s.muteAssert = s)

/-- R516: an operation written to a channel that discards none joins the end of its queue; RXD pops the oldest received byte, with VALID,
and reads 0 when there is none. Neither moves the other queue. -/
def Obligations.TwcQueuesKeepTheirOrder : Prop :=
  ∀ (s : State) (n : Nat) (v : Word), n < 3 →
    ((s.twc n).discard = false → ((s.twcPush n v).twc n).ops =
      (s.twc n).ops ++ [{ kind := bits v 10 2, pec := bit v 9, last := bit v 8, data := bits v 0 8 }] ∧
      ((s.twcPush n v).twc n).rx = (s.twc n).rx) ∧
    ((s.twc n).rx = [] → s.twcPop n = (0, s)) ∧
    (∀ b t, (s.twc n).rx = b :: t → (s.twcPop n).1 = Word.of (256 + b) ∧
      ((s.twcPop n).2.twc n).rx = t ∧ ((s.twcPop n).2.twc n).ops = (s.twc n).ops)

/-! ### Secrecy and faults (chapters 21, 22) -/

/-- R574: the end of an OTP programming never clears a bit, sets none that was not asked for, and changes no other word of the OTP. -/
def Obligations.OtpBitsAreNeverCleared : Prop :=
  ∀ (s : State) (good : Bool) (i : Nat), i < 512 →
    let t := s.otpProgDone good
    (∀ j < 32, (s.otp i).getLsbD j = true → (t.otp i).getLsbD j = true) ∧
    (∀ j < 32, (t.otp i).getLsbD j = true → (s.otp i).getLsbD j = true ∨
      ∃ v, s.sec.otpProg = some (i, v) ∧ v.getLsbD j = true) ∧
    (good = true → ∀ v, s.sec.otpProg = some (i, v) → t.otp i = s.otp i ||| v)

/-- R570: the end of a port's owner session closes it, and no scheduler entry that the port armed in it stays armed. -/
def Obligations.SessionEndTakesBackItsActions : Prop :=
  ∀ (s : State) (m : Master), (m = .twt ∨ m = .spit) →
    (s.endSession m).inSession m = false ∧
    (s.inSession m = true → ∀ e ∈ (s.endSession m).sched, (e.master == m && e.session && !e.fired) = false)

/-- R597: an entry of the fault log goes in front with its time, code, source and class, the log keeps the sixteen newest, and logging
makes no fault active. -/
def Obligations.TheLogKeepsTheSixteenNewest : Prop :=
  ∀ (s : State) (f : FaultId) (cls outcome : Nat),
    (s.logFault f cls outcome).fault.log = ({ tb := s.tb, fid := f, cls := cls, outcome := outcome } :: s.fault.log).take 16 ∧
    (s.logFault f cls outcome).fault.active = s.fault.active

/-- R590: a fault that clears is no longer active on its source, no other fault changes, and cause CLEARED is raised; clearing a fault that
is not active changes nothing. -/
def Obligations.ClearedFaultsAreNotActive : Prop :=
  ∀ (s : State) (code src : Nat),
    (s.clearFault code src).faultActive code src = false ∧
    (∀ c r, (c ≠ code ∨ r ≠ src) → (s.clearFault code src).faultActive c r = s.faultActive c r) ∧
    (s.faultActive code src = true → (s.clearFault code src).b (Regs.IRQ_PEND 0x0D) 2 = true) ∧
    (s.faultActive code src = false → s.clearFault code src = s)

/-! ### The Tongs and the serial pins (chapters 14, 07) -/

/-- R426: protected fallback sets the level of every driver channel's chain to that of its SAFE code, shows FALLBACK with its cause, and
makes TONGS_FB active; it changes no SAFE code and not the level of FIN16. -/
def Obligations.FallbackHoldsLevelsAtSafeCodes : Prop :=
  ∀ (s : State) (cause : Nat), cause < 8 →
    let t := s.tongsFallback cause
    t.f Regs.TONGS_STAT 0 4 = 2 ∧ t.f Regs.TONGS_STAT 24 3 = cause ∧ t.faultActive 0x3D pgTongs = true ∧
    t.w (Regs.FIN_ALLOW 16) = s.w (Regs.FIN_ALLOW 16) ∧
    ∀ c < 16,
      t.f (Regs.FIN_ALLOW c) 0 16 = unsign 16 (safeLevel (s.f (Regs.TONGS_SAFE (c / 4)) (8 * (c % 4)) 8)) ∧
      t.w (Regs.TONGS_SAFE (c / 4)) = s.w (Regs.TONGS_SAFE (c / 4))

/-- R194, R196: a receiver whose data line shows, at the sampling edges of slot `i`, the bits that a sender of the same format puts there
reads the sender's word in the format's width. -/
def Obligations.SlotsCarryTheirWord : Prop :=
  ∀ (f v : Word) (line : Nat → Bool) (i : Nat),
    (∀ j < fmtWordBits f, line (fmtSlotStart f i + j) = fmtSlotBit f v j) →
    fmtReadWord f line i = Word.of (v.toNat % 2 ^ fmtWordBits f)
end

