-- ==== Sys2Proof/Laws/Bits.lean ====
section
/-!
SUPPORT. Laws of bit fields: a field reads as it was written, and a write of one field leaves every field beside it alone.
-/

namespace Sys2Proof.Machine

theorem bits_lt (w : Word) (lo len : Nat) : bits w lo len < 2 ^ len := Nat.mod_lt _ (by positivity)

theorem bits_eq (w : Word) (lo len : Nat) : bits w lo len = w.toNat / 2 ^ lo % 2 ^ len := by
  simp [bits, Nat.shiftRight_eq_div_pow]

theorem bit_eq (w : Word) (i : Nat) : bit w i = decide (bits w i 1 = 1) := by
  simp [bit, bits, Nat.testBit, Nat.one_and_eq_mod_two]

/-- A word in three parts: below a field, the field, and above it. -/
theorem word_parts (n lo len : Nat) :
    n = n / 2 ^ (lo + len) * 2 ^ (lo + len) + n / 2 ^ lo % 2 ^ len * 2 ^ lo + n % 2 ^ lo := by
  have h1 := Nat.div_add_mod n (2 ^ lo)
  have h2 := Nat.div_add_mod (n / 2 ^ lo) (2 ^ len)
  rw [Nat.div_div_eq_div_mul, ← pow_add] at h2
  calc n = 2 ^ lo * (n / 2 ^ lo) + n % 2 ^ lo := h1.symm
    _ = 2 ^ lo * (2 ^ len * (n / 2 ^ (lo + len)) + n / 2 ^ lo % 2 ^ len) + n % 2 ^ lo := by rw [h2]
    _ = _ := by rw [pow_add]; ring

/-- The number a word becomes when one field of it is replaced. -/
theorem putBits_toNat (w : Word) (lo len v : Nat) (h : lo + len ≤ 32) :
    (putBits w lo len v).toNat =
      w.toNat / 2 ^ (lo + len) * 2 ^ (lo + len) + v % 2 ^ len * 2 ^ lo + w.toNat % 2 ^ lo := by
  have hp := word_parts w.toNat lo len
  have hw : w.toNat < 2 ^ 32 := w.isLt
  have hv : v % 2 ^ len < 2 ^ len := Nat.mod_lt _ (by positivity)
  have hl : w.toNat % 2 ^ lo < 2 ^ lo := Nat.mod_lt _ (by positivity)
  have hh : w.toNat / 2 ^ (lo + len) < 2 ^ (32 - (lo + len)) := by
    rw [Nat.div_lt_iff_lt_mul (by positivity), ← pow_add]
    simpa [Nat.sub_add_cancel h] using hw
  unfold putBits
  rw [bits_eq, BitVec.toNat_ofNat]
  have e : w.toNat - w.toNat / 2 ^ lo % 2 ^ len * 2 ^ lo + v % 2 ^ len * 2 ^ lo =
      w.toNat / 2 ^ (lo + len) * 2 ^ (lo + len) + v % 2 ^ len * 2 ^ lo + w.toNat % 2 ^ lo := by omega
  rw [e]
  apply Nat.mod_eq_of_lt
  have h1 : v % 2 ^ len * 2 ^ lo + 2 ^ lo ≤ 2 ^ len * 2 ^ lo := by nlinarith [Nat.pow_pos (n := lo) (show 0 < 2 by norm_num)]
  have h2 : w.toNat / 2 ^ (lo + len) * 2 ^ (lo + len) + 2 ^ (lo + len) ≤ 2 ^ (32 - (lo + len)) * 2 ^ (lo + len) := by
    nlinarith [Nat.pow_pos (n := lo + len) (show 0 < 2 by norm_num)]
  have h3 : 2 ^ (32 - (lo + len)) * 2 ^ (lo + len) = 2 ^ 32 := by rw [← pow_add, Nat.sub_add_cancel h]
  have h4 : 2 ^ len * 2 ^ lo = 2 ^ (lo + len) := by rw [← pow_add, Nat.add_comm]
  omega

theorem bits_putBits_same (w : Word) (lo len v : Nat) (h : lo + len ≤ 32) : bits (putBits w lo len v) lo len = v % 2 ^ len := by
  rw [bits_eq, putBits_toNat w lo len v h]
  have hv : v % 2 ^ len < 2 ^ len := Nat.mod_lt _ (by positivity)
  have hl : w.toNat % 2 ^ lo < 2 ^ lo := Nat.mod_lt _ (by positivity)
  have e : w.toNat / 2 ^ (lo + len) * 2 ^ (lo + len) + v % 2 ^ len * 2 ^ lo + w.toNat % 2 ^ lo =
      w.toNat % 2 ^ lo + (w.toNat / 2 ^ (lo + len) * 2 ^ len + v % 2 ^ len) * 2 ^ lo := by rw [pow_add]; ring
  rw [e, Nat.add_mul_div_right _ _ (by positivity), Nat.div_eq_of_lt hl, Nat.zero_add, Nat.mul_comm, Nat.mul_add_mod,
    Nat.mod_eq_of_lt hv]

theorem bits_putBits_below (w : Word) (lo len v a n : Nat) (h : lo + len ≤ 32) (ha : a + n ≤ lo) :
    bits (putBits w lo len v) a n = bits w a n := by
  rw [bits_eq, bits_eq, putBits_toNat w lo len v h]
  obtain ⟨c, rfl⟩ := Nat.exists_eq_add_of_le ha
  have key : ∀ x y : Nat, (x * 2 ^ (a + n + c) + y) / 2 ^ a % 2 ^ n = y / 2 ^ a % 2 ^ n := by
    intro x y
    rw [show x * 2 ^ (a + n + c) + y = y + x * 2 ^ (n + c) * 2 ^ a by rw [show a + n + c = (n + c) + a by omega, pow_add]; ring,
      Nat.add_mul_div_right _ _ (by positivity), show x * 2 ^ (n + c) = x * 2 ^ c * 2 ^ n by rw [pow_add]; ring,
      Nat.add_mul_mod_self_right]
  rw [show w.toNat / 2 ^ (a + n + c + len) * 2 ^ (a + n + c + len) + v % 2 ^ len * 2 ^ (a + n + c) + w.toNat % 2 ^ (a + n + c) =
      (w.toNat / 2 ^ (a + n + c + len) * 2 ^ len + v % 2 ^ len) * 2 ^ (a + n + c) + w.toNat % 2 ^ (a + n + c) by
    rw [pow_add _ _ len]; ring, key]
  conv_rhs => rw [← Nat.div_add_mod w.toNat (2 ^ (a + n + c)), Nat.mul_comm, key]

theorem bits_putBits_above (w : Word) (lo len v a n : Nat) (h : lo + len ≤ 32) (ha : lo + len ≤ a) :
    bits (putBits w lo len v) a n = bits w a n := by
  rw [bits_eq, bits_eq, putBits_toNat w lo len v h]
  obtain ⟨c, rfl⟩ := Nat.exists_eq_add_of_le ha
  have hv : v % 2 ^ len < 2 ^ len := Nat.mod_lt _ (by positivity)
  have hl : w.toNat % 2 ^ lo < 2 ^ lo := Nat.mod_lt _ (by positivity)
  have hs : v % 2 ^ len * 2 ^ lo + w.toNat % 2 ^ lo < 2 ^ (lo + len) := by
    have : v % 2 ^ len * 2 ^ lo + 2 ^ lo ≤ 2 ^ len * 2 ^ lo := by nlinarith [Nat.pow_pos (n := lo) (show 0 < 2 by norm_num)]
    rw [pow_add, Nat.mul_comm (2 ^ lo)]
    omega
  rw [pow_add _ _ c, ← Nat.div_div_eq_div_mul, ← Nat.div_div_eq_div_mul, Nat.add_assoc, Nat.add_comm (_ * _),
    Nat.add_mul_div_right _ _ (by positivity), Nat.div_eq_of_lt hs, Nat.zero_add]

end Sys2Proof.Machine
end

