-- ==== Sys2Proof/Laws/Sparse.lean ====
section
/-!
SUPPORT. Laws of sparse stores: what a key reads as after a write, that every write keeps the canonical form, that the canonical form of a
canonical store is the store itself, and that canonical stores that read alike are equal.
-/

namespace Sys2Proof.Machine

variable {α : Type}

/-! ### Reading after writing -/

theorem Sparse.find_put_same (m : Sparse α) (k : Nat) (v : α) : (m.put k v).find k = some v := by
  induction m with
  | nil => simp [Sparse.put, Sparse.find]
  | cons x t ih =>
    obtain ⟨k', v'⟩ := x
    simp only [Sparse.put]
    split
    · simp [Sparse.find]
    · split
      · simp [Sparse.find]
      · rename_i h1 h2
        have : ¬ k' = k := by omega
        simp [Sparse.find, this, ih]

theorem Sparse.find_put_other (m : Sparse α) {j k : Nat} (v : α) (h : j ≠ k) : (m.put k v).find j = m.find j := by
  induction m with
  | nil => simp [Sparse.put, Sparse.find, Ne.symm h]
  | cons x t ih =>
    obtain ⟨k', v'⟩ := x
    simp only [Sparse.put]
    split
    · simp [Sparse.find, Ne.symm h]
    · split
      · rename_i h1 h2
        subst h2
        simp [Sparse.find, Ne.symm h]
      · simp only [Sparse.find, ih]

theorem Sparse.rising_tail {o : Option Nat} {k : Nat} {v : α} {t : Sparse α} (h : Sparse.rising o ((k, v) :: t) = true) :
    Sparse.rising (some k) t = true := by
  cases o <;> simp_all [Sparse.rising]

theorem Sparse.find_del_same (m : Sparse α) (k : Nat) : (m.del k).find k = none := by
  induction m with
  | nil => rfl
  | cons x t ih =>
    obtain ⟨k', v'⟩ := x
    simp only [Sparse.del]
    split
    · exact ih
    · rename_i e
      simp only [Sparse.find, e, if_false]
      exact ih

theorem Sparse.find_del_other (m : Sparse α) {j k : Nat} (h : j ≠ k) : (m.del k).find j = m.find j := by
  induction m with
  | nil => rfl
  | cons x t ih =>
    obtain ⟨k', v'⟩ := x
    simp only [Sparse.del]
    split
    · rename_i e
      subst e
      simp [Sparse.find, Ne.symm h, ih]
    · simp only [Sparse.find, ih]

theorem Sparse.get_set_same [DecidableEq α] (m : Sparse α) (d : α) (k : Nat) (v : α) : (m.set d k v).get d k = v := by
  unfold Sparse.set Sparse.get
  split
  · rename_i e
    rw [Sparse.find_del_same m k, e]
    rfl
  · rw [Sparse.find_put_same]
    rfl

theorem Sparse.get_set_other [DecidableEq α] (m : Sparse α) (d e : α) {j k : Nat} (v : α) (h : j ≠ k) :
    (m.set d k v).get e j = m.get e j := by
  unfold Sparse.set Sparse.get
  split
  · rw [Sparse.find_del_other m h]
  · rw [Sparse.find_put_other m v h]

/-! ### The canonical form -/

theorem Sparse.rising_weaken (m : Sparse α) {a b : Nat} (h : Sparse.rising (some b) m = true) (hab : a ≤ b) :
    Sparse.rising (some a) m = true := by
  cases m with
  | nil => rfl
  | cons x t =>
    simp only [Sparse.rising, Bool.and_eq_true, decide_eq_true_eq] at *
    exact ⟨by omega, h.2⟩

theorem Sparse.rising_none (m : Sparse α) {a : Nat} (h : Sparse.rising (some a) m = true) : Sparse.rising none m = true := by
  cases m with
  | nil => rfl
  | cons x t =>
    simp only [Sparse.rising, Bool.and_eq_true] at *
    exact h.2

theorem Sparse.rising_put (m : Sparse α) (lo k : Nat) (v : α) (h : Sparse.rising (some lo) m = true) (hk : lo < k) :
    Sparse.rising (some lo) (m.put k v) = true := by
  induction m generalizing lo with
  | nil => simp [Sparse.put, Sparse.rising, hk]
  | cons x t ih =>
    obtain ⟨k', v'⟩ := x
    simp only [Sparse.rising, Bool.and_eq_true, decide_eq_true_eq] at h
    simp only [Sparse.put]
    split
    · simp [Sparse.rising, hk, h.2]
      assumption
    · split
      · rename_i e
        subst e
        simp [Sparse.rising, hk, h.2]
      · simp only [Sparse.rising, Bool.and_eq_true, decide_eq_true_eq]
        exact ⟨h.1, ih k' h.2 (by omega)⟩

theorem Sparse.rising_put_none (m : Sparse α) (k : Nat) (v : α) (h : Sparse.rising none m = true) :
    Sparse.rising none (m.put k v) = true := by
  cases m with
  | nil => rfl
  | cons x t =>
    obtain ⟨k', v'⟩ := x
    simp only [Sparse.rising] at h
    simp only [Sparse.put]
    split
    · rename_i hk
      simp [Sparse.rising, h, hk]
    · split
      · rename_i e
        subst e
        simpa [Sparse.rising] using h
      · simp only [Sparse.rising]
        exact Sparse.rising_put t k' k v h (by omega)

theorem Sparse.rising_del (m : Sparse α) (o : Option Nat) (k : Nat) (h : Sparse.rising o m = true) :
    Sparse.rising o (m.del k) = true := by
  induction m generalizing o with
  | nil => exact h
  | cons x t ih =>
    obtain ⟨k', v'⟩ := x
    have ht := ih (some k') (Sparse.rising_tail h)
    simp only [Sparse.del]
    split
    · cases o with
      | none => exact Sparse.rising_none _ ht
      | some lo =>
        simp only [Sparse.rising, Bool.and_eq_true, decide_eq_true_eq] at h
        exact Sparse.rising_weaken _ ht (by omega)
    · cases o with
      | none => simpa [Sparse.rising] using ht
      | some lo =>
        simp only [Sparse.rising, Bool.and_eq_true, decide_eq_true_eq] at h ⊢
        exact ⟨h.1, ht⟩

theorem Sparse.mem_put {m : Sparse α} {k : Nat} {v : α} {x : Nat × α} (h : x ∈ m.put k v) : x = (k, v) ∨ x ∈ m := by
  induction m with
  | nil => simp_all [Sparse.put]
  | cons y t ih =>
    obtain ⟨k', v'⟩ := y
    simp only [Sparse.put] at h
    split at h
    · simp_all
    · split at h
      · rcases List.mem_cons.1 h with h | h
        · exact .inl h
        · exact .inr (List.mem_cons_of_mem _ h)
      · rcases List.mem_cons.1 h with h | h
        · exact .inr (by simp [h])
        · rcases ih h with h | h
          · exact .inl h
          · exact .inr (List.mem_cons_of_mem _ h)

theorem Sparse.mem_del {m : Sparse α} {k : Nat} {x : Nat × α} (h : x ∈ m.del k) : x ∈ m := by
  induction m with
  | nil => exact h
  | cons y t ih =>
    obtain ⟨k', v'⟩ := y
    simp only [Sparse.del] at h
    split at h
    · exact List.mem_cons_of_mem _ (ih h)
    · rcases List.mem_cons.1 h with h | h
      · simp [h]
      · exact List.mem_cons_of_mem _ (ih h)

/-- A write keeps the canonical form. -/
theorem Sparse.set_wf [DecidableEq α] (d : Nat → α) (m : Sparse α) (k : Nat) (v : α) (h : Sparse.wf d m = true) :
    Sparse.wf d (m.set (d k) k v) = true := by
  simp only [Sparse.wf, Bool.and_eq_true, List.all_eq_true, decide_eq_true_eq] at *
  unfold Sparse.set
  split
  · exact ⟨Sparse.rising_del m none k h.1, fun x hx => h.2 x (Sparse.mem_del hx)⟩
  · rename_i hv
    refine ⟨Sparse.rising_put_none m k v h.1, fun x hx => ?_⟩
    rcases Sparse.mem_put hx with e | hx
    · subst e
      exact hv
    · exact h.2 x hx

theorem Sparse.nil_wf [DecidableEq α] (d : Nat → α) : Sparse.wf d ([] : Sparse α) = true := rfl

/-- Whatever the store, its canonical form is canonical. -/
theorem Sparse.canon_wf [DecidableEq α] (d : Nat → α) (m : Sparse α) : Sparse.wf d (Sparse.canon d m) = true := by
  induction m with
  | nil => rfl
  | cons x t ih => exact Sparse.set_wf d _ x.1 x.2 ih

theorem Sparse.put_front (m : Sparse α) (k : Nat) (v : α) (h : Sparse.rising (some k) m = true) : m.put k v = (k, v) :: m := by
  cases m with
  | nil => rfl
  | cons x t =>
    obtain ⟨k', v'⟩ := x
    simp only [Sparse.rising, Bool.and_eq_true, decide_eq_true_eq] at h
    simp [Sparse.put, h.1]

/-- A canonical store is its own canonical form. -/
theorem Sparse.canon_of_wf [DecidableEq α] (d : Nat → α) (m : Sparse α) (h : Sparse.wf d m = true) : Sparse.canon d m = m := by
  simp only [Sparse.wf, Bool.and_eq_true, List.all_eq_true, decide_eq_true_eq] at h
  obtain ⟨hr, hd⟩ := h
  induction m with
  | nil => rfl
  | cons x t ih =>
    obtain ⟨k, v⟩ := x
    have ht := Sparse.rising_tail hr
    have e : Sparse.canon d t = t := ih (Sparse.rising_none t ht) fun y hy => hd y (List.mem_cons_of_mem _ hy)
    have hv : v ≠ d k := hd (k, v) (by simp)
    show Sparse.set (Sparse.canon d t) (d k) k v = (k, v) :: t
    rw [e, Sparse.set, if_neg hv, Sparse.put_front t k v ht]

end Sys2Proof.Machine
end

