-- ==== Sys2Proof/Laws/State.lean ====
section
/-!
SUPPORT. What each update of the state leaves: one lemma per field, so that no later proof unfolds a record update.
-/

namespace Sys2Proof.Machine

/-! ### setW -/

@[simp] theorem State.setW_pending (s : State) (k : Nat) (v : Word) : (s.setW k v).pending = s.pending := rfl
@[simp] theorem State.setW_tb (s : State) (k : Nat) (v : Word) : (s.setW k v).tb = s.tb := rfl
@[simp] theorem State.setW_boundary (s : State) (k : Nat) (v : Word) : (s.setW k v).boundary = s.boundary := rfl
@[simp] theorem State.setW_free (s : State) (k : Nat) (v : Word) : (s.setW k v).free = s.free := rfl
@[simp] theorem State.setW_fabric (s : State) (k : Nat) (v : Word) : (s.setW k v).fabric = s.fabric := rfl
@[simp] theorem State.setW_power (s : State) (k : Nat) (v : Word) : (s.setW k v).power = s.power := rfl
@[simp] theorem State.setW_weld (s : State) (k : Nat) (v : Word) : (s.setW k v).weld = s.weld := rfl
@[simp] theorem State.setW_sched (s : State) (k : Nat) (v : Word) : (s.setW k v).sched = s.sched := rfl
@[simp] theorem State.setW_schedOrder (s : State) (k : Nat) (v : Word) : (s.setW k v).schedOrder = s.schedOrder := rfl
@[simp] theorem State.setW_schedTick (s : State) (k : Nat) (v : Word) : (s.setW k v).schedTick = s.schedTick := rfl
@[simp] theorem State.setW_schedCnt (s : State) (k : Nat) (v : Word) : (s.setW k v).schedCnt = s.schedCnt := rfl
@[simp] theorem State.setW_pdmRate (s : State) (k : Nat) (v : Word) : (s.setW k v).pdmRate = s.pdmRate := rfl
@[simp] theorem State.setW_fault (s : State) (k : Nat) (v : Word) : (s.setW k v).fault = s.fault := rfl
@[simp] theorem State.setW_stock (s : State) (k : Nat) (v : Word) : (s.setW k v).stock = s.stock := rfl
@[simp] theorem State.setW_chans (s : State) (k : Nat) (v : Word) : (s.setW k v).chans = s.chans := rfl
@[simp] theorem State.setW_dieA (s : State) (k : Nat) (v : Word) : (s.setW k v).dieA = s.dieA := rfl
@[simp] theorem State.setW_dieB (s : State) (k : Nat) (v : Word) : (s.setW k v).dieB = s.dieB := rfl
@[simp] theorem State.setW_trk (s : State) (k : Nat) (v : Word) : (s.setW k v).trk = s.trk := rfl
@[simp] theorem State.setW_ring (s : State) (k : Nat) (v : Word) : (s.setW k v).ring = s.ring := rfl
@[simp] theorem State.setW_hpo (s : State) (k : Nat) (v : Word) : (s.setW k v).hpo = s.hpo := rfl
@[simp] theorem State.setW_jack (s : State) (k : Nat) (v : Word) : (s.setW k v).jack = s.jack := rfl
@[simp] theorem State.setW_sides (s : State) (k : Nat) (v : Word) : (s.setW k v).sides = s.sides := rfl
@[simp] theorem State.setW_asrc (s : State) (k : Nat) (v : Word) : (s.setW k v).asrc = s.asrc := rfl
@[simp] theorem State.setW_capts (s : State) (k : Nat) (v : Word) : (s.setW k v).capts = s.capts := rfl
@[simp] theorem State.setW_wake (s : State) (k : Nat) (v : Word) : (s.setW k v).wake = s.wake := rfl
@[simp] theorem State.setW_patch (s : State) (k : Nat) (v : Word) : (s.setW k v).patch = s.patch := rfl
@[simp] theorem State.setW_incs (s : State) (k : Nat) (v : Word) : (s.setW k v).incs = s.incs := rfl
@[simp] theorem State.setW_fins (s : State) (k : Nat) (v : Word) : (s.setW k v).fins = s.fins := rfl
@[simp] theorem State.setW_ports (s : State) (k : Nat) (v : Word) : (s.setW k v).ports = s.ports := rfl
@[simp] theorem State.setW_nodes (s : State) (k : Nat) (v : Word) : (s.setW k v).nodes = s.nodes := rfl
@[simp] theorem State.setW_outs (s : State) (k : Nat) (v : Word) : (s.setW k v).outs = s.outs := rfl
@[simp] theorem State.setW_pub (s : State) (k : Nat) (v : Word) : (s.setW k v).pub = s.pub := rfl
@[simp] theorem State.setW_anvs (s : State) (k : Nat) (v : Word) : (s.setW k v).anvs = s.anvs := rfl
@[simp] theorem State.setW_varrAt (s : State) (k : Nat) (v : Word) : (s.setW k v).varrAt = s.varrAt := rfl
@[simp] theorem State.setW_portTurn (s : State) (k : Nat) (v : Word) : (s.setW k v).portTurn = s.portTurn := rfl
@[simp] theorem State.setW_tongs (s : State) (k : Nat) (v : Word) : (s.setW k v).tongs = s.tongs := rfl
@[simp] theorem State.setW_auxs (s : State) (k : Nat) (v : Word) : (s.setW k v).auxs = s.auxs := rfl
@[simp] theorem State.setW_twcs (s : State) (k : Nat) (v : Word) : (s.setW k v).twcs = s.twcs := rfl
@[simp] theorem State.setW_wire (s : State) (k : Nat) (v : Word) : (s.setW k v).wire = s.wire := rfl
@[simp] theorem State.setW_sec (s : State) (k : Nat) (v : Word) : (s.setW k v).sec = s.sec := rfl
@[simp] theorem State.setW_img (s : State) (k : Nat) (v : Word) : (s.setW k v).img = s.img := rfl
@[simp] theorem State.setW_pair (s : State) (k : Nat) (v : Word) : (s.setW k v).pair = s.pair := rfl
@[simp] theorem State.setW_tst (s : State) (k : Nat) (v : Word) : (s.setW k v).tst = s.tst := rfl
@[simp] theorem State.setW_boot (s : State) (k : Nat) (v : Word) : (s.setW k v).boot = s.boot := rfl

/-! ### setF -/

@[simp] theorem State.setF_pending (s : State) (k lo len v : Nat) : (s.setF k lo len v).pending = s.pending := rfl
@[simp] theorem State.setF_tb (s : State) (k lo len v : Nat) : (s.setF k lo len v).tb = s.tb := rfl
@[simp] theorem State.setF_boundary (s : State) (k lo len v : Nat) : (s.setF k lo len v).boundary = s.boundary := rfl
@[simp] theorem State.setF_free (s : State) (k lo len v : Nat) : (s.setF k lo len v).free = s.free := rfl
@[simp] theorem State.setF_fabric (s : State) (k lo len v : Nat) : (s.setF k lo len v).fabric = s.fabric := rfl
@[simp] theorem State.setF_power (s : State) (k lo len v : Nat) : (s.setF k lo len v).power = s.power := rfl
@[simp] theorem State.setF_weld (s : State) (k lo len v : Nat) : (s.setF k lo len v).weld = s.weld := rfl
@[simp] theorem State.setF_sched (s : State) (k lo len v : Nat) : (s.setF k lo len v).sched = s.sched := rfl
@[simp] theorem State.setF_schedOrder (s : State) (k lo len v : Nat) : (s.setF k lo len v).schedOrder = s.schedOrder := rfl
@[simp] theorem State.setF_schedTick (s : State) (k lo len v : Nat) : (s.setF k lo len v).schedTick = s.schedTick := rfl
@[simp] theorem State.setF_schedCnt (s : State) (k lo len v : Nat) : (s.setF k lo len v).schedCnt = s.schedCnt := rfl
@[simp] theorem State.setF_pdmRate (s : State) (k lo len v : Nat) : (s.setF k lo len v).pdmRate = s.pdmRate := rfl
@[simp] theorem State.setF_fault (s : State) (k lo len v : Nat) : (s.setF k lo len v).fault = s.fault := rfl
@[simp] theorem State.setF_stock (s : State) (k lo len v : Nat) : (s.setF k lo len v).stock = s.stock := rfl
@[simp] theorem State.setF_chans (s : State) (k lo len v : Nat) : (s.setF k lo len v).chans = s.chans := rfl
@[simp] theorem State.setF_dieA (s : State) (k lo len v : Nat) : (s.setF k lo len v).dieA = s.dieA := rfl
@[simp] theorem State.setF_dieB (s : State) (k lo len v : Nat) : (s.setF k lo len v).dieB = s.dieB := rfl
@[simp] theorem State.setF_trk (s : State) (k lo len v : Nat) : (s.setF k lo len v).trk = s.trk := rfl
@[simp] theorem State.setF_ring (s : State) (k lo len v : Nat) : (s.setF k lo len v).ring = s.ring := rfl
@[simp] theorem State.setF_hpo (s : State) (k lo len v : Nat) : (s.setF k lo len v).hpo = s.hpo := rfl
@[simp] theorem State.setF_jack (s : State) (k lo len v : Nat) : (s.setF k lo len v).jack = s.jack := rfl
@[simp] theorem State.setF_sides (s : State) (k lo len v : Nat) : (s.setF k lo len v).sides = s.sides := rfl
@[simp] theorem State.setF_asrc (s : State) (k lo len v : Nat) : (s.setF k lo len v).asrc = s.asrc := rfl
@[simp] theorem State.setF_capts (s : State) (k lo len v : Nat) : (s.setF k lo len v).capts = s.capts := rfl
@[simp] theorem State.setF_wake (s : State) (k lo len v : Nat) : (s.setF k lo len v).wake = s.wake := rfl
@[simp] theorem State.setF_patch (s : State) (k lo len v : Nat) : (s.setF k lo len v).patch = s.patch := rfl
@[simp] theorem State.setF_incs (s : State) (k lo len v : Nat) : (s.setF k lo len v).incs = s.incs := rfl
@[simp] theorem State.setF_fins (s : State) (k lo len v : Nat) : (s.setF k lo len v).fins = s.fins := rfl
@[simp] theorem State.setF_ports (s : State) (k lo len v : Nat) : (s.setF k lo len v).ports = s.ports := rfl
@[simp] theorem State.setF_nodes (s : State) (k lo len v : Nat) : (s.setF k lo len v).nodes = s.nodes := rfl
@[simp] theorem State.setF_outs (s : State) (k lo len v : Nat) : (s.setF k lo len v).outs = s.outs := rfl
@[simp] theorem State.setF_pub (s : State) (k lo len v : Nat) : (s.setF k lo len v).pub = s.pub := rfl
@[simp] theorem State.setF_anvs (s : State) (k lo len v : Nat) : (s.setF k lo len v).anvs = s.anvs := rfl
@[simp] theorem State.setF_varrAt (s : State) (k lo len v : Nat) : (s.setF k lo len v).varrAt = s.varrAt := rfl
@[simp] theorem State.setF_portTurn (s : State) (k lo len v : Nat) : (s.setF k lo len v).portTurn = s.portTurn := rfl
@[simp] theorem State.setF_tongs (s : State) (k lo len v : Nat) : (s.setF k lo len v).tongs = s.tongs := rfl
@[simp] theorem State.setF_auxs (s : State) (k lo len v : Nat) : (s.setF k lo len v).auxs = s.auxs := rfl
@[simp] theorem State.setF_twcs (s : State) (k lo len v : Nat) : (s.setF k lo len v).twcs = s.twcs := rfl
@[simp] theorem State.setF_wire (s : State) (k lo len v : Nat) : (s.setF k lo len v).wire = s.wire := rfl
@[simp] theorem State.setF_sec (s : State) (k lo len v : Nat) : (s.setF k lo len v).sec = s.sec := rfl
@[simp] theorem State.setF_img (s : State) (k lo len v : Nat) : (s.setF k lo len v).img = s.img := rfl
@[simp] theorem State.setF_pair (s : State) (k lo len v : Nat) : (s.setF k lo len v).pair = s.pair := rfl
@[simp] theorem State.setF_tst (s : State) (k lo len v : Nat) : (s.setF k lo len v).tst = s.tst := rfl
@[simp] theorem State.setF_boot (s : State) (k lo len v : Nat) : (s.setF k lo len v).boot = s.boot := rfl

/-! ### setB -/

@[simp] theorem State.setB_pending (s : State) (k i : Nat) (b : Bool) : (s.setB k i b).pending = s.pending := rfl
@[simp] theorem State.setB_tb (s : State) (k i : Nat) (b : Bool) : (s.setB k i b).tb = s.tb := rfl
@[simp] theorem State.setB_boundary (s : State) (k i : Nat) (b : Bool) : (s.setB k i b).boundary = s.boundary := rfl
@[simp] theorem State.setB_free (s : State) (k i : Nat) (b : Bool) : (s.setB k i b).free = s.free := rfl
@[simp] theorem State.setB_fabric (s : State) (k i : Nat) (b : Bool) : (s.setB k i b).fabric = s.fabric := rfl
@[simp] theorem State.setB_power (s : State) (k i : Nat) (b : Bool) : (s.setB k i b).power = s.power := rfl
@[simp] theorem State.setB_weld (s : State) (k i : Nat) (b : Bool) : (s.setB k i b).weld = s.weld := rfl
@[simp] theorem State.setB_sched (s : State) (k i : Nat) (b : Bool) : (s.setB k i b).sched = s.sched := rfl
@[simp] theorem State.setB_schedOrder (s : State) (k i : Nat) (b : Bool) : (s.setB k i b).schedOrder = s.schedOrder := rfl
@[simp] theorem State.setB_schedTick (s : State) (k i : Nat) (b : Bool) : (s.setB k i b).schedTick = s.schedTick := rfl
@[simp] theorem State.setB_schedCnt (s : State) (k i : Nat) (b : Bool) : (s.setB k i b).schedCnt = s.schedCnt := rfl
@[simp] theorem State.setB_pdmRate (s : State) (k i : Nat) (b : Bool) : (s.setB k i b).pdmRate = s.pdmRate := rfl
@[simp] theorem State.setB_fault (s : State) (k i : Nat) (b : Bool) : (s.setB k i b).fault = s.fault := rfl
@[simp] theorem State.setB_stock (s : State) (k i : Nat) (b : Bool) : (s.setB k i b).stock = s.stock := rfl
@[simp] theorem State.setB_chans (s : State) (k i : Nat) (b : Bool) : (s.setB k i b).chans = s.chans := rfl
@[simp] theorem State.setB_dieA (s : State) (k i : Nat) (b : Bool) : (s.setB k i b).dieA = s.dieA := rfl
@[simp] theorem State.setB_dieB (s : State) (k i : Nat) (b : Bool) : (s.setB k i b).dieB = s.dieB := rfl
@[simp] theorem State.setB_trk (s : State) (k i : Nat) (b : Bool) : (s.setB k i b).trk = s.trk := rfl
@[simp] theorem State.setB_ring (s : State) (k i : Nat) (b : Bool) : (s.setB k i b).ring = s.ring := rfl
@[simp] theorem State.setB_hpo (s : State) (k i : Nat) (b : Bool) : (s.setB k i b).hpo = s.hpo := rfl
@[simp] theorem State.setB_jack (s : State) (k i : Nat) (b : Bool) : (s.setB k i b).jack = s.jack := rfl
@[simp] theorem State.setB_sides (s : State) (k i : Nat) (b : Bool) : (s.setB k i b).sides = s.sides := rfl
@[simp] theorem State.setB_asrc (s : State) (k i : Nat) (b : Bool) : (s.setB k i b).asrc = s.asrc := rfl
@[simp] theorem State.setB_capts (s : State) (k i : Nat) (b : Bool) : (s.setB k i b).capts = s.capts := rfl
@[simp] theorem State.setB_wake (s : State) (k i : Nat) (b : Bool) : (s.setB k i b).wake = s.wake := rfl
@[simp] theorem State.setB_patch (s : State) (k i : Nat) (b : Bool) : (s.setB k i b).patch = s.patch := rfl
@[simp] theorem State.setB_incs (s : State) (k i : Nat) (b : Bool) : (s.setB k i b).incs = s.incs := rfl
@[simp] theorem State.setB_fins (s : State) (k i : Nat) (b : Bool) : (s.setB k i b).fins = s.fins := rfl
@[simp] theorem State.setB_ports (s : State) (k i : Nat) (b : Bool) : (s.setB k i b).ports = s.ports := rfl
@[simp] theorem State.setB_nodes (s : State) (k i : Nat) (b : Bool) : (s.setB k i b).nodes = s.nodes := rfl
@[simp] theorem State.setB_outs (s : State) (k i : Nat) (b : Bool) : (s.setB k i b).outs = s.outs := rfl
@[simp] theorem State.setB_pub (s : State) (k i : Nat) (b : Bool) : (s.setB k i b).pub = s.pub := rfl
@[simp] theorem State.setB_anvs (s : State) (k i : Nat) (b : Bool) : (s.setB k i b).anvs = s.anvs := rfl
@[simp] theorem State.setB_varrAt (s : State) (k i : Nat) (b : Bool) : (s.setB k i b).varrAt = s.varrAt := rfl
@[simp] theorem State.setB_portTurn (s : State) (k i : Nat) (b : Bool) : (s.setB k i b).portTurn = s.portTurn := rfl
@[simp] theorem State.setB_tongs (s : State) (k i : Nat) (b : Bool) : (s.setB k i b).tongs = s.tongs := rfl
@[simp] theorem State.setB_auxs (s : State) (k i : Nat) (b : Bool) : (s.setB k i b).auxs = s.auxs := rfl
@[simp] theorem State.setB_twcs (s : State) (k i : Nat) (b : Bool) : (s.setB k i b).twcs = s.twcs := rfl
@[simp] theorem State.setB_wire (s : State) (k i : Nat) (b : Bool) : (s.setB k i b).wire = s.wire := rfl
@[simp] theorem State.setB_sec (s : State) (k i : Nat) (b : Bool) : (s.setB k i b).sec = s.sec := rfl
@[simp] theorem State.setB_img (s : State) (k i : Nat) (b : Bool) : (s.setB k i b).img = s.img := rfl
@[simp] theorem State.setB_pair (s : State) (k i : Nat) (b : Bool) : (s.setB k i b).pair = s.pair := rfl
@[simp] theorem State.setB_tst (s : State) (k i : Nat) (b : Bool) : (s.setB k i b).tst = s.tst := rfl
@[simp] theorem State.setB_boot (s : State) (k i : Nat) (b : Bool) : (s.setB k i b).boot = s.boot := rfl

/-! ### addF -/

@[simp] theorem State.addF_pending (s : State) (k lo len n : Nat) : (s.addF k lo len n).pending = s.pending := rfl
@[simp] theorem State.addF_tb (s : State) (k lo len n : Nat) : (s.addF k lo len n).tb = s.tb := rfl
@[simp] theorem State.addF_boundary (s : State) (k lo len n : Nat) : (s.addF k lo len n).boundary = s.boundary := rfl
@[simp] theorem State.addF_free (s : State) (k lo len n : Nat) : (s.addF k lo len n).free = s.free := rfl
@[simp] theorem State.addF_fabric (s : State) (k lo len n : Nat) : (s.addF k lo len n).fabric = s.fabric := rfl
@[simp] theorem State.addF_power (s : State) (k lo len n : Nat) : (s.addF k lo len n).power = s.power := rfl
@[simp] theorem State.addF_weld (s : State) (k lo len n : Nat) : (s.addF k lo len n).weld = s.weld := rfl
@[simp] theorem State.addF_sched (s : State) (k lo len n : Nat) : (s.addF k lo len n).sched = s.sched := rfl
@[simp] theorem State.addF_schedOrder (s : State) (k lo len n : Nat) : (s.addF k lo len n).schedOrder = s.schedOrder := rfl
@[simp] theorem State.addF_schedTick (s : State) (k lo len n : Nat) : (s.addF k lo len n).schedTick = s.schedTick := rfl
@[simp] theorem State.addF_schedCnt (s : State) (k lo len n : Nat) : (s.addF k lo len n).schedCnt = s.schedCnt := rfl
@[simp] theorem State.addF_pdmRate (s : State) (k lo len n : Nat) : (s.addF k lo len n).pdmRate = s.pdmRate := rfl
@[simp] theorem State.addF_fault (s : State) (k lo len n : Nat) : (s.addF k lo len n).fault = s.fault := rfl
@[simp] theorem State.addF_stock (s : State) (k lo len n : Nat) : (s.addF k lo len n).stock = s.stock := rfl
@[simp] theorem State.addF_chans (s : State) (k lo len n : Nat) : (s.addF k lo len n).chans = s.chans := rfl
@[simp] theorem State.addF_dieA (s : State) (k lo len n : Nat) : (s.addF k lo len n).dieA = s.dieA := rfl
@[simp] theorem State.addF_dieB (s : State) (k lo len n : Nat) : (s.addF k lo len n).dieB = s.dieB := rfl
@[simp] theorem State.addF_trk (s : State) (k lo len n : Nat) : (s.addF k lo len n).trk = s.trk := rfl
@[simp] theorem State.addF_ring (s : State) (k lo len n : Nat) : (s.addF k lo len n).ring = s.ring := rfl
@[simp] theorem State.addF_hpo (s : State) (k lo len n : Nat) : (s.addF k lo len n).hpo = s.hpo := rfl
@[simp] theorem State.addF_jack (s : State) (k lo len n : Nat) : (s.addF k lo len n).jack = s.jack := rfl
@[simp] theorem State.addF_sides (s : State) (k lo len n : Nat) : (s.addF k lo len n).sides = s.sides := rfl
@[simp] theorem State.addF_asrc (s : State) (k lo len n : Nat) : (s.addF k lo len n).asrc = s.asrc := rfl
@[simp] theorem State.addF_capts (s : State) (k lo len n : Nat) : (s.addF k lo len n).capts = s.capts := rfl
@[simp] theorem State.addF_wake (s : State) (k lo len n : Nat) : (s.addF k lo len n).wake = s.wake := rfl
@[simp] theorem State.addF_patch (s : State) (k lo len n : Nat) : (s.addF k lo len n).patch = s.patch := rfl
@[simp] theorem State.addF_incs (s : State) (k lo len n : Nat) : (s.addF k lo len n).incs = s.incs := rfl
@[simp] theorem State.addF_fins (s : State) (k lo len n : Nat) : (s.addF k lo len n).fins = s.fins := rfl
@[simp] theorem State.addF_ports (s : State) (k lo len n : Nat) : (s.addF k lo len n).ports = s.ports := rfl
@[simp] theorem State.addF_nodes (s : State) (k lo len n : Nat) : (s.addF k lo len n).nodes = s.nodes := rfl
@[simp] theorem State.addF_outs (s : State) (k lo len n : Nat) : (s.addF k lo len n).outs = s.outs := rfl
@[simp] theorem State.addF_pub (s : State) (k lo len n : Nat) : (s.addF k lo len n).pub = s.pub := rfl
@[simp] theorem State.addF_anvs (s : State) (k lo len n : Nat) : (s.addF k lo len n).anvs = s.anvs := rfl
@[simp] theorem State.addF_varrAt (s : State) (k lo len n : Nat) : (s.addF k lo len n).varrAt = s.varrAt := rfl
@[simp] theorem State.addF_portTurn (s : State) (k lo len n : Nat) : (s.addF k lo len n).portTurn = s.portTurn := rfl
@[simp] theorem State.addF_tongs (s : State) (k lo len n : Nat) : (s.addF k lo len n).tongs = s.tongs := rfl
@[simp] theorem State.addF_auxs (s : State) (k lo len n : Nat) : (s.addF k lo len n).auxs = s.auxs := rfl
@[simp] theorem State.addF_twcs (s : State) (k lo len n : Nat) : (s.addF k lo len n).twcs = s.twcs := rfl
@[simp] theorem State.addF_wire (s : State) (k lo len n : Nat) : (s.addF k lo len n).wire = s.wire := rfl
@[simp] theorem State.addF_sec (s : State) (k lo len n : Nat) : (s.addF k lo len n).sec = s.sec := rfl
@[simp] theorem State.addF_img (s : State) (k lo len n : Nat) : (s.addF k lo len n).img = s.img := rfl
@[simp] theorem State.addF_pair (s : State) (k lo len n : Nat) : (s.addF k lo len n).pair = s.pair := rfl
@[simp] theorem State.addF_tst (s : State) (k lo len n : Nat) : (s.addF k lo len n).tst = s.tst := rfl
@[simp] theorem State.addF_boot (s : State) (k lo len n : Nat) : (s.addF k lo len n).boot = s.boot := rfl

/-! ### incF -/

@[simp] theorem State.incF_pending (s : State) (k lo len : Nat) : (s.incF k lo len).pending = s.pending := rfl
@[simp] theorem State.incF_tb (s : State) (k lo len : Nat) : (s.incF k lo len).tb = s.tb := rfl
@[simp] theorem State.incF_boundary (s : State) (k lo len : Nat) : (s.incF k lo len).boundary = s.boundary := rfl
@[simp] theorem State.incF_free (s : State) (k lo len : Nat) : (s.incF k lo len).free = s.free := rfl
@[simp] theorem State.incF_fabric (s : State) (k lo len : Nat) : (s.incF k lo len).fabric = s.fabric := rfl
@[simp] theorem State.incF_power (s : State) (k lo len : Nat) : (s.incF k lo len).power = s.power := rfl
@[simp] theorem State.incF_weld (s : State) (k lo len : Nat) : (s.incF k lo len).weld = s.weld := rfl
@[simp] theorem State.incF_sched (s : State) (k lo len : Nat) : (s.incF k lo len).sched = s.sched := rfl
@[simp] theorem State.incF_schedOrder (s : State) (k lo len : Nat) : (s.incF k lo len).schedOrder = s.schedOrder := rfl
@[simp] theorem State.incF_schedTick (s : State) (k lo len : Nat) : (s.incF k lo len).schedTick = s.schedTick := rfl
@[simp] theorem State.incF_schedCnt (s : State) (k lo len : Nat) : (s.incF k lo len).schedCnt = s.schedCnt := rfl
@[simp] theorem State.incF_pdmRate (s : State) (k lo len : Nat) : (s.incF k lo len).pdmRate = s.pdmRate := rfl
@[simp] theorem State.incF_fault (s : State) (k lo len : Nat) : (s.incF k lo len).fault = s.fault := rfl
@[simp] theorem State.incF_stock (s : State) (k lo len : Nat) : (s.incF k lo len).stock = s.stock := rfl
@[simp] theorem State.incF_chans (s : State) (k lo len : Nat) : (s.incF k lo len).chans = s.chans := rfl
@[simp] theorem State.incF_dieA (s : State) (k lo len : Nat) : (s.incF k lo len).dieA = s.dieA := rfl
@[simp] theorem State.incF_dieB (s : State) (k lo len : Nat) : (s.incF k lo len).dieB = s.dieB := rfl
@[simp] theorem State.incF_trk (s : State) (k lo len : Nat) : (s.incF k lo len).trk = s.trk := rfl
@[simp] theorem State.incF_ring (s : State) (k lo len : Nat) : (s.incF k lo len).ring = s.ring := rfl
@[simp] theorem State.incF_hpo (s : State) (k lo len : Nat) : (s.incF k lo len).hpo = s.hpo := rfl
@[simp] theorem State.incF_jack (s : State) (k lo len : Nat) : (s.incF k lo len).jack = s.jack := rfl
@[simp] theorem State.incF_sides (s : State) (k lo len : Nat) : (s.incF k lo len).sides = s.sides := rfl
@[simp] theorem State.incF_asrc (s : State) (k lo len : Nat) : (s.incF k lo len).asrc = s.asrc := rfl
@[simp] theorem State.incF_capts (s : State) (k lo len : Nat) : (s.incF k lo len).capts = s.capts := rfl
@[simp] theorem State.incF_wake (s : State) (k lo len : Nat) : (s.incF k lo len).wake = s.wake := rfl
@[simp] theorem State.incF_patch (s : State) (k lo len : Nat) : (s.incF k lo len).patch = s.patch := rfl
@[simp] theorem State.incF_incs (s : State) (k lo len : Nat) : (s.incF k lo len).incs = s.incs := rfl
@[simp] theorem State.incF_fins (s : State) (k lo len : Nat) : (s.incF k lo len).fins = s.fins := rfl
@[simp] theorem State.incF_ports (s : State) (k lo len : Nat) : (s.incF k lo len).ports = s.ports := rfl
@[simp] theorem State.incF_nodes (s : State) (k lo len : Nat) : (s.incF k lo len).nodes = s.nodes := rfl
@[simp] theorem State.incF_outs (s : State) (k lo len : Nat) : (s.incF k lo len).outs = s.outs := rfl
@[simp] theorem State.incF_pub (s : State) (k lo len : Nat) : (s.incF k lo len).pub = s.pub := rfl
@[simp] theorem State.incF_anvs (s : State) (k lo len : Nat) : (s.incF k lo len).anvs = s.anvs := rfl
@[simp] theorem State.incF_varrAt (s : State) (k lo len : Nat) : (s.incF k lo len).varrAt = s.varrAt := rfl
@[simp] theorem State.incF_portTurn (s : State) (k lo len : Nat) : (s.incF k lo len).portTurn = s.portTurn := rfl
@[simp] theorem State.incF_tongs (s : State) (k lo len : Nat) : (s.incF k lo len).tongs = s.tongs := rfl
@[simp] theorem State.incF_auxs (s : State) (k lo len : Nat) : (s.incF k lo len).auxs = s.auxs := rfl
@[simp] theorem State.incF_twcs (s : State) (k lo len : Nat) : (s.incF k lo len).twcs = s.twcs := rfl
@[simp] theorem State.incF_wire (s : State) (k lo len : Nat) : (s.incF k lo len).wire = s.wire := rfl
@[simp] theorem State.incF_sec (s : State) (k lo len : Nat) : (s.incF k lo len).sec = s.sec := rfl
@[simp] theorem State.incF_img (s : State) (k lo len : Nat) : (s.incF k lo len).img = s.img := rfl
@[simp] theorem State.incF_pair (s : State) (k lo len : Nat) : (s.incF k lo len).pair = s.pair := rfl
@[simp] theorem State.incF_tst (s : State) (k lo len : Nat) : (s.incF k lo len).tst = s.tst := rfl
@[simp] theorem State.incF_boot (s : State) (k lo len : Nat) : (s.incF k lo len).boot = s.boot := rfl

/-! ### event -/

@[simp] theorem State.event_pending (s : State) (p n : Nat) : (s.event p n).pending = s.pending := rfl
@[simp] theorem State.event_tb (s : State) (p n : Nat) : (s.event p n).tb = s.tb := rfl
@[simp] theorem State.event_boundary (s : State) (p n : Nat) : (s.event p n).boundary = s.boundary := rfl
@[simp] theorem State.event_free (s : State) (p n : Nat) : (s.event p n).free = s.free := rfl
@[simp] theorem State.event_fabric (s : State) (p n : Nat) : (s.event p n).fabric = s.fabric := rfl
@[simp] theorem State.event_power (s : State) (p n : Nat) : (s.event p n).power = s.power := rfl
@[simp] theorem State.event_weld (s : State) (p n : Nat) : (s.event p n).weld = s.weld := rfl
@[simp] theorem State.event_sched (s : State) (p n : Nat) : (s.event p n).sched = s.sched := rfl
@[simp] theorem State.event_schedOrder (s : State) (p n : Nat) : (s.event p n).schedOrder = s.schedOrder := rfl
@[simp] theorem State.event_schedTick (s : State) (p n : Nat) : (s.event p n).schedTick = s.schedTick := rfl
@[simp] theorem State.event_schedCnt (s : State) (p n : Nat) : (s.event p n).schedCnt = s.schedCnt := rfl
@[simp] theorem State.event_pdmRate (s : State) (p n : Nat) : (s.event p n).pdmRate = s.pdmRate := rfl
@[simp] theorem State.event_fault (s : State) (p n : Nat) : (s.event p n).fault = s.fault := rfl
@[simp] theorem State.event_stock (s : State) (p n : Nat) : (s.event p n).stock = s.stock := rfl
@[simp] theorem State.event_chans (s : State) (p n : Nat) : (s.event p n).chans = s.chans := rfl
@[simp] theorem State.event_dieA (s : State) (p n : Nat) : (s.event p n).dieA = s.dieA := rfl
@[simp] theorem State.event_dieB (s : State) (p n : Nat) : (s.event p n).dieB = s.dieB := rfl
@[simp] theorem State.event_trk (s : State) (p n : Nat) : (s.event p n).trk = s.trk := rfl
@[simp] theorem State.event_ring (s : State) (p n : Nat) : (s.event p n).ring = s.ring := rfl
@[simp] theorem State.event_hpo (s : State) (p n : Nat) : (s.event p n).hpo = s.hpo := rfl
@[simp] theorem State.event_jack (s : State) (p n : Nat) : (s.event p n).jack = s.jack := rfl
@[simp] theorem State.event_sides (s : State) (p n : Nat) : (s.event p n).sides = s.sides := rfl
@[simp] theorem State.event_asrc (s : State) (p n : Nat) : (s.event p n).asrc = s.asrc := rfl
@[simp] theorem State.event_capts (s : State) (p n : Nat) : (s.event p n).capts = s.capts := rfl
@[simp] theorem State.event_wake (s : State) (p n : Nat) : (s.event p n).wake = s.wake := rfl
@[simp] theorem State.event_patch (s : State) (p n : Nat) : (s.event p n).patch = s.patch := rfl
@[simp] theorem State.event_incs (s : State) (p n : Nat) : (s.event p n).incs = s.incs := rfl
@[simp] theorem State.event_fins (s : State) (p n : Nat) : (s.event p n).fins = s.fins := rfl
@[simp] theorem State.event_ports (s : State) (p n : Nat) : (s.event p n).ports = s.ports := rfl
@[simp] theorem State.event_nodes (s : State) (p n : Nat) : (s.event p n).nodes = s.nodes := rfl
@[simp] theorem State.event_outs (s : State) (p n : Nat) : (s.event p n).outs = s.outs := rfl
@[simp] theorem State.event_pub (s : State) (p n : Nat) : (s.event p n).pub = s.pub := rfl
@[simp] theorem State.event_anvs (s : State) (p n : Nat) : (s.event p n).anvs = s.anvs := rfl
@[simp] theorem State.event_varrAt (s : State) (p n : Nat) : (s.event p n).varrAt = s.varrAt := rfl
@[simp] theorem State.event_portTurn (s : State) (p n : Nat) : (s.event p n).portTurn = s.portTurn := rfl
@[simp] theorem State.event_tongs (s : State) (p n : Nat) : (s.event p n).tongs = s.tongs := rfl
@[simp] theorem State.event_auxs (s : State) (p n : Nat) : (s.event p n).auxs = s.auxs := rfl
@[simp] theorem State.event_twcs (s : State) (p n : Nat) : (s.event p n).twcs = s.twcs := rfl
@[simp] theorem State.event_wire (s : State) (p n : Nat) : (s.event p n).wire = s.wire := rfl
@[simp] theorem State.event_sec (s : State) (p n : Nat) : (s.event p n).sec = s.sec := rfl
@[simp] theorem State.event_img (s : State) (p n : Nat) : (s.event p n).img = s.img := rfl
@[simp] theorem State.event_pair (s : State) (p n : Nat) : (s.event p n).pair = s.pair := rfl
@[simp] theorem State.event_tst (s : State) (p n : Nat) : (s.event p n).tst = s.tst := rfl
@[simp] theorem State.event_boot (s : State) (p n : Nat) : (s.event p n).boot = s.boot := rfl

/-! ### errOn -/

@[simp] theorem State.errOn_pending (s : State) (p a off code : Nat) : (s.errOn p a off code).pending = s.pending := State.setW_pending s _ _
@[simp] theorem State.errOn_tb (s : State) (p a off code : Nat) : (s.errOn p a off code).tb = s.tb := State.setW_tb s _ _
@[simp] theorem State.errOn_boundary (s : State) (p a off code : Nat) : (s.errOn p a off code).boundary = s.boundary := State.setW_boundary s _ _
@[simp] theorem State.errOn_free (s : State) (p a off code : Nat) : (s.errOn p a off code).free = s.free := State.setW_free s _ _
@[simp] theorem State.errOn_fabric (s : State) (p a off code : Nat) : (s.errOn p a off code).fabric = s.fabric := State.setW_fabric s _ _
@[simp] theorem State.errOn_power (s : State) (p a off code : Nat) : (s.errOn p a off code).power = s.power := State.setW_power s _ _
@[simp] theorem State.errOn_weld (s : State) (p a off code : Nat) : (s.errOn p a off code).weld = s.weld := State.setW_weld s _ _
@[simp] theorem State.errOn_sched (s : State) (p a off code : Nat) : (s.errOn p a off code).sched = s.sched := State.setW_sched s _ _
@[simp] theorem State.errOn_schedOrder (s : State) (p a off code : Nat) : (s.errOn p a off code).schedOrder = s.schedOrder := State.setW_schedOrder s _ _
@[simp] theorem State.errOn_schedTick (s : State) (p a off code : Nat) : (s.errOn p a off code).schedTick = s.schedTick := State.setW_schedTick s _ _
@[simp] theorem State.errOn_schedCnt (s : State) (p a off code : Nat) : (s.errOn p a off code).schedCnt = s.schedCnt := State.setW_schedCnt s _ _
@[simp] theorem State.errOn_pdmRate (s : State) (p a off code : Nat) : (s.errOn p a off code).pdmRate = s.pdmRate := State.setW_pdmRate s _ _
@[simp] theorem State.errOn_fault (s : State) (p a off code : Nat) : (s.errOn p a off code).fault = s.fault := State.setW_fault s _ _
@[simp] theorem State.errOn_stock (s : State) (p a off code : Nat) : (s.errOn p a off code).stock = s.stock := State.setW_stock s _ _
@[simp] theorem State.errOn_chans (s : State) (p a off code : Nat) : (s.errOn p a off code).chans = s.chans := State.setW_chans s _ _
@[simp] theorem State.errOn_dieA (s : State) (p a off code : Nat) : (s.errOn p a off code).dieA = s.dieA := State.setW_dieA s _ _
@[simp] theorem State.errOn_dieB (s : State) (p a off code : Nat) : (s.errOn p a off code).dieB = s.dieB := State.setW_dieB s _ _
@[simp] theorem State.errOn_trk (s : State) (p a off code : Nat) : (s.errOn p a off code).trk = s.trk := State.setW_trk s _ _
@[simp] theorem State.errOn_ring (s : State) (p a off code : Nat) : (s.errOn p a off code).ring = s.ring := State.setW_ring s _ _
@[simp] theorem State.errOn_hpo (s : State) (p a off code : Nat) : (s.errOn p a off code).hpo = s.hpo := State.setW_hpo s _ _
@[simp] theorem State.errOn_jack (s : State) (p a off code : Nat) : (s.errOn p a off code).jack = s.jack := State.setW_jack s _ _
@[simp] theorem State.errOn_sides (s : State) (p a off code : Nat) : (s.errOn p a off code).sides = s.sides := State.setW_sides s _ _
@[simp] theorem State.errOn_asrc (s : State) (p a off code : Nat) : (s.errOn p a off code).asrc = s.asrc := State.setW_asrc s _ _
@[simp] theorem State.errOn_capts (s : State) (p a off code : Nat) : (s.errOn p a off code).capts = s.capts := State.setW_capts s _ _
@[simp] theorem State.errOn_wake (s : State) (p a off code : Nat) : (s.errOn p a off code).wake = s.wake := State.setW_wake s _ _
@[simp] theorem State.errOn_patch (s : State) (p a off code : Nat) : (s.errOn p a off code).patch = s.patch := State.setW_patch s _ _
@[simp] theorem State.errOn_incs (s : State) (p a off code : Nat) : (s.errOn p a off code).incs = s.incs := State.setW_incs s _ _
@[simp] theorem State.errOn_fins (s : State) (p a off code : Nat) : (s.errOn p a off code).fins = s.fins := State.setW_fins s _ _
@[simp] theorem State.errOn_ports (s : State) (p a off code : Nat) : (s.errOn p a off code).ports = s.ports := State.setW_ports s _ _
@[simp] theorem State.errOn_nodes (s : State) (p a off code : Nat) : (s.errOn p a off code).nodes = s.nodes := State.setW_nodes s _ _
@[simp] theorem State.errOn_outs (s : State) (p a off code : Nat) : (s.errOn p a off code).outs = s.outs := State.setW_outs s _ _
@[simp] theorem State.errOn_pub (s : State) (p a off code : Nat) : (s.errOn p a off code).pub = s.pub := State.setW_pub s _ _
@[simp] theorem State.errOn_anvs (s : State) (p a off code : Nat) : (s.errOn p a off code).anvs = s.anvs := State.setW_anvs s _ _
@[simp] theorem State.errOn_varrAt (s : State) (p a off code : Nat) : (s.errOn p a off code).varrAt = s.varrAt := State.setW_varrAt s _ _
@[simp] theorem State.errOn_tongs (s : State) (p a off code : Nat) : (s.errOn p a off code).tongs = s.tongs := State.setW_tongs s _ _
@[simp] theorem State.errOn_auxs (s : State) (p a off code : Nat) : (s.errOn p a off code).auxs = s.auxs := State.setW_auxs s _ _
@[simp] theorem State.errOn_twcs (s : State) (p a off code : Nat) : (s.errOn p a off code).twcs = s.twcs := State.setW_twcs s _ _
@[simp] theorem State.errOn_wire (s : State) (p a off code : Nat) : (s.errOn p a off code).wire = s.wire := State.setW_wire s _ _
@[simp] theorem State.errOn_sec (s : State) (p a off code : Nat) : (s.errOn p a off code).sec = s.sec := State.setW_sec s _ _
@[simp] theorem State.errOn_img (s : State) (p a off code : Nat) : (s.errOn p a off code).img = s.img := State.setW_img s _ _
@[simp] theorem State.errOn_pair (s : State) (p a off code : Nat) : (s.errOn p a off code).pair = s.pair := State.setW_pair s _ _
@[simp] theorem State.errOn_tst (s : State) (p a off code : Nat) : (s.errOn p a off code).tst = s.tst := State.setW_tst s _ _
@[simp] theorem State.errOn_boot (s : State) (p a off code : Nat) : (s.errOn p a off code).boot = s.boot := State.setW_boot s _ _

/-! ### err -/

@[simp] theorem State.err_pending (s : State) (p off code : Nat) : (s.err p off code).pending = s.pending := State.errOn_pending s _ _ _ _
@[simp] theorem State.err_tb (s : State) (p off code : Nat) : (s.err p off code).tb = s.tb := State.errOn_tb s _ _ _ _
@[simp] theorem State.err_boundary (s : State) (p off code : Nat) : (s.err p off code).boundary = s.boundary := State.errOn_boundary s _ _ _ _
@[simp] theorem State.err_free (s : State) (p off code : Nat) : (s.err p off code).free = s.free := State.errOn_free s _ _ _ _
@[simp] theorem State.err_fabric (s : State) (p off code : Nat) : (s.err p off code).fabric = s.fabric := State.errOn_fabric s _ _ _ _
@[simp] theorem State.err_power (s : State) (p off code : Nat) : (s.err p off code).power = s.power := State.errOn_power s _ _ _ _
@[simp] theorem State.err_weld (s : State) (p off code : Nat) : (s.err p off code).weld = s.weld := State.errOn_weld s _ _ _ _
@[simp] theorem State.err_sched (s : State) (p off code : Nat) : (s.err p off code).sched = s.sched := State.errOn_sched s _ _ _ _
@[simp] theorem State.err_schedOrder (s : State) (p off code : Nat) : (s.err p off code).schedOrder = s.schedOrder := State.errOn_schedOrder s _ _ _ _
@[simp] theorem State.err_schedTick (s : State) (p off code : Nat) : (s.err p off code).schedTick = s.schedTick := State.errOn_schedTick s _ _ _ _
@[simp] theorem State.err_schedCnt (s : State) (p off code : Nat) : (s.err p off code).schedCnt = s.schedCnt := State.errOn_schedCnt s _ _ _ _
@[simp] theorem State.err_pdmRate (s : State) (p off code : Nat) : (s.err p off code).pdmRate = s.pdmRate := State.errOn_pdmRate s _ _ _ _
@[simp] theorem State.err_fault (s : State) (p off code : Nat) : (s.err p off code).fault = s.fault := State.errOn_fault s _ _ _ _
@[simp] theorem State.err_stock (s : State) (p off code : Nat) : (s.err p off code).stock = s.stock := State.errOn_stock s _ _ _ _
@[simp] theorem State.err_chans (s : State) (p off code : Nat) : (s.err p off code).chans = s.chans := State.errOn_chans s _ _ _ _
@[simp] theorem State.err_dieA (s : State) (p off code : Nat) : (s.err p off code).dieA = s.dieA := State.errOn_dieA s _ _ _ _
@[simp] theorem State.err_dieB (s : State) (p off code : Nat) : (s.err p off code).dieB = s.dieB := State.errOn_dieB s _ _ _ _
@[simp] theorem State.err_trk (s : State) (p off code : Nat) : (s.err p off code).trk = s.trk := State.errOn_trk s _ _ _ _
@[simp] theorem State.err_ring (s : State) (p off code : Nat) : (s.err p off code).ring = s.ring := State.errOn_ring s _ _ _ _
@[simp] theorem State.err_hpo (s : State) (p off code : Nat) : (s.err p off code).hpo = s.hpo := State.errOn_hpo s _ _ _ _
@[simp] theorem State.err_jack (s : State) (p off code : Nat) : (s.err p off code).jack = s.jack := State.errOn_jack s _ _ _ _
@[simp] theorem State.err_sides (s : State) (p off code : Nat) : (s.err p off code).sides = s.sides := State.errOn_sides s _ _ _ _
@[simp] theorem State.err_asrc (s : State) (p off code : Nat) : (s.err p off code).asrc = s.asrc := State.errOn_asrc s _ _ _ _
@[simp] theorem State.err_capts (s : State) (p off code : Nat) : (s.err p off code).capts = s.capts := State.errOn_capts s _ _ _ _
@[simp] theorem State.err_wake (s : State) (p off code : Nat) : (s.err p off code).wake = s.wake := State.errOn_wake s _ _ _ _
@[simp] theorem State.err_patch (s : State) (p off code : Nat) : (s.err p off code).patch = s.patch := State.errOn_patch s _ _ _ _
@[simp] theorem State.err_incs (s : State) (p off code : Nat) : (s.err p off code).incs = s.incs := State.errOn_incs s _ _ _ _
@[simp] theorem State.err_fins (s : State) (p off code : Nat) : (s.err p off code).fins = s.fins := State.errOn_fins s _ _ _ _
@[simp] theorem State.err_ports (s : State) (p off code : Nat) : (s.err p off code).ports = s.ports := State.errOn_ports s _ _ _ _
@[simp] theorem State.err_nodes (s : State) (p off code : Nat) : (s.err p off code).nodes = s.nodes := State.errOn_nodes s _ _ _ _
@[simp] theorem State.err_outs (s : State) (p off code : Nat) : (s.err p off code).outs = s.outs := State.errOn_outs s _ _ _ _
@[simp] theorem State.err_pub (s : State) (p off code : Nat) : (s.err p off code).pub = s.pub := State.errOn_pub s _ _ _ _
@[simp] theorem State.err_anvs (s : State) (p off code : Nat) : (s.err p off code).anvs = s.anvs := State.errOn_anvs s _ _ _ _
@[simp] theorem State.err_varrAt (s : State) (p off code : Nat) : (s.err p off code).varrAt = s.varrAt := State.errOn_varrAt s _ _ _ _
@[simp] theorem State.err_tongs (s : State) (p off code : Nat) : (s.err p off code).tongs = s.tongs := State.errOn_tongs s _ _ _ _
@[simp] theorem State.err_auxs (s : State) (p off code : Nat) : (s.err p off code).auxs = s.auxs := State.errOn_auxs s _ _ _ _
@[simp] theorem State.err_twcs (s : State) (p off code : Nat) : (s.err p off code).twcs = s.twcs := State.errOn_twcs s _ _ _ _
@[simp] theorem State.err_wire (s : State) (p off code : Nat) : (s.err p off code).wire = s.wire := State.errOn_wire s _ _ _ _
@[simp] theorem State.err_sec (s : State) (p off code : Nat) : (s.err p off code).sec = s.sec := State.errOn_sec s _ _ _ _
@[simp] theorem State.err_img (s : State) (p off code : Nat) : (s.err p off code).img = s.img := State.errOn_img s _ _ _ _
@[simp] theorem State.err_pair (s : State) (p off code : Nat) : (s.err p off code).pair = s.pair := State.errOn_pair s _ _ _ _
@[simp] theorem State.err_tst (s : State) (p off code : Nat) : (s.err p off code).tst = s.tst := State.errOn_tst s _ _ _ _
@[simp] theorem State.err_boot (s : State) (p off code : Nat) : (s.err p off code).boot = s.boot := State.errOn_boot s _ _ _ _

/-! ### setAnv -/

@[simp] theorem State.setAnv_pending (s : State) (n : Nat) (a : Anv) : (s.setAnv n a).pending = s.pending := rfl
@[simp] theorem State.setAnv_words (s : State) (n : Nat) (a : Anv) : (s.setAnv n a).words = s.words := rfl
@[simp] theorem State.setAnv_tb (s : State) (n : Nat) (a : Anv) : (s.setAnv n a).tb = s.tb := rfl
@[simp] theorem State.setAnv_boundary (s : State) (n : Nat) (a : Anv) : (s.setAnv n a).boundary = s.boundary := rfl
@[simp] theorem State.setAnv_free (s : State) (n : Nat) (a : Anv) : (s.setAnv n a).free = s.free := rfl
@[simp] theorem State.setAnv_fabric (s : State) (n : Nat) (a : Anv) : (s.setAnv n a).fabric = s.fabric := rfl
@[simp] theorem State.setAnv_power (s : State) (n : Nat) (a : Anv) : (s.setAnv n a).power = s.power := rfl
@[simp] theorem State.setAnv_weld (s : State) (n : Nat) (a : Anv) : (s.setAnv n a).weld = s.weld := rfl
@[simp] theorem State.setAnv_sched (s : State) (n : Nat) (a : Anv) : (s.setAnv n a).sched = s.sched := rfl
@[simp] theorem State.setAnv_schedOrder (s : State) (n : Nat) (a : Anv) : (s.setAnv n a).schedOrder = s.schedOrder := rfl
@[simp] theorem State.setAnv_schedTick (s : State) (n : Nat) (a : Anv) : (s.setAnv n a).schedTick = s.schedTick := rfl
@[simp] theorem State.setAnv_schedCnt (s : State) (n : Nat) (a : Anv) : (s.setAnv n a).schedCnt = s.schedCnt := rfl
@[simp] theorem State.setAnv_pdmRate (s : State) (n : Nat) (a : Anv) : (s.setAnv n a).pdmRate = s.pdmRate := rfl
@[simp] theorem State.setAnv_fault (s : State) (n : Nat) (a : Anv) : (s.setAnv n a).fault = s.fault := rfl
@[simp] theorem State.setAnv_stock (s : State) (n : Nat) (a : Anv) : (s.setAnv n a).stock = s.stock := rfl
@[simp] theorem State.setAnv_chans (s : State) (n : Nat) (a : Anv) : (s.setAnv n a).chans = s.chans := rfl
@[simp] theorem State.setAnv_dieA (s : State) (n : Nat) (a : Anv) : (s.setAnv n a).dieA = s.dieA := rfl
@[simp] theorem State.setAnv_dieB (s : State) (n : Nat) (a : Anv) : (s.setAnv n a).dieB = s.dieB := rfl
@[simp] theorem State.setAnv_trk (s : State) (n : Nat) (a : Anv) : (s.setAnv n a).trk = s.trk := rfl
@[simp] theorem State.setAnv_ring (s : State) (n : Nat) (a : Anv) : (s.setAnv n a).ring = s.ring := rfl
@[simp] theorem State.setAnv_hpo (s : State) (n : Nat) (a : Anv) : (s.setAnv n a).hpo = s.hpo := rfl
@[simp] theorem State.setAnv_jack (s : State) (n : Nat) (a : Anv) : (s.setAnv n a).jack = s.jack := rfl
@[simp] theorem State.setAnv_sides (s : State) (n : Nat) (a : Anv) : (s.setAnv n a).sides = s.sides := rfl
@[simp] theorem State.setAnv_asrc (s : State) (n : Nat) (a : Anv) : (s.setAnv n a).asrc = s.asrc := rfl
@[simp] theorem State.setAnv_capts (s : State) (n : Nat) (a : Anv) : (s.setAnv n a).capts = s.capts := rfl
@[simp] theorem State.setAnv_wake (s : State) (n : Nat) (a : Anv) : (s.setAnv n a).wake = s.wake := rfl
@[simp] theorem State.setAnv_patch (s : State) (n : Nat) (a : Anv) : (s.setAnv n a).patch = s.patch := rfl
@[simp] theorem State.setAnv_incs (s : State) (n : Nat) (a : Anv) : (s.setAnv n a).incs = s.incs := rfl
@[simp] theorem State.setAnv_fins (s : State) (n : Nat) (a : Anv) : (s.setAnv n a).fins = s.fins := rfl
@[simp] theorem State.setAnv_ports (s : State) (n : Nat) (a : Anv) : (s.setAnv n a).ports = s.ports := rfl
@[simp] theorem State.setAnv_nodes (s : State) (n : Nat) (a : Anv) : (s.setAnv n a).nodes = s.nodes := rfl
@[simp] theorem State.setAnv_outs (s : State) (n : Nat) (a : Anv) : (s.setAnv n a).outs = s.outs := rfl
@[simp] theorem State.setAnv_pub (s : State) (n : Nat) (a : Anv) : (s.setAnv n a).pub = s.pub := rfl
@[simp] theorem State.setAnv_varrAt (s : State) (n : Nat) (a : Anv) : (s.setAnv n a).varrAt = s.varrAt := rfl
@[simp] theorem State.setAnv_portTurn (s : State) (n : Nat) (a : Anv) : (s.setAnv n a).portTurn = s.portTurn := rfl
@[simp] theorem State.setAnv_tongs (s : State) (n : Nat) (a : Anv) : (s.setAnv n a).tongs = s.tongs := rfl
@[simp] theorem State.setAnv_auxs (s : State) (n : Nat) (a : Anv) : (s.setAnv n a).auxs = s.auxs := rfl
@[simp] theorem State.setAnv_twcs (s : State) (n : Nat) (a : Anv) : (s.setAnv n a).twcs = s.twcs := rfl
@[simp] theorem State.setAnv_wire (s : State) (n : Nat) (a : Anv) : (s.setAnv n a).wire = s.wire := rfl
@[simp] theorem State.setAnv_sec (s : State) (n : Nat) (a : Anv) : (s.setAnv n a).sec = s.sec := rfl
@[simp] theorem State.setAnv_img (s : State) (n : Nat) (a : Anv) : (s.setAnv n a).img = s.img := rfl
@[simp] theorem State.setAnv_pair (s : State) (n : Nat) (a : Anv) : (s.setAnv n a).pair = s.pair := rfl
@[simp] theorem State.setAnv_tst (s : State) (n : Nat) (a : Anv) : (s.setAnv n a).tst = s.tst := rfl
@[simp] theorem State.setAnv_boot (s : State) (n : Nat) (a : Anv) : (s.setAnv n a).boot = s.boot := rfl

/-! ### answer -/

@[simp] theorem State.answer_pending (s : State) (m : Master) (v : Word) : (s.answer m v).pending = s.pending := rfl
@[simp] theorem State.answer_words (s : State) (m : Master) (v : Word) : (s.answer m v).words = s.words := rfl
@[simp] theorem State.answer_tb (s : State) (m : Master) (v : Word) : (s.answer m v).tb = s.tb := rfl
@[simp] theorem State.answer_boundary (s : State) (m : Master) (v : Word) : (s.answer m v).boundary = s.boundary := rfl
@[simp] theorem State.answer_free (s : State) (m : Master) (v : Word) : (s.answer m v).free = s.free := rfl
@[simp] theorem State.answer_power (s : State) (m : Master) (v : Word) : (s.answer m v).power = s.power := rfl
@[simp] theorem State.answer_weld (s : State) (m : Master) (v : Word) : (s.answer m v).weld = s.weld := rfl
@[simp] theorem State.answer_sched (s : State) (m : Master) (v : Word) : (s.answer m v).sched = s.sched := rfl
@[simp] theorem State.answer_schedOrder (s : State) (m : Master) (v : Word) : (s.answer m v).schedOrder = s.schedOrder := rfl
@[simp] theorem State.answer_schedTick (s : State) (m : Master) (v : Word) : (s.answer m v).schedTick = s.schedTick := rfl
@[simp] theorem State.answer_schedCnt (s : State) (m : Master) (v : Word) : (s.answer m v).schedCnt = s.schedCnt := rfl
@[simp] theorem State.answer_pdmRate (s : State) (m : Master) (v : Word) : (s.answer m v).pdmRate = s.pdmRate := rfl
@[simp] theorem State.answer_fault (s : State) (m : Master) (v : Word) : (s.answer m v).fault = s.fault := rfl
@[simp] theorem State.answer_stock (s : State) (m : Master) (v : Word) : (s.answer m v).stock = s.stock := rfl
@[simp] theorem State.answer_chans (s : State) (m : Master) (v : Word) : (s.answer m v).chans = s.chans := rfl
@[simp] theorem State.answer_dieA (s : State) (m : Master) (v : Word) : (s.answer m v).dieA = s.dieA := rfl
@[simp] theorem State.answer_dieB (s : State) (m : Master) (v : Word) : (s.answer m v).dieB = s.dieB := rfl
@[simp] theorem State.answer_trk (s : State) (m : Master) (v : Word) : (s.answer m v).trk = s.trk := rfl
@[simp] theorem State.answer_ring (s : State) (m : Master) (v : Word) : (s.answer m v).ring = s.ring := rfl
@[simp] theorem State.answer_hpo (s : State) (m : Master) (v : Word) : (s.answer m v).hpo = s.hpo := rfl
@[simp] theorem State.answer_jack (s : State) (m : Master) (v : Word) : (s.answer m v).jack = s.jack := rfl
@[simp] theorem State.answer_sides (s : State) (m : Master) (v : Word) : (s.answer m v).sides = s.sides := rfl
@[simp] theorem State.answer_asrc (s : State) (m : Master) (v : Word) : (s.answer m v).asrc = s.asrc := rfl
@[simp] theorem State.answer_capts (s : State) (m : Master) (v : Word) : (s.answer m v).capts = s.capts := rfl
@[simp] theorem State.answer_wake (s : State) (m : Master) (v : Word) : (s.answer m v).wake = s.wake := rfl
@[simp] theorem State.answer_patch (s : State) (m : Master) (v : Word) : (s.answer m v).patch = s.patch := rfl
@[simp] theorem State.answer_incs (s : State) (m : Master) (v : Word) : (s.answer m v).incs = s.incs := rfl
@[simp] theorem State.answer_fins (s : State) (m : Master) (v : Word) : (s.answer m v).fins = s.fins := rfl
@[simp] theorem State.answer_ports (s : State) (m : Master) (v : Word) : (s.answer m v).ports = s.ports := rfl
@[simp] theorem State.answer_nodes (s : State) (m : Master) (v : Word) : (s.answer m v).nodes = s.nodes := rfl
@[simp] theorem State.answer_outs (s : State) (m : Master) (v : Word) : (s.answer m v).outs = s.outs := rfl
@[simp] theorem State.answer_pub (s : State) (m : Master) (v : Word) : (s.answer m v).pub = s.pub := rfl
@[simp] theorem State.answer_anvs (s : State) (m : Master) (v : Word) : (s.answer m v).anvs = s.anvs := rfl
@[simp] theorem State.answer_varrAt (s : State) (m : Master) (v : Word) : (s.answer m v).varrAt = s.varrAt := rfl
@[simp] theorem State.answer_portTurn (s : State) (m : Master) (v : Word) : (s.answer m v).portTurn = s.portTurn := rfl
@[simp] theorem State.answer_tongs (s : State) (m : Master) (v : Word) : (s.answer m v).tongs = s.tongs := rfl
@[simp] theorem State.answer_auxs (s : State) (m : Master) (v : Word) : (s.answer m v).auxs = s.auxs := rfl
@[simp] theorem State.answer_twcs (s : State) (m : Master) (v : Word) : (s.answer m v).twcs = s.twcs := rfl
@[simp] theorem State.answer_wire (s : State) (m : Master) (v : Word) : (s.answer m v).wire = s.wire := rfl
@[simp] theorem State.answer_sec (s : State) (m : Master) (v : Word) : (s.answer m v).sec = s.sec := rfl
@[simp] theorem State.answer_img (s : State) (m : Master) (v : Word) : (s.answer m v).img = s.img := rfl
@[simp] theorem State.answer_pair (s : State) (m : Master) (v : Word) : (s.answer m v).pair = s.pair := rfl
@[simp] theorem State.answer_tst (s : State) (m : Master) (v : Word) : (s.answer m v).tst = s.tst := rfl
@[simp] theorem State.answer_boot (s : State) (m : Master) (v : Word) : (s.answer m v).boot = s.boot := rfl

/-! ### tickFree -/

@[simp] theorem State.tickFree_pending (s : State) : (s.tickFree).pending = s.pending := rfl
@[simp] theorem State.tickFree_words (s : State) : (s.tickFree).words = s.words := rfl
@[simp] theorem State.tickFree_tb (s : State) : (s.tickFree).tb = s.tb := rfl
@[simp] theorem State.tickFree_boundary (s : State) : (s.tickFree).boundary = s.boundary := rfl
@[simp] theorem State.tickFree_fabric (s : State) : (s.tickFree).fabric = s.fabric := rfl
@[simp] theorem State.tickFree_power (s : State) : (s.tickFree).power = s.power := rfl
@[simp] theorem State.tickFree_weld (s : State) : (s.tickFree).weld = s.weld := rfl
@[simp] theorem State.tickFree_sched (s : State) : (s.tickFree).sched = s.sched := rfl
@[simp] theorem State.tickFree_schedOrder (s : State) : (s.tickFree).schedOrder = s.schedOrder := rfl
@[simp] theorem State.tickFree_schedTick (s : State) : (s.tickFree).schedTick = s.schedTick := rfl
@[simp] theorem State.tickFree_schedCnt (s : State) : (s.tickFree).schedCnt = s.schedCnt := rfl
@[simp] theorem State.tickFree_pdmRate (s : State) : (s.tickFree).pdmRate = s.pdmRate := rfl
@[simp] theorem State.tickFree_fault (s : State) : (s.tickFree).fault = s.fault := rfl
@[simp] theorem State.tickFree_stock (s : State) : (s.tickFree).stock = s.stock := rfl
@[simp] theorem State.tickFree_chans (s : State) : (s.tickFree).chans = s.chans := rfl
@[simp] theorem State.tickFree_dieA (s : State) : (s.tickFree).dieA = s.dieA := rfl
@[simp] theorem State.tickFree_dieB (s : State) : (s.tickFree).dieB = s.dieB := rfl
@[simp] theorem State.tickFree_trk (s : State) : (s.tickFree).trk = s.trk := rfl
@[simp] theorem State.tickFree_ring (s : State) : (s.tickFree).ring = s.ring := rfl
@[simp] theorem State.tickFree_hpo (s : State) : (s.tickFree).hpo = s.hpo := rfl
@[simp] theorem State.tickFree_jack (s : State) : (s.tickFree).jack = s.jack := rfl
@[simp] theorem State.tickFree_sides (s : State) : (s.tickFree).sides = s.sides := rfl
@[simp] theorem State.tickFree_asrc (s : State) : (s.tickFree).asrc = s.asrc := rfl
@[simp] theorem State.tickFree_capts (s : State) : (s.tickFree).capts = s.capts := rfl
@[simp] theorem State.tickFree_wake (s : State) : (s.tickFree).wake = s.wake := rfl
@[simp] theorem State.tickFree_patch (s : State) : (s.tickFree).patch = s.patch := rfl
@[simp] theorem State.tickFree_incs (s : State) : (s.tickFree).incs = s.incs := rfl
@[simp] theorem State.tickFree_fins (s : State) : (s.tickFree).fins = s.fins := rfl
@[simp] theorem State.tickFree_ports (s : State) : (s.tickFree).ports = s.ports := rfl
@[simp] theorem State.tickFree_nodes (s : State) : (s.tickFree).nodes = s.nodes := rfl
@[simp] theorem State.tickFree_outs (s : State) : (s.tickFree).outs = s.outs := rfl
@[simp] theorem State.tickFree_pub (s : State) : (s.tickFree).pub = s.pub := rfl
@[simp] theorem State.tickFree_anvs (s : State) : (s.tickFree).anvs = s.anvs := rfl
@[simp] theorem State.tickFree_varrAt (s : State) : (s.tickFree).varrAt = s.varrAt := rfl
@[simp] theorem State.tickFree_portTurn (s : State) : (s.tickFree).portTurn = s.portTurn := rfl
@[simp] theorem State.tickFree_tongs (s : State) : (s.tickFree).tongs = s.tongs := rfl
@[simp] theorem State.tickFree_auxs (s : State) : (s.tickFree).auxs = s.auxs := rfl
@[simp] theorem State.tickFree_twcs (s : State) : (s.tickFree).twcs = s.twcs := rfl
@[simp] theorem State.tickFree_wire (s : State) : (s.tickFree).wire = s.wire := rfl
@[simp] theorem State.tickFree_sec (s : State) : (s.tickFree).sec = s.sec := rfl
@[simp] theorem State.tickFree_img (s : State) : (s.tickFree).img = s.img := rfl
@[simp] theorem State.tickFree_pair (s : State) : (s.tickFree).pair = s.pair := rfl
@[simp] theorem State.tickFree_tst (s : State) : (s.tickFree).tst = s.tst := rfl
@[simp] theorem State.tickFree_boot (s : State) : (s.tickFree).boot = s.boot := rfl

/-! ### The fields they touch -/

@[simp] theorem State.setAnv_anv (s : State) (n : Nat) (a : Anv) : (s.setAnv n a).anvs = s.anvs.set {} n a := rfl
@[simp] theorem State.setW_words (s : State) (k : Nat) (v : Word) : (s.setW k v).words = s.words.set (resetWord k) k v := rfl
@[simp] theorem State.tickFree_free (s : State) : s.tickFree.free = s.free + 1 := rfl

/-! ### Words after updates that touch none -/

@[simp] theorem State.setAnv_w (s : State) (n : Nat) (a : Anv) (k : Nat) : (s.setAnv n a).w k = s.w k := rfl
@[simp] theorem State.answer_w (s : State) (m : Master) (v : Word) (k : Nat) : (s.answer m v).w k = s.w k := rfl
@[simp] theorem State.tickFree_w (s : State) (k : Nat) : s.tickFree.w k = s.w k := rfl
@[simp] theorem State.setAnv_f (s : State) (n : Nat) (a : Anv) (k lo len : Nat) : (s.setAnv n a).f k lo len = s.f k lo len := rfl
@[simp] theorem State.setAnv_b (s : State) (n : Nat) (a : Anv) (k i : Nat) : (s.setAnv n a).b k i = s.b k i := rfl

end Sys2Proof.Machine
end

