-- ==== Sys2Proof/Laws/Ops.lean ====
section
/-!
SUPPORT. Laws of the named operations over register words: what a word and a field read as after a write, and that every write keeps the
stores canonical.
-/

namespace Sys2Proof.Machine

/-- The two halves of the canonical form. -/
theorem Memory.wf_iff (s : State) :
    Memory.wf s = true ↔ Sparse.wf resetWord s.words = true ∧ Sparse.wf (fun _ => ({} : Billet)) s.stock.mem = true := by
  simp [Memory.wf]

/-! ### Words -/

theorem State.setW_wf {s : State} (k : Nat) (v : Word) (h : Memory.wf s = true) : Memory.wf (s.setW k v) = true := by
  rw [Memory.wf_iff] at h ⊢
  exact ⟨Sparse.set_wf resetWord s.words k v h.1, h.2⟩

theorem State.w_setW_same (s : State) (k : Nat) (v : Word) : (s.setW k v).w k = v :=
  Sparse.get_set_same s.words (resetWord k) k v

theorem State.w_setW_other (s : State) {j k : Nat} (v : Word) (h : j ≠ k) : (s.setW k v).w j = s.w j :=
  Sparse.get_set_other s.words (resetWord k) (resetWord j) v h

/-! ### Fields -/

theorem State.setF_wf {s : State} (k lo len v : Nat) (h : Memory.wf s = true) : Memory.wf (s.setF k lo len v) = true :=
  State.setW_wf k _ h

theorem State.setB_wf {s : State} (k i : Nat) (b : Bool) (h : Memory.wf s = true) : Memory.wf (s.setB k i b) = true :=
  State.setF_wf k i 1 (b2n b) h

theorem State.addF_wf {s : State} (k lo len n : Nat) (h : Memory.wf s = true) : Memory.wf (s.addF k lo len n) = true :=
  State.setF_wf k lo len _ h

theorem State.incF_wf {s : State} (k lo len : Nat) (h : Memory.wf s = true) : Memory.wf (s.incF k lo len) = true :=
  State.addF_wf k lo len 1 h

theorem State.event_wf {s : State} (p n : Nat) (h : Memory.wf s = true) : Memory.wf (s.event p n) = true :=
  State.setB_wf (Regs.IRQ_PEND p) n true h

theorem State.errOn_wf {s : State} (p a off code : Nat) (h : Memory.wf s = true) : Memory.wf (s.errOn p a off code) = true := by
  unfold State.errOn
  exact State.setW_wf _ _ h

theorem State.f_setF_same (s : State) (k lo len v : Nat) (hl : lo + len ≤ 32) :
    (s.setF k lo len v).f k lo len = v % 2 ^ len := by
  unfold State.f State.setF
  rw [State.w_setW_same, bits_putBits_same _ _ _ _ hl]

theorem State.f_setF_below (s : State) (k lo len v a n : Nat) (hl : lo + len ≤ 32) (ha : a + n ≤ lo) :
    (s.setF k lo len v).f k a n = s.f k a n := by
  unfold State.f State.setF
  rw [State.w_setW_same, bits_putBits_below _ _ _ _ _ _ hl ha]

theorem State.f_setF_above (s : State) (k lo len v a n : Nat) (hl : lo + len ≤ 32) (ha : lo + len ≤ a) :
    (s.setF k lo len v).f k a n = s.f k a n := by
  unfold State.f State.setF
  rw [State.w_setW_same, bits_putBits_above _ _ _ _ _ _ hl ha]

theorem State.f_setF_other (s : State) {j k : Nat} (lo len v a n : Nat) (h : j ≠ k) :
    (s.setF k lo len v).f j a n = s.f j a n := by
  unfold State.f State.setF
  rw [State.w_setW_other s _ h]

theorem State.w_setF_other (s : State) {j k : Nat} (lo len v : Nat) (h : j ≠ k) : (s.setF k lo len v).w j = s.w j :=
  State.w_setW_other s _ h

theorem State.w_setB_other (s : State) {j k : Nat} (i : Nat) (b : Bool) (h : j ≠ k) : (s.setB k i b).w j = s.w j :=
  State.w_setW_other s _ h

theorem State.b_eq_f (s : State) (k i : Nat) : s.b k i = decide (s.f k i 1 = 1) := bit_eq _ _

theorem State.b_setB_same (s : State) (k i : Nat) (b : Bool) (hi : i < 32) : (s.setB k i b).b k i = b := by
  rw [State.b_eq_f]
  unfold State.setB
  rw [State.f_setF_same s k i 1 (b2n b) (by omega)]
  cases b <;> simp [b2n]

theorem State.b_setB_bit (s : State) (k i j : Nat) (b : Bool) (hi : i < 32) (hj : j ≠ i) :
    (s.setB k i b).b k j = s.b k j := by
  rw [State.b_eq_f, State.b_eq_f]
  unfold State.setB
  rcases Nat.lt_or_gt_of_ne hj with hj | hj
  · rw [State.f_setF_below s k i 1 (b2n b) j 1 (by omega) (by omega)]
  · rw [State.f_setF_above s k i 1 (b2n b) j 1 (by omega) (by omega)]

theorem State.b_setB_other (s : State) {j k : Nat} (i a : Nat) (b : Bool) (h : j ≠ k) : (s.setB k i b).b j a = s.b j a := by
  unfold State.b State.setB
  rw [State.w_setF_other s _ _ _ h]

/-! ### Anvils -/

theorem State.setAnv_wf {s : State} (n : Nat) (a : Anv) (h : Memory.wf s = true) : Memory.wf (s.setAnv n a) = true := h

theorem State.anv_setAnv_same (s : State) (n : Nat) (a : Anv) : (s.setAnv n a).anv n = a :=
  Sparse.get_set_same s.anvs {} n a

theorem State.anv_setAnv_other (s : State) {i n : Nat} (a : Anv) (h : i ≠ n) : (s.setAnv n a).anv i = s.anv i :=
  Sparse.get_set_other s.anvs {} {} a h

end Sys2Proof.Machine
end

