-- ==== Sys2Proof/Laws/Commands.lean ====
section
/-!
SUPPORT. Laws of a command's frame: what every command leaves, whatever it does. A proof about a command cites these and the laws of its
own effect.
-/

namespace Sys2Proof.Machine

/-! ### The end of a command -/

@[simp] theorem State.commit_pending (t s : State) : (t.commit s).pending = s.pending := rfl

theorem State.commit_wf (t s : State) : Memory.wf (t.commit s) = true := by
  rw [Memory.wf_iff]
  exact ⟨Sparse.canon_wf _ _, Sparse.canon_wf _ _⟩

/-- A command that leaves canonical stores and the queue as it was ends with nothing more. -/
theorem State.commit_of_wf {t s : State} (h : Memory.wf t = true) (hp : t.pending = s.pending) : t.commit s = t := by
  rw [Memory.wf_iff] at h
  unfold State.commit
  rw [Sparse.canon_of_wf _ _ h.1, Sparse.canon_of_wf _ _ h.2, ← hp]

@[simp] theorem State.ends_pending (s t : State) : (s.ends t).pending = s.pending := rfl

theorem State.ends_wf (s t : State) : Memory.wf (s.ends t) = true := State.commit_wf _ _

/-! ### A row -/

theorem State.row_of {s : State} {ok : Bool} (act : State → State) (h : ok = true) : s.row ok act = .next (s.ends (act s)) := by
  simp [State.row, State.ends, h]

theorem State.row_not {s : State} {ok : Bool} (act : State → State) (h : ok = false) : s.row ok act = .next s := by
  simp [State.row, h]

/-- Everything a row can answer: a next state, with the same commands waiting, and canonical stores where they were canonical. -/
theorem State.row_answers (s : State) (ok : Bool) (act : State → State) :
    ∃ t, s.row ok act = .next t ∧ t.pending = s.pending ∧ (Memory.wf s = true → Memory.wf t = true) := by
  cases ok
  · exact ⟨s, State.row_not act rfl, rfl, id⟩
  · exact ⟨_, State.row_of act rfl, rfl, fun _ => State.ends_wf _ _⟩

end Sys2Proof.Machine
end

