-- ==== Sys2Proof/Laws/Exec.lean ====
section
/-!
SUPPORT. What each command is: one equation per constructor, which a proof about a command cites in place of unfolding `exec`.
-/

namespace Sys2Proof.Machine

theorem exec_tbTick (s : State) : exec .tbTick s = s.row true fun s => s.tick := rfl
theorem exec_tbBroadcast (replicas : List Nat) (s : State) : exec (.tbBroadcast replicas) s =
    s.row s.awake fun s => s.tbBroadcast replicas := rfl
theorem exec_slowClockEdge (s : State) : exec .slowClockEdge s = s.row true fun s => s.slowEdge := rfl
theorem exec_strokeBoundary (s : State) : exec .strokeBoundary s = s.row s.awake fun s => s.strokeBoundary := rfl
theorem exec_strokeDeadline (s : State) : exec .strokeDeadline s = s.row s.awake fun s => s.deadline := rfl
theorem exec_registerWrite (m : Master) (p off : Nat) (v : Word) (s : State) : exec (.registerWrite m p off v) s =
    s.row (m.ok && wordAt p off && s.reaches m p) fun s => s.ctlWrite m p off v := rfl
theorem exec_wideLoRead (m : Master) (p off : Nat) (s : State) : exec (.wideLoRead m p off) s =
    s.row (m.ok && wordAt p off && s.reaches m p && wideLo p off) fun s => s.ctlRead m p off := rfl
theorem exec_srst (m : Master) (p : Nat) (s : State) : exec (.srst m p) s =
    s.row (m.ok && isPage p && s.reaches m p) fun s => s.pgWrite m p 4 0 := rfl
theorem exec_softResetDone (p : Nat) (s : State) : exec (.softResetDone p) s = s.row (isPage p && s.awake) fun s => s.softResetDone p := rfl
theorem exec_pageEnable (m : Master) (p : Nat) (on : Bool) (s : State) : exec (.pageEnable m p on) s =
    s.row (m.ok && isPage p && s.reaches m p) fun s => s.pgWrite m p (b2w on) 1 := rfl
theorem exec_pgFreeze (m : Master) (p : Nat) (on : Bool) (s : State) : exec (.pgFreeze m p on) s =
    s.row (m.ok && isPage p && s.reaches m p) fun s => s.pgWrite m p (if on then 8 else 0) 8 := rfl
theorem exec_irqPendClear (m : Master) (p : Nat) (v : Word) (s : State) : exec (.irqPendClear m p v) s =
    s.row (m.ok && isPage p && s.reaches m p) fun s => s.writeKey m (Regs.IRQ_PEND p) v := rfl
theorem exec_irqForce (m : Master) (p : Nat) (v : Word) (s : State) : exec (.irqForce m p v) s =
    s.row (m.ok && isPage p && s.reaches m p) fun s => s.writeKey m (Regs.IRQ_FORCE p) v := rfl
theorem exec_pgAccessWrite (m : Master) (p : Nat) (v : Word) (s : State) : exec (.pgAccessWrite m p v) s =
    s.row (m.ok && isPage p && s.reaches m p) fun s => s.writeKey m (Regs.PG_ACCESS p) v := rfl
theorem exec_pgLockWrite (m : Master) (p : Nat) (v : Word) (s : State) : exec (.pgLockWrite m p v) s =
    s.row (m.ok && isPage p && s.reaches m p) fun s => s.writeKey m (Regs.PG_LOCK p) v := rfl
theorem exec_clockDomainStart (d : Nat) (s : State) : exec (.clockDomainStart d) s = s.row (below 210 d) fun s => s.domainStart d := rfl
theorem exec_clockDomainStop (d : Nat) (s : State) : exec (.clockDomainStop d) s = s.row (below 210 d) fun s => s.domainStop d := rfl
theorem exec_porRelease (defStrap role addr : Nat) (s : State) : exec (.porRelease defStrap role addr) s =
    s.row (below 8 defStrap && below 4 role && below 4 addr) fun s => s.porRelease defStrap role addr := rfl
theorem exec_vaonReset (kept : Bool) (s : State) : exec (.vaonReset kept) s = s.row s.powered fun s => s.vaonReset kept := rfl
theorem exec_sysReset (m : Master) (v : Word) (s : State) : exec (.sysReset m v) s =
    s.row (m.ok && s.reaches m 0x00) fun s => s.writeKey m Regs.SYS_RESET v := rfl
theorem exec_bootSequence (fast : Nat) (magic : Bool) (s : State) : exec (.bootSequence fast magic) s =
    s.row (below 4 fast) fun s => s.bootSequence fast magic := rfl
theorem exec_pwrModeRequest (m : Master) (req : Nat) (s : State) : exec (.pwrModeRequest m req) s =
    s.row (m.ok && below 8 req && s.reaches m 0x02) fun s => s.writeKey m Regs.PWR_MODE (putBits (s.w Regs.PWR_MODE) 0 3 req) := rfl
theorem exec_pllaLock (s : State) : exec .pllaLock s = s.row s.awake fun s => s.pllaLock := rfl
theorem exec_forgingEntry (s : State) : exec .forgingEntry s = s.row s.awake fun s => s.forgingEntry := rfl
theorem exec_forgingExit (s : State) : exec .forgingExit s = s.row s.awake fun s => s.forgingExit := rfl
theorem exec_sleepEntry (s : State) : exec .sleepEntry s = s.row s.awake fun s => s.sleepEntry := rfl
theorem exec_wakeEvent (e : WakeEdge) (s : State) : exec (.wakeEvent e) s =
    s.row (below 10 e.source) fun s => s.wakeEvent e.source e.rising := rfl
theorem exec_pwrAlarm (s : State) : exec .pwrAlarm s = s.row true fun s => s.alarm := rfl
theorem exec_fastClockLoss (s : State) : exec .fastClockLoss s = s.row s.awake fun s => s.fastLoss := rfl
theorem exec_slowClockFail (s : State) : exec .slowClockFail s = s.row true fun s => s.slowFail := rfl
theorem exec_hearthRateWrite (m : Master) (v : Word) (s : State) : exec (.hearthRateWrite m v) s =
    s.row (m.ok && s.reaches m 0x01) fun s => s.writeKey m Regs.CLK_HEARTH v := rfl
theorem exec_clkSrcWrite (m : Master) (v : Word) (s : State) : exec (.clkSrcWrite m v) s =
    s.row (m.ok && s.reaches m 0x01) fun s => s.writeKey m Regs.CLK_SRC v := rfl
theorem exec_pllbLockSet (pull : Int) (s : State) : exec (.pllbLockSet pull) s = s.row s.awake fun s => s.pllbLock pull := rfl
theorem exec_pllbLockClear (s : State) : exec .pllbLockClear s = s.row s.awake fun s => s.pllbUnlock := rfl
theorem exec_pllbHoldover (s : State) : exec .pllbHoldover s = s.row s.awake fun s => s.pllbHoldover := rfl
theorem exec_vaonWarningFall (s : State) : exec .vaonWarningFall s = s.row true fun s => s.vaonFall := rfl
theorem exec_braceEnd (s : State) : exec .braceEnd s = s.row s.powered fun s => s.vaonBack := rfl
theorem exec_vsysUndervoltage (s : State) : exec .vsysUndervoltage s = s.row true fun s => s.vsysFall := rfl
theorem exec_vsysUvTimeout (s : State) : exec .vsysUvTimeout s = s.row s.awake fun s => s.vsysTimeout := rfl
theorem exec_captureEdge (pin : Nat) (rising : Bool) (tick : Nat) (s : State) : exec (.captureEdge pin rising tick) s =
    s.row (below 16 pin && below (2 ^ 64) tick && s.awake) fun s => s.captureEdge pin rising tick := rfl
theorem exec_capHiRead (m : Master) (n : Nat) (s : State) : exec (.capHiRead m n) s =
    s.row (m.ok && below 4 n && s.reaches m 0x03) fun s => s.readKey m (Regs.TB_CAP_HI n) := rfl
theorem exec_schedArm (m : Master) (s : State) : exec (.schedArm m) s =
    s.row (m.ok && s.reaches m 0x04) fun s => s.readKey m Regs.SCHED_ARM := rfl
theorem exec_schedCancel (m : Master) (index : Nat) (s : State) : exec (.schedCancel m index) s =
    s.row (m.ok && below 4096 index && s.reaches m 0x04) fun s => s.writeKey m Regs.SCHED_CANCEL (Word.of index) := rfl
theorem exec_schedFire (s : State) : exec .schedFire s = s.row s.awake fun s => s.schedFire := rfl
theorem exec_schedAccept (s : State) : exec .schedAccept s = s.row s.awake fun s => s.schedAccept := rfl
theorem exec_portStart (m : Master) (index : Nat) (payload : Word) (s : State) : exec (.portStart m index payload) s =
    s.row (m.ok && below 4096 index && s.awake) fun s => s.act m (s.domainOf m) index 1 payload := rfl
theorem exec_portStop (m : Master) (index : Nat) (payload : Word) (s : State) : exec (.portStop m index payload) s =
    s.row (m.ok && below 4096 index && s.awake) fun s => s.act m (s.domainOf m) index 2 payload := rfl
theorem exec_stageStart (m : Master) (index : Nat) (payload : Word) (s : State) : exec (.stageStart m index payload) s =
    s.row (m.ok && below 4096 index && s.awake) fun s => s.act m (s.domainOf m) index 3 payload := rfl
theorem exec_stageMute (m : Master) (index : Nat) (payload : Word) (s : State) : exec (.stageMute m index payload) s =
    s.row (m.ok && below 4096 index && s.awake) fun s => s.act m (s.domainOf m) index 4 payload := rfl
theorem exec_stageUnmute (m : Master) (index : Nat) (payload : Word) (s : State) : exec (.stageUnmute m index payload) s =
    s.row (m.ok && below 4096 index && s.awake) fun s => s.act m (s.domainOf m) index 5 payload := rfl
theorem exec_actionWeldCommit (m : Master) (index : Nat) (payload : Word) (s : State) : exec (.actionWeldCommit m index payload) s =
    s.row (m.ok && below 4096 index && s.awake) fun s => s.act m (s.domainOf m) index 6 payload := rfl
theorem exec_auxInj (m : Master) (index : Nat) (payload : Word) (s : State) : exec (.auxInj m index payload) s =
    s.row (m.ok && below 4096 index && s.awake) fun s => s.act m (s.domainOf m) index 7 payload := rfl
theorem exec_gpioSet (m : Master) (index : Nat) (payload : Word) (s : State) : exec (.gpioSet m index payload) s =
    s.row (m.ok && below 4096 index && s.awake) fun s => s.act m (s.domainOf m) index 8 payload := rfl
theorem exec_gpioClr (m : Master) (index : Nat) (payload : Word) (s : State) : exec (.gpioClr m index payload) s =
    s.row (m.ok && below 4096 index && s.awake) fun s => s.act m (s.domainOf m) index 9 payload := rfl
theorem exec_actionIrq (m : Master) (index : Nat) (payload : Word) (s : State) : exec (.actionIrq m index payload) s =
    s.row (m.ok && below 4096 index && s.awake) fun s => s.act m (s.domainOf m) index 10 payload := rfl
theorem exec_actionTest (m : Master) (index : Nat) (payload : Word) (s : State) : exec (.actionTest m index payload) s =
    s.row (m.ok && below 4096 index && s.awake) fun s => s.act m (s.domainOf m) index 11 payload := rfl
theorem exec_tbAcquire (stamp : Nat) (s : State) : exec (.tbAcquire stamp) s =
    s.row (below (2 ^ 64) stamp && s.awake) fun s => s.tbAcquire stamp (s.f Regs.VHK_STAT 16 8) := rfl
theorem exec_followerLockSet (s : State) : exec .followerLockSet s = s.row s.awake fun s => s.followLock := rfl
theorem exec_creditGrant (q : LedgerRef) (s : State) : exec (.creditGrant q) s =
    s.row (below 1024 q.id && s.awake) fun s => (s.grant q.id .producer).2.locationRead q.bad := rfl
theorem exec_billetPut (q b gen stamp count offset flags : Nat) (data : List Word) (s : State) :
    exec (.billetPut q b gen stamp count offset flags data) s =
      s.row (below 1024 q && below 65536 b && s.awake) fun s =>
        s.put q b gen { stamp := stamp, count := count, offset := offset, flags := flags } data := rfl
theorem exec_billetTake (q : Nat) (s : State) : exec (.billetTake q) s =
    s.row (below 1024 q && s.awake) fun s => (s.take q .consumer).2 := rfl
theorem exec_billetRelease (b : LedgerRef) (s : State) : exec (.billetRelease b) s =
    s.row (below 65536 b.id && s.awake) fun s => (s.consumerRelease b.id).locationRead b.bad := rfl
theorem exec_queueDescriptorWrite (m : Master) (v : Word) (s : State) : exec (.queueDescriptorWrite m v) s =
    s.row (m.ok && s.reaches m 0x06) fun s => s.writeKey m Regs.STOCK_QD_CFG v := rfl
theorem exec_stockCe (s : State) : exec .stockCe s = s.row s.awake fun s => s.stockCe := rfl
theorem exec_stockUe (b : Nat) (readable : Bool) (s : State) : exec (.stockUe b readable) s =
    s.row (below 65536 b && s.awake) fun s => s.stockUe b readable := rfl
theorem exec_scrubPass (ce : Nat) (ue : ScrubErrors) (s : State) : exec (.scrubPass ce ue) s =
    s.row (ue.billets.all (fun x => below 65536 x.1) && [0, 3, 4].contains ue.tongs && s.awake) fun s =>
      (s.scrub ce ue.billets).memoryErrors ue := rfl
theorem exec_stockSrst (m : Master) (s : State) : exec (.stockSrst m) s =
    s.row (m.ok && s.reaches m 0x06) fun s => s.pgWrite m 0x06 4 0 := rfl
theorem exec_stockRebuildDone (bad : List Nat) (s : State) : exec (.stockRebuildDone bad) s =
    s.row (bad.all (below 65536) && s.awake) fun s => s.rebuildDone bad := rfl
theorem exec_auditNow (m : Master) (s : State) : exec (.auditNow m) s =
    s.row (m.ok && s.reaches m 0x07) fun s => s.writeKey m Regs.LEDGER_CTRL 1 := rfl
theorem exec_weldOpen (m : Master) (s : State) : exec (.weldOpen m) s =
    s.row (m.ok && s.reaches m 0x05) fun s => s.readKey m Regs.WELD_OPEN := rfl
theorem exec_weldSelect (m : Master) (id : Nat) (s : State) : exec (.weldSelect m id) s =
    s.row (m.ok && below 16 id && s.reaches m 0x05) fun s => s.selectWeld m id := rfl
theorem exec_weldStageWrite (m : Master) (p off : Nat) (v : Word) (s : State) : exec (.weldStageWrite m p off v) s =
    s.row (m.ok && wordAt p off && s.reaches m p && (s.selected m).isSome) fun s => s.ctlWrite m p off v := rfl
theorem exec_weldCommit (m : Master) (v : Word) (s : State) : exec (.weldCommit m v) s =
    s.row (m.ok && s.reaches m 0x05) fun s => s.writeKey m Regs.WELD_COMMIT v := rfl
theorem exec_weldAbort (m : Master) (id : Nat) (s : State) : exec (.weldAbort m id) s =
    s.row (m.ok && below 16 id && s.reaches m 0x05) fun s => s.writeKey m Regs.WELD_ABORT (Word.of id) := rfl
theorem exec_weldUndo (m : Master) (id : Nat) (s : State) : exec (.weldUndo m id) s =
    s.row (m.ok && below 16 id && s.reaches m 0x05) fun s => s.writeKey m Regs.WELD_UNDO (Word.of id) := rfl
theorem exec_reheatWindowEnd (s : State) : exec .reheatWindowEnd s = s.row s.awake fun s => s.closeWindows s.strokeNo := rfl
theorem exec_cmdqEnqueue (m : Master) (p off : Nat) (v : Word) (s : State) : exec (.cmdqEnqueue m p off v) s =
    s.row (m.ok && wordAt p off && s.reaches m p && (s.queueActive m && (s.selected m).isNone)) fun s => s.ctlWrite m p off v := rfl
theorem exec_startTx (m : Master) (n : Nat) (s : State) : exec (.startTx m n) s =
    s.row (m.ok && below 6 n && s.reaches m (0x10 + n)) fun s => s.writeKey m (Regs.SAP_CMD n) 1 := rfl
theorem exec_startRx (m : Master) (n : Nat) (s : State) : exec (.startRx m n) s =
    s.row (m.ok && below 6 n && s.reaches m (0x10 + n)) fun s => s.writeKey m (Regs.SAP_CMD n) 2 := rfl
theorem exec_stopTx (m : Master) (n : Nat) (s : State) : exec (.stopTx m n) s =
    s.row (m.ok && below 6 n && s.reaches m (0x10 + n)) fun s => s.writeKey m (Regs.SAP_CMD n) 4 := rfl
theorem exec_stopRx (m : Master) (n : Nat) (s : State) : exec (.stopRx m n) s =
    s.row (m.ok && below 6 n && s.reaches m (0x10 + n)) fun s => s.writeKey m (Regs.SAP_CMD n) 8 := rfl
theorem exec_sapRxFrame (n tick nbits : Nat) (words : List Word) (s : State) : exec (.sapRxFrame n tick nbits words) s =
    s.row (below 6 n && s.awake) fun s => s.rxFrame n tick nbits words := rfl
theorem exec_sapStall (n : Nat) (rx : Bool) (s : State) : exec (.sapStall n rx) s =
    s.row (below 6 n && s.awake) fun s => s.sapStall n rx := rfl
theorem exec_sapTxFrame (n tick nbits : Nat) (disagree : List (Nat × Nat)) (s : State) : exec (.sapTxFrame n tick nbits disagree) s =
    s.row (below 6 n && s.awake) fun s => s.txFrame n tick nbits disagree := rfl
theorem exec_slotResume (n slot : Nat) (s : State) : exec (.slotResume n slot) s =
    s.row (below 6 n && below 16 slot && s.awake) fun s => s.slotResume n slot := rfl
theorem exec_spdifStart (m : Master) (s : State) : exec (.spdifStart m) s =
    s.row (m.ok && s.reaches m 0x17) fun s => s.writeKey m Regs.SPDIF_CTRL (s.w Regs.SPDIF_CTRL ||| 8) := rfl
theorem exec_spdifStop (m : Master) (s : State) : exec (.spdifStop m) s =
    s.row (m.ok && s.reaches m 0x17) fun s => s.writeKey m Regs.SPDIF_CTRL (s.w Regs.SPDIF_CTRL ||| 16) := rfl
theorem exec_spdifFrame (tick : Nat) (good first : Bool) (a b : Subframe) (s : State) : exec (.spdifFrame tick good first a b) s =
    s.row s.awake fun s => s.spdifFrame tick good first a b := rfl
theorem exec_spdifLock (rate : Nat) (s : State) : exec (.spdifLock rate) s =
    s.row (below 16 rate && s.awake) fun s => s.spdifLock rate := rfl
theorem exec_spdifStall (s : State) : exec .spdifStall s = s.row s.awake fun s => s.spdifStall := rfl
theorem exec_bypassPlace (q : Nat) (s : State) : exec (.bypassPlace q) s = s.row (below 1024 q && s.awake) fun s => s.bypassPlace q := rfl
theorem exec_onchipCaptureSample (x : OnChip) (s : State) : exec (.onchipCaptureSample x) s =
    s.row (x.ok && s.powered) fun s => s.onChip x := rfl
theorem exec_asrcEnable (m : Master) (n : Nat) (s : State) : exec (.asrcEnable m n) s =
    s.row (m.ok && below 12 n && s.reaches m (pgAsrc n)) fun s => s.pgWrite m (pgAsrc n) 1 0 := rfl
theorem exec_asrcInputBillet (n c fi : Nat) (err : Int) (s : State) : exec (.asrcInputBillet n c fi err) s =
    s.row (below 12 n && below 2 c && s.awake) fun s => s.asrcInput n c fi err := rfl
theorem exec_asrcGridSample (n : Nat) (s : State) : exec (.asrcGridSample n) s = s.row (below 12 n && s.awake) fun s => s.asrcGrid n := rfl
theorem exec_patchEntryWrite (m : Master) (lo hi : Word) (s : State) : exec (.patchEntryWrite m lo hi) s =
    s.row (m.ok && s.reaches m 0x08) fun s => (s.writeKey m Regs.PATCH_ENTRY_LO lo).writeKey m Regs.PATCH_ENTRY_HI hi := rfl
theorem exec_patchInval (m : Master) (v : Word) (s : State) : exec (.patchInval m v) s =
    s.row (m.ok && s.reaches m 0x08) fun s => s.writeKey m Regs.PATCH_INVAL v := rfl
theorem exec_patchCopy (m : Master) (s : State) : exec (.patchCopy m) s =
    s.row (m.ok && s.reaches m 0x08) fun s => s.writeKey m Regs.PATCH_CTRL (s.w Regs.PATCH_CTRL ||| 1) := rfl
theorem exec_patchCopyDone (s : State) : exec .patchCopyDone s = s.row s.awake fun s => s.copyDone := rfl
theorem exec_incComputeStroke (n : Nat) (s : State) : exec (.incComputeStroke n) s =
    s.row (below 24 n && s.awake) fun s => s.incStroke n := rfl
theorem exec_finComputeStroke (n : Nat) (s : State) : exec (.finComputeStroke n) s =
    s.row (below 17 n && s.awake) fun s => s.finStroke n := rfl
theorem exec_mixNodeCompute (n : Nat) (s : State) : exec (.mixNodeCompute n) s =
    s.row (below 64 n && s.awake) fun s => s.nodeStroke n := rfl
theorem exec_meterClear (m : Master) (p : Nat) (s : State) : exec (.meterClear m p) s =
    s.row (m.ok && chainPage p && s.reaches m p) fun s => s.writeKey m (p * 256 + 0x14) (s.w (p * 256 + 0x14) ||| 16) := rfl
theorem exec_go (m : Master) (n : Nat) (s : State) : exec (.go m n) s =
    s.row (m.ok && below 64 n && s.reaches m (anvPage n)) fun s => s.writeKey m (Regs.ANV_CTRL n) 1 := rfl
theorem exec_halt (m : Master) (n : Nat) (s : State) : exec (.halt m n) s =
    s.row (m.ok && below 64 n && s.reaches m (anvPage n)) fun s => s.writeKey m (Regs.ANV_CTRL n) 2 := rfl
theorem exec_step (m : Master) (n : Nat) (s : State) : exec (.step m n) s =
    s.row (m.ok && below 64 n && s.reaches m (anvPage n)) fun s => s.writeKey m (Regs.ANV_CTRL n) 4 := rfl
theorem exec_anvilHalted (n : Nat) (s : State) : exec (.anvilHalted n) s = s.row (below 64 n && s.anvPowered n) fun s => s.haltDone n := rfl
theorem exec_anvilStopReset (m : Master) (n : Nat) (srst : Bool) (s : State) : exec (.anvilStopReset m n srst) s =
    s.row (m.ok && below 64 n && s.reaches m (anvPage n)) fun s =>
        s.pgWrite m (anvPage n) (if srst then 4 else 0) (if srst then 0 else 1) := rfl
theorem exec_mdataAccess (m : Master) (n : Nat) (wr : Bool) (v : Word) (s : State) : exec (.mdataAccess m n wr v) s =
    s.row (m.ok && below 64 n && s.reaches m (anvPage n)) fun s =>
        if wr then s.writeKey m (Regs.ANV_MDATA n) v else s.readKey m (Regs.ANV_MDATA n) := rfl
theorem exec_benchRateWrite (m : Master) (n rate : Nat) (s : State) : exec (.benchRateWrite m n rate) s =
    s.row (m.ok && below 8 n && below 4 rate && s.reaches m (0xC0 + n)) fun s => s.writeKey m (Regs.BENCH_CLK n) (Word.of rate) := rfl
theorem exec_varrSettled (n : Nat) (s : State) : exec (.varrSettled n) s = s.row (below 8 n && s.awake) fun s => s.varrSettled n := rfl
theorem exec_done (n : Nat) (s : State) : exec (.done n) s = s.row (below 64 n && s.anvPowered n) fun s => s.anvRow n (.sys 1) := rfl
theorem exec_btake (n h t p : Nat) (s : State) : exec (.btake n h t p) s =
    s.row (below 64 n && s.anvPowered n) fun s => s.anvRow n (.billet 0 h t 0 0 p) := rfl
theorem exec_bgrant (n h t : Nat) (s : State) : exec (.bgrant n h t) s =
    s.row (below 64 n && s.anvPowered n) fun s => s.anvRow n (.billet 1 h t 0 0 0) := rfl
theorem exec_bput (n h p : Nat) (s : State) : exec (.bput n h p) s =
    s.row (below 64 n && s.anvPowered n) fun s => s.anvRow n (.billet 2 h 0 0 0 p) := rfl
theorem exec_brel (n h : Nat) (s : State) : exec (.brel n h) s =
    s.row (below 64 n && s.anvPowered n) fun s => s.anvRow n (.billet 3 h 0 0 0 0) := rfl
theorem exec_brd (n ring idx p : Nat) (s : State) : exec (.brd n ring idx p) s =
    s.row (below 64 n && s.anvPowered n) fun s => s.anvRow n (.billet 4 0 0 ring idx p) := rfl
theorem exec_bwr (n ring idx p : Nat) (s : State) : exec (.bwr n ring idx p) s =
    s.row (below 64 n && s.anvPowered n) fun s => s.anvRow n (.billet 5 0 0 ring idx p) := rfl
theorem exec_billetOpComplete (n h : Nat) (s : State) : exec (.billetOpComplete n h) s =
    s.row (below 64 n && below 8 h && s.anvPowered n) fun s => s.opComplete n h := rfl
theorem exec_billetCopyDone (n : Nat) (s : State) : exec (.billetCopyDone n) s =
    s.row (below 64 n && s.anvPowered n) fun s => s.copyComplete n := rfl
theorem exec_hwait (n h d : Nat) (s : State) : exec (.hwait n h d) s =
    s.row (below 64 n && s.anvPowered n) fun s => s.anvRow n (.handle 0 h d false) := rfl
theorem exec_hstat (n h d : Nat) (s : State) : exec (.hstat n h d) s =
    s.row (below 64 n && s.anvPowered n) fun s => s.anvRow n (.handle 1 h d false) := rfl
theorem exec_rwait (n d : Nat) (s : State) : exec (.rwait n d) s =
    s.row (below 64 n && s.anvPowered n) fun s => s.anvRow n (.handle 2 0 d false) := rfl
theorem exec_hget (n h d : Nat) (hi : Bool) (s : State) : exec (.hget n h d hi) s =
    s.row (below 64 n && s.anvPowered n) fun s => s.anvRow n (.handle 3 h d hi) := rfl
theorem exec_hset (n h d : Nat) (hi : Bool) (s : State) : exec (.hset n h d hi) s =
    s.row (below 64 n && s.anvPowered n) fun s => s.anvRow n (.handle 4 h d hi) := rfl
theorem exec_mov (n d a : Nat) (w : Bool) (s : State) : exec (.mov n d a w) s =
    s.row (below 64 n && s.anvPowered n) fun s => s.anvRow n (.alu 0x0 d a 0 w) := rfl
theorem exec_add (n d a b : Nat) (w : Bool) (s : State) : exec (.add n d a b w) s =
    s.row (below 64 n && s.anvPowered n) fun s => s.anvRow n (.alu 0x1 d a b w) := rfl
theorem exec_sub (n d a b : Nat) (w : Bool) (s : State) : exec (.sub n d a b w) s =
    s.row (below 64 n && s.anvPowered n) fun s => s.anvRow n (.alu 0x2 d a b w) := rfl
theorem exec_and (n d a b : Nat) (w : Bool) (s : State) : exec (.and n d a b w) s =
    s.row (below 64 n && s.anvPowered n) fun s => s.anvRow n (.alu 0x3 d a b w) := rfl
theorem exec_or (n d a b : Nat) (w : Bool) (s : State) : exec (.or n d a b w) s =
    s.row (below 64 n && s.anvPowered n) fun s => s.anvRow n (.alu 0x4 d a b w) := rfl
theorem exec_xor (n d a b : Nat) (w : Bool) (s : State) : exec (.xor n d a b w) s =
    s.row (below 64 n && s.anvPowered n) fun s => s.anvRow n (.alu 0x5 d a b w) := rfl
theorem exec_not (n d a : Nat) (w : Bool) (s : State) : exec (.not n d a w) s =
    s.row (below 64 n && s.anvPowered n) fun s => s.anvRow n (.alu 0x6 d a 0 w) := rfl
theorem exec_neg (n d a : Nat) (w : Bool) (s : State) : exec (.neg n d a w) s =
    s.row (below 64 n && s.anvPowered n) fun s => s.anvRow n (.alu 0x7 d a 0 w) := rfl
theorem exec_abs (n d a : Nat) (w : Bool) (s : State) : exec (.abs n d a w) s =
    s.row (below 64 n && s.anvPowered n) fun s => s.anvRow n (.alu 0x8 d a 0 w) := rfl
theorem exec_min (n d a b : Nat) (w : Bool) (s : State) : exec (.min n d a b w) s =
    s.row (below 64 n && s.anvPowered n) fun s => s.anvRow n (.alu 0x9 d a b w) := rfl
theorem exec_max (n d a b : Nat) (w : Bool) (s : State) : exec (.max n d a b w) s =
    s.row (below 64 n && s.anvPowered n) fun s => s.anvRow n (.alu 0xA d a b w) := rfl
theorem exec_cmp (n a b : Nat) (w : Bool) (s : State) : exec (.cmp n a b w) s =
    s.row (below 64 n && s.anvPowered n) fun s => s.anvRow n (.alu 0xB 0 a b w) := rfl
theorem exec_shl (n d a b : Nat) (w : Bool) (s : State) : exec (.shl n d a b w) s =
    s.row (below 64 n && s.anvPowered n) fun s => s.anvRow n (.alu 0xC d a b w) := rfl
theorem exec_shr (n d a b : Nat) (w : Bool) (s : State) : exec (.shr n d a b w) s =
    s.row (below 64 n && s.anvPowered n) fun s => s.anvRow n (.alu 0xD d a b w) := rfl
theorem exec_asr (n d a b : Nat) (w : Bool) (s : State) : exec (.asr n d a b w) s =
    s.row (below 64 n && s.anvPowered n) fun s => s.anvRow n (.alu 0xE d a b w) := rfl
theorem exec_cls (n d a : Nat) (w : Bool) (s : State) : exec (.cls n d a w) s =
    s.row (below 64 n && s.anvPowered n) fun s => s.anvRow n (.alu 0xF d a 0 w) := rfl
theorem exec_movi (n d v : Nat) (s : State) : exec (.movi n d v) s =
    s.row (below 64 n && s.anvPowered n) fun s => s.anvRow n (.imm 0 d v) := rfl
theorem exec_addi (n d v : Nat) (s : State) : exec (.addi n d v) s =
    s.row (below 64 n && s.anvPowered n) fun s => s.anvRow n (.imm 1 d v) := rfl
theorem exec_cmpi (n d v : Nat) (s : State) : exec (.cmpi n d v) s =
    s.row (below 64 n && s.anvPowered n) fun s => s.anvRow n (.imm 2 d v) := rfl
theorem exec_andi (n d v : Nat) (s : State) : exec (.andi n d v) s =
    s.row (below 64 n && s.anvPowered n) fun s => s.anvRow n (.imm 3 d v) := rfl
theorem exec_ori (n d v : Nat) (s : State) : exec (.ori n d v) s =
    s.row (below 64 n && s.anvPowered n) fun s => s.anvRow n (.imm 4 d v) := rfl
theorem exec_shli (n d v : Nat) (s : State) : exec (.shli n d v) s =
    s.row (below 64 n && s.anvPowered n) fun s => s.anvRow n (.imm 5 d v) := rfl
theorem exec_asri (n d v : Nat) (s : State) : exec (.asri n d v) s =
    s.row (below 64 n && s.anvPowered n) fun s => s.anvRow n (.imm 6 d v) := rfl
theorem exec_shri (n d v : Nat) (s : State) : exec (.shri n d v) s =
    s.row (below 64 n && s.anvPowered n) fun s => s.anvRow n (.imm 7 d v) := rfl
theorem exec_ext (n d src : Nat) (s : State) : exec (.ext n d src) s =
    s.row (below 64 n && s.anvPowered n) fun s => s.anvRow n (.acc 0 d 0 src 0) := rfl
theorem exec_extw (n d src : Nat) (s : State) : exec (.extw n d src) s =
    s.row (below 64 n && s.anvPowered n) fun s => s.anvRow n (.acc 1 d 0 src 0) := rfl
theorem exec_aclr (n ad : Nat) (s : State) : exec (.aclr n ad) s =
    s.row (below 64 n && s.anvPowered n) fun s => s.anvRow n (.acc 2 0 ad 0 0) := rfl
theorem exec_aldw (n ad d : Nat) (s : State) : exec (.aldw n ad d) s =
    s.row (below 64 n && s.anvPowered n) fun s => s.anvRow n (.acc 3 d ad 0 0) := rfl
theorem exec_ashi (n ad src v : Nat) (s : State) : exec (.ashi n ad src v) s =
    s.row (below 64 n && s.anvPowered n) fun s => s.anvRow n (.acc 4 0 ad src v) := rfl
theorem exec_ashx (n ad src : Nat) (s : State) : exec (.ashx n ad src) s =
    s.row (below 64 n && s.anvPowered n) fun s => s.anvRow n (.acc 5 0 ad src 0) := rfl
theorem exec_aadd (n ad src : Nat) (s : State) : exec (.aadd n ad src) s =
    s.row (below 64 n && s.anvPowered n) fun s => s.anvRow n (.acc 6 0 ad src 0) := rfl
theorem exec_asub (n ad src : Nat) (s : State) : exec (.asub n ad src) s =
    s.row (below 64 n && s.anvPowered n) fun s => s.anvRow n (.acc 7 0 ad src 0) := rfl
theorem exec_amov (n ad src : Nat) (s : State) : exec (.amov n ad src) s =
    s.row (below 64 n && s.anvPowered n) fun s => s.anvRow n (.acc 8 0 ad src 0) := rfl
theorem exec_aneg (n ad src : Nat) (s : State) : exec (.aneg n ad src) s =
    s.row (below 64 n && s.anvPowered n) fun s => s.anvRow n (.acc 9 0 ad src 0) := rfl
theorem exec_aabs (n ad src : Nat) (s : State) : exec (.aabs n ad src) s =
    s.row (below 64 n && s.anvPowered n) fun s => s.anvRow n (.acc 10 0 ad src 0) := rfl
theorem exec_ld (n reg p am md off : Nat) (s : State) : exec (.ld n reg p am md off) s =
    s.row (below 64 n && s.anvPowered n) fun s => s.anvRow n (.load 0 reg p am md off) := rfl
theorem exec_ldw (n reg p am md off : Nat) (s : State) : exec (.ldw n reg p am md off) s =
    s.row (below 64 n && s.anvPowered n) fun s => s.anvRow n (.load 1 reg p am md off) := rfl
theorem exec_ldn (n reg p am md off : Nat) (s : State) : exec (.ldn n reg p am md off) s =
    s.row (below 64 n && s.anvPowered n) fun s => s.anvRow n (.load 2 reg p am md off) := rfl
theorem exec_lda (n reg p am md off : Nat) (s : State) : exec (.lda n reg p am md off) s =
    s.row (below 64 n && s.anvPowered n) fun s => s.anvRow n (.load 3 reg p am md off) := rfl
theorem exec_st (n reg p am md off : Nat) (s : State) : exec (.st n reg p am md off) s =
    s.row (below 64 n && s.anvPowered n) fun s => s.anvRow n (.store 0 reg p am md off) := rfl
theorem exec_stw (n reg p am md off : Nat) (s : State) : exec (.stw n reg p am md off) s =
    s.row (below 64 n && s.anvPowered n) fun s => s.anvRow n (.store 1 reg p am md off) := rfl
theorem exec_std (n reg p am md off : Nat) (s : State) : exec (.std n reg p am md off) s =
    s.row (below 64 n && s.anvPowered n) fun s => s.anvRow n (.store 2 reg p am md off) := rfl
theorem exec_ste (n reg p am md off : Nat) (s : State) : exec (.ste n reg p am md off) s =
    s.row (below 64 n && s.anvPowered n) fun s => s.anvRow n (.store 3 reg p am md off) := rfl
theorem exec_norm (n p am md off : Nat) (s : State) : exec (.norm n p am md off) s =
    s.row (below 64 n && s.anvPowered n) fun s => s.anvRow n (.norm 0 0 p am md off) := rfl
theorem exec_normr (n reg : Nat) (s : State) : exec (.normr n reg) s =
    s.row (below 64 n && s.anvPowered n) fun s => s.anvRow n (.norm 1 reg 0 0 0 0) := rfl
theorem exec_pset (n p v : Nat) (s : State) : exec (.pset n p v) s =
    s.row (below 64 n && s.anvPowered n) fun s => s.anvRow n (.addr p 0 v) := rfl
theorem exec_padd (n p v : Nat) (s : State) : exec (.padd n p v) s =
    s.row (below 64 n && s.anvPowered n) fun s => s.anvRow n (.addr p 1 v) := rfl
theorem exec_mvc (n reg : Nat) (w : Bool) (cr : Nat) (s : State) : exec (.mvc n reg w cr) s =
    s.row (below 64 n && s.anvPowered n) fun s => s.anvRow n (.ctl true reg w cr) := rfl
theorem exec_mvf (n reg : Nat) (w : Bool) (cr : Nat) (s : State) : exec (.mvf n reg w cr) s =
    s.row (below 64 n && s.anvPowered n) fun s => s.anvRow n (.ctl false reg w cr) := rfl
theorem exec_mpy (n acc x y sgn : Nat) (sh lx : Bool) (px mx : Nat) (ly : Bool) (py my width : Nat) (s : State) :
    exec (.mpy n acc x y sgn sh lx px mx ly py my width) s =
      s.row (below 64 n && s.anvPowered n) fun s => s.anvRow n (.lane 0 acc x y sgn sh lx px mx ly py my width) := rfl
theorem exec_mac (n acc x y sgn : Nat) (sh lx : Bool) (px mx : Nat) (ly : Bool) (py my width : Nat) (s : State) :
    exec (.mac n acc x y sgn sh lx px mx ly py my width) s =
      s.row (below 64 n && s.anvPowered n) fun s => s.anvRow n (.lane 1 acc x y sgn sh lx px mx ly py my width) := rfl
theorem exec_msu (n acc x y sgn : Nat) (sh lx : Bool) (px mx : Nat) (ly : Bool) (py my width : Nat) (s : State) :
    exec (.msu n acc x y sgn sh lx px mx ly py my width) s =
      s.row (below 64 n && s.anvPowered n) fun s => s.anvRow n (.lane 2 acc x y sgn sh lx px mx ly py my width) := rfl
theorem exec_br (n cond target : Nat) (s : State) : exec (.br n cond target) s =
    s.row (below 64 n && s.anvPowered n) fun s => s.anvRow n (.br cond 0 target) := rfl
theorem exec_jmp (n cond target : Nat) (s : State) : exec (.jmp n cond target) s =
    s.row (below 64 n && s.anvPowered n) fun s => s.anvRow n (.br cond 1 target) := rfl
theorem exec_call (n cond target : Nat) (s : State) : exec (.call n cond target) s =
    s.row (below 64 n && s.anvPowered n) fun s => s.anvRow n (.br cond 2 target) := rfl
theorem exec_ret (n cond : Nat) (s : State) : exec (.ret n cond) s =
    s.row (below 64 n && s.anvPowered n) fun s => s.anvRow n (.br cond 3 0) := rfl
theorem exec_loop (n lc : Nat) (src : Bool) (stop count : Nat) (s : State) : exec (.loop n lc src stop count) s =
    s.row (below 64 n && s.anvPowered n) fun s => s.anvRow n (.loop lc src stop count) := rfl
theorem exec_loopExit (n : Nat) (s : State) : exec (.loopExit n) s = s.row (below 64 n && s.anvPowered n) fun s => s.anvLoopExit n := rfl
theorem exec_div (n d a b : Nat) (s : State) : exec (.div n d a b) s =
    s.row (below 64 n && s.anvPowered n) fun s => s.anvRow n (.cop 0 d a b) := rfl
theorem exec_sqrt (n d a : Nat) (s : State) : exec (.sqrt n d a) s =
    s.row (below 64 n && s.anvPowered n) fun s => s.anvRow n (.cop 1 d a 0) := rfl
theorem exec_rsqrt (n d a : Nat) (s : State) : exec (.rsqrt n d a) s =
    s.row (below 64 n && s.anvPowered n) fun s => s.anvRow n (.cop 2 d a 0) := rfl
theorem exec_log2 (n d a : Nat) (s : State) : exec (.log2 n d a) s =
    s.row (below 64 n && s.anvPowered n) fun s => s.anvRow n (.cop 3 d a 0) := rfl
theorem exec_exp2 (n d a : Nat) (s : State) : exec (.exp2 n d a) s =
    s.row (below 64 n && s.anvPowered n) fun s => s.anvRow n (.cop 4 d a 0) := rfl
theorem exec_mul32 (n d a b : Nat) (s : State) : exec (.mul32 n d a b) s =
    s.row (below 64 n && s.anvPowered n) fun s => s.anvRow n (.cop 5 d a b) := rfl
theorem exec_coprocResult (n : Nat) (s : State) : exec (.coprocResult n) s =
    s.row (below 64 n && s.anvPowered n) fun s => s.copResultDone n := rfl
theorem exec_crd (n d a : Nat) (s : State) : exec (.crd n d a) s =
    s.row (below 64 n && s.anvPowered n) fun s => s.anvRow n (.bus false d a) := rfl
theorem exec_cwr (n d a : Nat) (s : State) : exec (.cwr n d a) s =
    s.row (below 64 n && s.anvPowered n) fun s => s.anvRow n (.bus true d a) := rfl
theorem exec_nop (n : Nat) (s : State) : exec (.nop n) s = s.row (below 64 n && s.anvPowered n) fun s => s.anvRow n (.sys 0) := rfl
theorem exec_rte (n : Nat) (s : State) : exec (.rte n) s = s.row (below 64 n && s.anvPowered n) fun s => s.anvRow n (.sys 2) := rfl
theorem exec_brk (n : Nat) (s : State) : exec (.brk n) s = s.row (below 64 n && s.anvPowered n) fun s => s.anvRow n (.sys 3) := rfl
theorem exec_exceptionEntry (n : Nat) (s : State) : exec (.exceptionEntry n) s =
    s.row (below 64 n && s.anvPowered n) fun s => s.anvEntry n := rfl
theorem exec_breakpointMatch (n : Nat) (s : State) : exec (.breakpointMatch n) s =
    s.row (below 64 n && s.anvPowered n) fun s => s.anvMatch n := rfl
theorem exec_dbgRdataAccess (m : Master) (wr : Bool) (v : Word) (s : State) : exec (.dbgRdataAccess m wr v) s =
    s.row (m.ok && s.reaches m 0x0F) fun s => if wr then s.writeKey m Regs.DBG_RDATA v else s.readKey m Regs.DBG_RDATA := rfl
theorem exec_stageCmdStart (m : Master) (c : Nat) (s : State) : exec (.stageCmdStart m c) s =
    s.row (m.ok && below 16 c && s.reaches m (chPage c)) fun s => s.writeKey m (Regs.CH_CMD c) 1 := rfl
theorem exec_stageCmdStop (m : Master) (c : Nat) (s : State) : exec (.stageCmdStop m c) s =
    s.row (m.ok && below 16 c && s.reaches m (chPage c)) fun s => s.writeKey m (Regs.CH_CMD c) 2 := rfl
theorem exec_stageCmdClear (m : Master) (c : Nat) (s : State) : exec (.stageCmdClear m c) s =
    s.row (m.ok && below 16 c && s.reaches m (chPage c)) fun s => s.writeKey m (Regs.CH_CMD c) 4 := rfl
theorem exec_stageDisable (m : Master) (c : Nat) (s : State) : exec (.stageDisable m c) s =
    s.row (m.ok && below 16 c && s.reaches m (chPage c)) fun s => s.pgWrite m (chPage c) 0 1 := rfl
theorem exec_inrushEnd (c outP outN pvdd : Nat) (s : State) : exec (.inrushEnd c outP outN pvdd) s =
    s.row (below 16 c && s.awake) fun s => s.inrushEnd c (endCheck outP outN pvdd) := rfl
theorem exec_settleEnd (c : Nat) (s : State) : exec (.settleEnd c) s = s.row (below 16 c && s.awake) fun s => s.settleDone c := rfl
theorem exec_stopDischargeEnd (c : Nat) (s : State) : exec (.stopDischargeEnd c) s =
    s.row (below 16 c && s.awake) fun s => s.lowered c := rfl
theorem exec_stageTrip (c : Nat) (s : State) : exec (.stageTrip c) s = s.row (below 16 c && s.awake) fun s => s.stageTrip c := rfl
theorem exec_retryTimer (c : Nat) (s : State) : exec (.retryTimer c) s = s.row (below 16 c && s.awake) fun s => s.retryChan c := rfl
theorem exec_retryCountReset (c : Nat) (s : State) : exec (.retryCountReset c) s =
    s.row (below 16 c && s.awake) fun s => s.retriesReset c := rfl
theorem exec_xstFaultInput (x : Nat) (s : State) : exec (.xstFaultInput x) s =
    s.row (below 8 x && s.awake) fun s => s.xstInput (8 + x) := rfl
theorem exec_xstFaultRelease (x : Nat) (s : State) : exec (.xstFaultRelease x) s =
    s.row (below 8 x && s.awake) fun s => s.xstRelease (8 + x) := rfl
theorem exec_pvddUndervoltage (dieA : Bool) (s : State) : exec (.pvddUndervoltage dieA) s =
    s.row s.awake fun s => s.dieCond dieA 0x25 := rfl
theorem exec_pvddOvervoltage (dieA : Bool) (s : State) : exec (.pvddOvervoltage dieA) s = s.row s.awake fun s => s.dieCond dieA 0x26 := rfl
theorem exec_dieShutdown (dieA : Bool) (s : State) : exec (.dieShutdown dieA) s = s.row s.awake fun s => s.dieCond dieA 0x27 := rfl
theorem exec_dieConditionEnd (dieA : Bool) (code : Nat) (s : State) : exec (.dieConditionEnd dieA code) s =
    s.row (dieCode code && s.awake) fun s => s.dieCondEnd dieA code := rfl
theorem exec_dieOtw (dieA : Bool) (s : State) : exec (.dieOtw dieA) s = s.row s.awake fun s => s.dieWarn dieA true := rfl
theorem exec_dieLinkLoss (dieA : Bool) (s : State) : exec (.dieLinkLoss dieA) s = s.row s.awake fun s => s.dieLost dieA := rfl
theorem exec_pvddLow (mv : Nat) (s : State) : exec (.pvddLow mv) s = s.row s.awake fun s => s.pvddLow mv := rfl
theorem exec_pvddRecovered (mv : Nat) (s : State) : exec (.pvddRecovered mv) s = s.row s.awake fun s => s.pvddRecovered mv := rfl
theorem exec_pauseTimeout (c : Nat) (s : State) : exec (.pauseTimeout c) s = s.row (below 16 c && s.awake) fun s => s.pauseTimeout c := rfl
theorem exec_trackerUpdate (s : State) : exec .trackerUpdate s = s.row s.awake fun s => s.trkUpdate := rfl
theorem exec_trackerMessageDone (ack : Bool) (s : State) : exec (.trackerMessageDone ack) s =
    s.row s.awake fun s => s.trkMessageDone ack := rfl
theorem exec_senseBilletBegin (conv t : Nat) (codes : List Int) (s : State) : exec (.senseBilletBegin conv t codes) s =
    s.row (below 32 conv && s.awake) fun s => s.senseBillet conv t codes := rfl
theorem exec_tongsStart (m : Master) (s : State) : exec (.tongsStart m) s =
    s.row (m.ok && s.reaches m 0x72) fun s => s.pgWrite m 0x72 1 0 := rfl
theorem exec_tongsDeadline (s : State) : exec .tongsDeadline s = s.row s.awake fun s => s.tongsDeadline := rfl
theorem exec_diagRun (m : Master) (channels : Nat) (s : State) : exec (.diagRun m channels) s =
    s.row (m.ok && below 65536 channels && s.reaches m 0x73) fun s => s.writeKey m Regs.DIAG_RUN (Word.of channels) := rfl
theorem exec_diagDisable (m : Master) (s : State) : exec (.diagDisable m) s =
    s.row (m.ok && s.reaches m 0x73) fun s => s.pgWrite m 0x73 0 1 := rfl
theorem exec_ringTestOvercurrent (c : Nat) (s : State) : exec (.ringTestOvercurrent c) s =
    s.row (below 16 c && s.awake) fun s => s.overcurrent c := rfl
theorem exec_ringAbort (c code : Nat) (s : State) : exec (.ringAbort c code) s =
    s.row (below 16 c && ringCode code && s.awake) fun s => s.ringEvent c code := rfl
theorem exec_micPathEnable (m : Master) (k : Nat) (hq lp : Bool) (s : State) : exec (.micPathEnable m k hq lp) s =
    s.row (m.ok && below 16 k && s.reaches m 0x24) fun s => s.writeKey m (Regs.MIC_CFG k) (s.micEnableWord k hq lp) := rfl
theorem exec_biasOc (n : Nat) (s : State) : exec (.biasOc n) s = s.row (below 2 n && s.powered) fun s => s.biasOc n := rfl
theorem exec_wakeDetectorWindow (level : Int) (s : State) : exec (.wakeDetectorWindow level) s =
    s.row s.powered fun s => s.detectorWindow level := rfl
theorem exec_wakeFire (m : Master) (score : Nat) (s : State) : exec (.wakeFire m score) s =
    s.row (m.ok && below 256 score && s.reaches m 0x25) fun s => s.writeKey m Regs.WAKE_FIRE (Word.of (score * 256 + 1)) := rfl
theorem exec_acousticWake (s : State) : exec .acousticWake s = s.row s.powered fun s => s.detect := rfl
theorem exec_historyDrainBillet (s : State) : exec .historyDrainBillet s = s.row s.awake fun s => s.histDrain := rfl
theorem exec_privacyMuteAssert (s : State) : exec .privacyMuteAssert s = s.row true fun s => s.muteAssert := rfl
theorem exec_privacyMuteRelease (s : State) : exec .privacyMuteRelease s = s.row true fun s => s.muteRelease := rfl
theorem exec_muteLedCheck (ua mv : Nat) (s : State) : exec (.muteLedCheck ua mv) s = s.row s.powered fun s => s.ledCheck ua mv := rfl
theorem exec_linStart (m : Master) (s : State) : exec (.linStart m) s =
    s.row (m.ok && s.reaches m 0x26) fun s => s.writeKey m Regs.LIN_CMD 1 := rfl
theorem exec_linStop (m : Master) (s : State) : exec (.linStop m) s =
    s.row (m.ok && s.reaches m 0x26) fun s => s.writeKey m Regs.LIN_CMD 2 := rfl
theorem exec_linDisable (m : Master) (srst : Bool) (s : State) : exec (.linDisable m srst) s =
    s.row (m.ok && s.reaches m 0x26) fun s => s.pgWrite m 0x26 (if srst then 4 else 0) (if srst then 0 else 1) := rfl
theorem exec_hpoStart (m : Master) (s : State) : exec (.hpoStart m) s =
    s.row (m.ok && s.reaches m 0x27) fun s => s.writeKey m Regs.HPO_CMD 1 := rfl
theorem exec_hpoStop (m : Master) (s : State) : exec (.hpoStop m) s =
    s.row (m.ok && s.reaches m 0x27) fun s => s.writeKey m Regs.HPO_CMD 2 := rfl
theorem exec_hpoRailsReady (s : State) : exec .hpoRailsReady s = s.row s.awake fun s => s.hpoRails := rfl
theorem exec_hpoClampRelease (s : State) : exec .hpoClampRelease s = s.row s.awake fun s => s.hpoClamp := rfl
theorem exec_hpoStopped (s : State) : exec .hpoStopped s = s.row s.awake fun s => s.hpoStopped := rfl
theorem exec_hpoSc (s : State) : exec .hpoSc s = s.row s.awake fun s => s.hpoOvercurrent := rfl
theorem exec_hpoDisable (m : Master) (s : State) : exec (.hpoDisable m) s =
    s.row (m.ok && s.reaches m 0x27) fun s => s.pgWrite m 0x27 0 1 := rfl
theorem exec_jackChange (lin level : Bool) (s : State) : exec (.jackChange lin level) s =
    s.row s.powered fun s => s.jackChange lin level := rfl
theorem exec_auxStart (m : Master) (n : Nat) (s : State) : exec (.auxStart m n) s =
    s.row (m.ok && below 2 n && s.reaches m (0x74 + n)) fun s => s.writeKey m (Regs.AUX_CTRL n) (s.w (Regs.AUX_CTRL n) ||| 2) := rfl
theorem exec_auxStop (m : Master) (n : Nat) (s : State) : exec (.auxStop m n) s =
    s.row (m.ok && below 2 n && s.reaches m (0x74 + n)) fun s => s.writeKey m (Regs.AUX_CTRL n) (s.w (Regs.AUX_CTRL n) ||| 4) := rfl
theorem exec_refEnWrite (m : Master) (n : Nat) (on : Bool) (s : State) : exec (.refEnWrite m n on) s =
    s.row (m.ok && below 2 n && s.reaches m (0x74 + n)) fun s => s.writeKey m (Regs.AUX_CTRL n) (b2w on) := rfl
theorem exec_refRdy (n : Nat) (s : State) : exec (.refRdy n) s = s.row (below 2 n && s.awake) fun s => s.refReady n := rfl
theorem exec_auxScanStart (n : Nat) (s : State) : exec (.auxScanStart n) s = s.row (below 2 n && s.awake) fun s => s.auxScanStart n := rfl
theorem exec_auxInjTrigger (n : Nat) (s : State) : exec (.auxInjTrigger n) s = s.row (below 2 n && s.awake) fun s => s.auxTrigger n := rfl
theorem exec_auxConversion (n code : Nat) (ovr : Bool) (s : State) : exec (.auxConversion n code ovr) s =
    s.row (below 2 n && below 4096 code && s.awake) fun s => s.auxConversion n code ovr := rfl
theorem exec_plausAction (code0 : Nat) (ovr0 : Bool) (code1 : Nat) (ovr1 : Bool) (s : State) :
    exec (.plausAction code0 ovr0 code1 ovr1) s =
      s.row (below 4096 code0 && below 4096 code1 && s.awake) fun s => s.auxPlaus code0 ovr0 code1 ovr1 := rfl
theorem exec_key (s : State) : exec .key s = s.row s.awake fun s => s.keyRow := rfl
theorem exec_setPtr (bytes : List Byte) (s : State) : exec (.setPtr bytes) s = s.row true fun s => s.twtSetPtr bytes := rfl
theorem exec_writeWord (bytes : List Byte) (s : State) : exec (.writeWord bytes) s = s.row true fun s => s.twtWriteWord bytes := rfl
theorem exec_writeBlock (count : Nat) (bytes : List Byte) (s : State) : exec (.writeBlock count bytes) s =
    s.row (below 256 count) fun s => s.twtWriteBlock count bytes := rfl
theorem exec_readWord (s : State) : exec .readWord s = s.row true fun s => s.twtReadWord := rfl
theorem exec_readBlock (sent : Nat) (s : State) : exec (.readBlock sent) s = s.row (below 64 sent) fun s => s.twtReadBlock sent := rfl
theorem exec_weldOp (s : State) : exec .weldOp s = s.row true fun s => s.twtWeldOp := rfl
theorem exec_status (s : State) : exec .status s = s.row true fun s => s.twtStatus := rfl
theorem exec_notifyCfg (s : State) : exec .notifyCfg s = s.row true fun s => s.twtNotifyCfg := rfl
theorem exec_pecErr (s : State) : exec .pecErr s = s.row true fun s => s.twtPecErr := rfl
theorem exec_twtStartCondition (s : State) : exec .twtStartCondition s = s.row true fun s => s.twtStart := rfl
theorem exec_twtTimeout (sda : Bool) (s : State) : exec (.twtTimeout sda) s = s.row true fun s => s.twtTimeout sda := rfl
theorem exec_notifySend (res : Nat) (s : State) : exec (.notifySend res) s = s.row (below 3 res && s.awake) fun s => s.notifySend res := rfl
theorem exec_twcStart (m : Master) (n data : Nat) (s : State) : exec (.twcStart m n data) s =
    s.row (m.ok && below 3 n && below 256 data && s.reaches m (0x77 + n)) fun s => s.writeKey m (Regs.TWC_OP n) (Word.of data) := rfl
theorem exec_twcWrite (m : Master) (n : Nat) (pec : Bool) (data : Nat) (s : State) : exec (.twcWrite m n pec data) s =
    s.row (m.ok && below 3 n && below 256 data && s.reaches m (0x77 + n)) fun s =>
        s.writeKey m (Regs.TWC_OP n) (Word.of (1024 + b2n pec * 512 + data)) := rfl
theorem exec_twcRead (m : Master) (n : Nat) (pec last : Bool) (s : State) : exec (.twcRead m n pec last) s =
    s.row (m.ok && below 3 n && s.reaches m (0x77 + n)) fun s =>
        s.writeKey m (Regs.TWC_OP n) (Word.of (2048 + b2n pec * 512 + b2n last * 256)) := rfl
theorem exec_twcStop (m : Master) (n : Nat) (s : State) : exec (.twcStop m n) s =
    s.row (m.ok && below 3 n && s.reaches m (0x77 + n)) fun s => s.writeKey m (Regs.TWC_OP n) 3072 := rfl
theorem exec_twcOperationDone (n res byte : Nat) (recov : Bool) (s : State) : exec (.twcOperationDone n res byte recov) s =
    s.row (below 3 n && below 4 res && below 256 byte && s.awake) fun s => s.twcDone n res byte recov := rfl
theorem exec_twcRxdRead (m : Master) (n : Nat) (s : State) : exec (.twcRxdRead m n) s =
    s.row (m.ok && below 3 n && s.reaches m (0x77 + n)) fun s => s.readKey m (Regs.TWC_RXD n) := rfl
theorem exec_twcAbandoned (n : Nat) (s : State) : exec (.twcAbandoned n) s = s.row (below 3 n && s.awake) fun s => s.twcAbandon n := rfl
theorem exec_twcTimeout (s : State) : exec .twcTimeout s = s.row s.awake fun s => s.twcTimeout := rfl
theorem exec_write (addr : Nat) (bytes : List Byte) (crcOk : Bool) (s : State) : exec (.write addr bytes crcOk) s =
    s.row (below (2 ^ 24) addr) fun s => s.spitWrite false addr bytes crcOk := rfl
theorem exec_read (addr words : Nat) (s : State) : exec (.read addr words) s =
    s.row (below (2 ^ 24) addr) fun s => s.spitRead false addr words := rfl
theorem exec_qwrite (addr : Nat) (bytes : List Byte) (crcOk : Bool) (s : State) : exec (.qwrite addr bytes crcOk) s =
    s.row (below (2 ^ 24) addr) fun s => s.spitWrite true addr bytes crcOk := rfl
theorem exec_qread (addr words : Nat) (s : State) : exec (.qread addr words) s =
    s.row (below (2 ^ 24) addr) fun s => s.spitRead true addr words := rfl
theorem exec_swrite (addr : Nat) (bytes : List Byte) (crcOk : Bool) (s : State) : exec (.swrite addr bytes crcOk) s =
    s.row (below (2 ^ 24) addr) fun s => s.spitStockWrite false addr bytes crcOk := rfl
theorem exec_sread (addr words : Nat) (s : State) : exec (.sread addr words) s =
    s.row (below (2 ^ 24) addr) fun s => s.spitStockRead false addr words := rfl
theorem exec_qswrite (addr : Nat) (bytes : List Byte) (crcOk : Bool) (s : State) : exec (.qswrite addr bytes crcOk) s =
    s.row (below (2 ^ 24) addr) fun s => s.spitStockWrite true addr bytes crcOk := rfl
theorem exec_qsread (addr words : Nat) (s : State) : exec (.qsread addr words) s =
    s.row (below (2 ^ 24) addr) fun s => s.spitStockRead true addr words := rfl
theorem exec_spitStatus (s : State) : exec .spitStatus s = s.row true fun s => s.spitStatusFrame := rfl
theorem exec_qspiXfer (m : Master) (byte : Byte) (qin : Bool) (s : State) : exec (.qspiXfer m byte qin) s =
    s.row (m.ok && s.reaches m 0x7B) fun s => s.writeKey m Regs.QSPI_XFER (Word.of (b2n qin * 512 + byte.toNat)) := rfl
theorem exec_linkTrain (s : State) : exec .linkTrain s = s.row s.awake fun s => s.idleSets := rfl
theorem exec_ping (rtt : Nat) (s : State) : exec (.ping rtt) s = s.row s.awake fun s => s.ping rtt := rfl
theorem exec_linkUp (s : State) : exec .linkUp s = s.row s.awake fun s => s.linkUpLead := rfl
theorem exec_linkLossOfLock (s : State) : exec .linkLossOfLock s = s.row (s.awake && (s.link != 0)) fun s => s.linkTrain := rfl
theorem exec_superframeSend (s : State) : exec .superframeSend s = s.row s.awake fun s => s.superframeSend := rfl
theorem exec_superframeReceive (f : Superframe) (e : Int) (s : State) : exec (.superframeReceive f e) s =
    s.row s.awake fun s => s.superframe f e := rfl
theorem exec_superframeMiss (s : State) : exec .superframeMiss s = s.row s.awake fun s => s.superframeMiss := rfl
theorem exec_prepare (seq target id : Nat) (s : State) : exec (.prepare seq target id) s =
    s.row (below 65536 seq && below 16 id && s.linked true) fun s => s.takePrepare seq target id := rfl
theorem exec_vote (seq : Nat) (yes : Bool) (s : State) : exec (.vote seq yes) s =
    s.row (below 65536 seq && s.linked true) fun s => s.takeVote seq yes := rfl
theorem exec_abort (seq : Nat) (s : State) : exec (.abort seq) s = s.row (below 65536 seq && s.linked true) fun s => s.takeAbort seq := rfl
theorem exec_regRead (seq addr : Nat) (s : State) : exec (.regRead seq addr) s =
    s.row (below 65536 seq && below (2 ^ 18) addr && s.linked true) fun s => s.regRead seq addr := rfl
theorem exec_regWrite (seq addr : Nat) (v : Word) (s : State) : exec (.regWrite seq addr v) s =
    s.row (below 65536 seq && below (2 ^ 18) addr && s.linked true) fun s => s.regWriteMsg seq addr v := rfl
theorem exec_result (seq code : Nat) (data : Word) (s : State) : exec (.result seq code data) s =
    s.row (below 65536 seq && below 256 code && s.linked true) fun s => s.takeResult seq code data := rfl
theorem exec_train (d : Nat) (s : State) : exec (.train d) s = s.row (below 256 d && s.linked false) fun s => s.takeTrain d := rfl
theorem exec_hello (mark : List Word) (identity : Nat) (rate96 adopt : Bool) (s : State) : exec (.hello mark identity rate96 adopt) s =
    s.row (below (2 ^ 64) identity && s.linked false) fun s => s.takeHello mark identity rate96 adopt := rfl
theorem exec_proof (identity : Nat) (good : Bool) (s : State) : exec (.proof identity good) s =
    s.row (below (2 ^ 64) identity && s.linked false) fun s => s.takeProof identity good := rfl
theorem exec_accept (epoch : Nat) (good : Bool) (s : State) : exec (.accept epoch good) s =
    s.row (below 65536 epoch && s.linked false) fun s => s.takeAccept epoch good := rfl
theorem exec_refuse (reason : Nat) (s : State) : exec (.refuse reason) s =
    s.row (below 16 reason && s.linked false) fun s => s.takeRefuse reason := rfl
theorem exec_adoptEnd (digest : Nat) (s : State) : exec (.adoptEnd digest) s =
    s.row (below (2 ^ 64) digest && s.linked true) fun s => s.takeAdoptEnd digest := rfl
theorem exec_adoptionWeld (s : State) : exec .adoptionWeld s = s.row s.awake fun s => s.adoptionWeld := rfl
theorem exec_detachMessage (seq target : Nat) (s : State) : exec (.detachMessage seq target) s =
    s.row (below 65536 seq && s.linked true) fun s => s.takeDetach seq target := rfl
theorem exec_detachAck (s : State) : exec .detachAck s = s.row (s.linked true) fun s => s.detachAcked := rfl
theorem exec_attach (m : Master) (adopt : Bool) (s : State) : exec (.attach m adopt) s =
    s.row (m.ok && s.reaches m 0x7D) fun s => s.writeKey m Regs.PAIR_CMD (Word.of (1 + 4 * b2n adopt)) := rfl
theorem exec_detach (m : Master) (s : State) : exec (.detach m) s =
    s.row (m.ok && s.reaches m 0x7D) fun s => s.writeKey m Regs.PAIR_CMD 2 := rfl
theorem exec_attachTimeout (s : State) : exec .attachTimeout s = s.row s.awake fun s => s.attachTimeout := rfl
theorem exec_mirrorStale (s : State) : exec .mirrorStale s = s.row s.awake fun s => s.mirrorStale := rfl
theorem exec_rcmd (m : Master) (wr : Bool) (addr : Nat) (s : State) : exec (.rcmd m wr addr) s =
    s.row (m.ok && below (2 ^ 18) addr && s.reaches m 0x7D) fun s => s.writeKey m Regs.PAIR_RCMD (Word.of (b2n wr * 2 ^ 31 + addr)) := rfl
theorem exec_authNew (m : Master) (s : State) : exec (.authNew m) s =
    s.row (m.ok && s.reaches m 0x0A) fun s => s.writeKey m Regs.SEC_AUTH 0x80000000 := rfl
theorem exec_authEnd (m : Master) (s : State) : exec (.authEnd m) s =
    s.row (m.ok && s.reaches m 0x0A) fun s => s.writeKey m Regs.SEC_AUTH 0x40000000 := rfl
theorem exec_authOwnerSession (m : Master) (s : State) : exec (.authOwnerSession m) s =
    s.row (m.ok && s.reaches m 0x0A) fun s => s.writeKey m Regs.SEC_AUTH 0x01000000 := rfl
theorem exec_authTestVendor (m : Master) (s : State) : exec (.authTestVendor m) s =
    s.row (m.ok && s.reaches m 0x0A) fun s => s.writeKey m Regs.SEC_AUTH 0x02000000 := rfl
theorem exec_authTestConsent (m : Master) (s : State) : exec (.authTestConsent m) s =
    s.row (m.ok && s.reaches m 0x0A) fun s => s.writeKey m Regs.SEC_AUTH 0x03000000 := rfl
theorem exec_authCheckDone (m : Master) (good : Bool) (s : State) : exec (.authCheckDone m good) s =
    s.row (m.ok && s.awake) fun s => s.authDone m good := rfl
theorem exec_lcToOwned (m : Master) (s : State) : exec (.lcToOwned m) s =
    s.row (m.ok && s.reaches m 0x0A) fun s => s.writeKey m Regs.SEC_LCREQ 0x4C430001 := rfl
theorem exec_lcToField (m : Master) (s : State) : exec (.lcToField m) s =
    s.row (m.ok && s.reaches m 0x0A) fun s => s.writeKey m Regs.SEC_LCREQ 0x4C430002 := rfl
theorem exec_lcToReturned (m : Master) (s : State) : exec (.lcToReturned m) s =
    s.row (m.ok && s.reaches m 0x0A) fun s => s.writeKey m Regs.SEC_LCREQ 0x4C430003 := rfl
theorem exec_otpProg (m : Master) (v : Word) (s : State) : exec (.otpProg m v) s =
    s.row (m.ok && s.reaches m 0x0B) fun s => s.writeKey m Regs.OTP_PROG v := rfl
theorem exec_otpProgDone (good : Bool) (s : State) : exec (.otpProgDone good) s = s.row s.awake fun s => s.otpProgDone good := rfl
theorem exec_rbAdvance (m : Master) (v : Nat) (s : State) : exec (.rbAdvance m v) s =
    s.row (m.ok && below 64 v && s.reaches m 0x0A) fun s => s.writeKey m Regs.SEC_RB (Word.of v) := rfl
theorem exec_imgLoad (m : Master) (s : State) : exec (.imgLoad m) s =
    s.row (m.ok && s.reaches m 0x0C) fun s => s.writeKey m Regs.IMG_CTRL 1 := rfl
theorem exec_imgVerifyDone (image : Image) (s : State) : exec (.imgVerifyDone image) s = s.row s.awake fun s => s.imageChecked image := rfl
theorem exec_imgReglistWeld (s : State) : exec .imgReglistWeld s = s.row s.awake fun s => s.imageList := rfl
theorem exec_imgLoadDone (s : State) : exec .imgLoadDone s = s.row s.awake fun s => s.imageFinish := rfl
theorem exec_faultClear (m : Master) (code src : Nat) (s : State) : exec (.faultClear m code src) s =
    s.row (m.ok && below 256 code && below 256 src && s.reaches m 0x0D) fun s =>
        s.writeKey m Regs.FAULT_CLEAR (Word.of (src * 256 + code)) := rfl
theorem exec_quench (s : State) : exec .quench s = s.row s.awake fun s => s.quench := rfl
theorem exec_quenchComplete (s : State) : exec .quenchComplete s = s.row s.awake fun s => s.quenchComplete := rfl
theorem exec_coincident (code src : Nat) (s : State) : exec (.coincident code src) s =
    s.row (below 256 code && below 256 src && s.awake) fun s => s.meetFault code src := rfl
theorem exec_queuedRecoveryStart (s : State) : exec .queuedRecoveryStart s = s.row s.awake fun s => s.queuedRecovery := rfl
theorem exec_coreOtw (s : State) : exec .coreOtw s = s.row s.awake fun s => s.coreWarn true := rfl
theorem exec_coreOts (s : State) : exec .coreOts s = s.row s.awake fun s => s.raiseDevice 0x07 0x00 false := rfl
theorem exec_loopGo (m : Master) (iface inst depth : Nat) (s : State) : exec (.loopGo m iface inst depth) s =
    s.row (m.ok && below 256 iface && below 16 inst && below 4 depth && s.reaches m 0x0E) fun s =>
        s.writeKey m Regs.TEST_LOOP (Word.of (2 ^ 31 + depth * 2 ^ 24 + inst * 2 ^ 16 + iface * 256)) := rfl
theorem exec_loopStop (m : Master) (s : State) : exec (.loopStop m) s =
    s.row (m.ok && s.reaches m 0x0E) fun s => s.writeKey m Regs.TEST_LOOP (s.w Regs.TEST_LOOP ||| 0x40000000) := rfl
theorem exec_loopLock (s : State) : exec .loopLock s = s.row s.awake fun s => s.loopLock := rfl
theorem exec_noLock (s : State) : exec .noLock s = s.row s.awake fun s => s.loopNoLock := rfl
theorem exec_loopAbort (s : State) : exec .loopAbort s = s.row s.awake fun s => s.loopAbort := rfl
theorem exec_injEnable (m : Master) (s : State) : exec (.injEnable m) s =
    s.row (m.ok && s.reaches m 0x0E) fun s => s.writeKey m Regs.TEST_INJ 0x80000000 := rfl
theorem exec_injLedger (m : Master) (s : State) : exec (.injLedger m) s =
    s.row (m.ok && s.reaches m 0x0E) fun s => s.writeKey m Regs.TEST_INJ 1 := rfl
theorem exec_injStockCe (m : Master) (s : State) : exec (.injStockCe m) s =
    s.row (m.ok && s.reaches m 0x0E) fun s => s.writeKey m Regs.TEST_INJ 2 := rfl
theorem exec_injStockUe (m : Master) (s : State) : exec (.injStockUe m) s =
    s.row (m.ok && s.reaches m 0x0E) fun s => s.writeKey m Regs.TEST_INJ 4 := rfl
theorem exec_injTongsMis (m : Master) (s : State) : exec (.injTongsMis m) s =
    s.row (m.ok && s.reaches m 0x0E) fun s => s.writeKey m Regs.TEST_INJ 8 := rfl
theorem exec_injStrike (m : Master) (s : State) : exec (.injStrike m) s =
    s.row (m.ok && s.reaches m 0x0E) fun s => s.writeKey m Regs.TEST_INJ 16 := rfl
theorem exec_extest (s : State) : exec .extest s = s.row s.powered fun s => s.jtagSelect 0 := rfl
theorem exec_samplePreload (bound : Nat) (s : State) : exec (.samplePreload bound) s = s.row s.powered fun s => s.jtagPreload bound := rfl
theorem exec_idcode (s : State) : exec .idcode s = s.row s.powered fun s => s.jtagSelect 1 := rfl
theorem exec_highz (s : State) : exec .highz s = s.row s.powered fun s => s.jtagSelect 3 := rfl
theorem exec_bypass (s : State) : exec .bypass s = s.row s.powered fun s => s.jtagSelect 31 := rfl
theorem exec_auth (s : State) : exec .auth s = s.row s.powered fun s => s.jtagSelect 16 := rfl
theorem exec_ctrl (s : State) : exec .ctrl s = s.row s.powered fun s => s.jtagSelect 17 := rfl
theorem exec_jtagAccess (wr : Bool) (addr : Nat) (v : Word) (s : State) : exec (.jtagAccess wr addr v) s =
    s.row (below (2 ^ 18) addr) fun s => s.jtagAccess wr addr v := rfl
theorem exec_keyRepeat (s : State) : exec .keyRepeat s = s.row s.awake fun s => s.keyRepeat := rfl
theorem exec_sourceChangeStep (s : State) : exec .sourceChangeStep s = s.row s.awake fun s => s.changeStep := rfl
theorem exec_drouteRelease (m : Master) (s : State) : exec (.drouteRelease m) s =
    s.row (m.ok && s.reaches m 0x00) fun s => s.writeKey m Regs.SYS_DROUTE 1 := rfl
theorem exec_vsysUvRecovery (s : State) : exec .vsysUvRecovery s = s.row s.powered fun s => s.vsysRecover := rfl
theorem exec_fastSourceRestored (s : State) : exec .fastSourceRestored s = s.row s.awake fun s => s.fastRestored := rfl
theorem exec_dieLinkRelock (dieA : Bool) (s : State) : exec (.dieLinkRelock dieA) s = s.row s.awake fun s => s.dieRelock dieA := rfl
theorem exec_coreOtwEnd (s : State) : exec .coreOtwEnd s = s.row s.awake fun s => s.coreWarn false := rfl
theorem exec_dieOtwEnd (dieA : Bool) (s : State) : exec (.dieOtwEnd dieA) s = s.row s.awake fun s => s.dieWarn dieA false := rfl
theorem exec_mbiasOcEnd (n : Nat) (s : State) : exec (.mbiasOcEnd n) s = s.row (below 2 n && s.powered) fun s => s.biasOcEnd n := rfl
theorem exec_vioLoss (s : State) : exec .vioLoss s = s.row true fun s => s.vio true := rfl
theorem exec_vioReturn (s : State) : exec .vioReturn s = s.row true fun s => s.vio false := rfl
theorem exec_qspiXferDone (byte : Byte) (s : State) : exec (.qspiXferDone byte) s = s.row s.awake fun s => s.qspiDone byte := rfl

end Sys2Proof.Machine
end

