-- ==== Sys2Proof/Tests/Slice0.lean ====
section
/-!
SUPPORT. Tests of the model: ill-formed commands that the check refuses, states that meet the hypotheses of the statements, words of the
anvil decoder written out bit by bit, and single steps whose results the specification gives.
-/

section SmallTests

set_option Elab.async false

open Sys2Proof Sys2Proof.Machine

/-! ### Small states -/

/-- The machine after reset. -/
def atReset : State := State.reset
/-- Anvil 0 runs. -/
def running : State := atReset.setAnvState 0 anRun
/-- Anvil 0 is halted. -/
def halted : State := atReset.setAnvState 0 anHalted
/-- The device forges. -/
def forging : State := atReset.setF Regs.PWR_STAT 0 3 stForging
/-- A queue's descriptor word: DEPTH and RING. -/
def queueWord (depth : Nat) (ring : Bool) : Word := Word.of (b2n ring * 0x20000000 + depth)
/-- A queue between two units. -/
def aQueue (depth : Nat) (ring : Bool) (producer consumer : Nat) : Queue :=
  { cfg := queueWord depth ring, ends := Word.of (producer * 65536 + consumer) }
/-- The link is up and secure. -/
def linkedUp : State := { (atReset.setF Regs.VHK_STAT 0 4 2) with pair := { atReset.pair with secure := true } }
/-- A paired, acting lead with PAIR enabled, in pairing state `st`. -/
def leading (st : Nat) : State :=
  (((atReset.setF Regs.PAIR_STAT 30 2 1).setB Regs.PAIR_STAT 29 true).setB (Regs.PG_CTRL 0x7D) 0 true).setF Regs.PAIR_STAT 0 4 st
/-- TEST is unlocked and holds rights on its page. -/
def unlocked : State := (atReset.setB Regs.SEC_LC 15 true).setF (Regs.PG_ACCESS 0x0E) 4 2 3
/-- TWT has weld 1 OPEN and selected. -/
def welding : State := (atReset.weldOpen .twt .owner).2.setSelector .twt 1
/-- Anvil 0 runs with handle `h` holding billet 7. -/
def holding (h : Nat) (granted : Bool) : State :=
  running.setAnv 0 { running.anv 0 with handles := [(h, { st := .held, item := some (.billet 7), granted := granted })] }
/-- `s` with these queues. -/
def withQueues (s : State) (l : List (Nat × Queue)) : State := { s with stock := { s.stock with queues := l } }
/-- ASRC0 bound from a SAP slot to a mixer port. -/
def asrcBound : State :=
  (withQueues atReset [(1, aQueue 8 false 0x1010 0x1800), (2, aQueue 8 false 0x1800 0x0900)]).setW (Regs.ASRC_CH0_Q 0) 0x00010002
/-- AUX0 enabled with its ring. -/
def auxReady : State :=
  (((withQueues atReset [(3, aQueue 8 true 0x7400 0x7400)]).setB (Regs.PG_CTRL 0x74) 0 true).setF (Regs.AUX_BUF 0) 0 13 16).setF
    (Regs.AUX_BUF 0) 16 10 3
/-- AUX0 runs. -/
def auxRunning : State := auxReady.setB (Regs.AUX_STAT 0) 8 true
/-- The sense queues stand. -/
def sensing : State := withQueues atReset ((List.range 32).map fun i => (i, aQueue 8 false (unitId pgSns i) (unitId pgTongs i)))
/-- The ring test may run. -/
def ringDiag : State := (forging.setB (Regs.PG_CTRL 0x73) 0 true).setF Regs.TONGS_STAT 0 4 1
/-- Life cycle `st`, with TWT in an owner session. -/
def owned (st : Nat) : State := (atReset.setF Regs.SEC_LC 0 3 st).setB Regs.SEC_LC 4 true
/-- Mark and Ko are programmed. -/
def keyed : State := (atReset.setW (otpKey 0x048) 1).setW (otpKey 0x050) 1
/-- Fault 0x60 of SYS is active. -/
def faulted : State := { atReset with fault := { atReset.fault with active := [{ code := 0x60, src := 0 }] } }
/-- Stage 0, enabled, in state `st`, while the device forges. -/
def stageAt (st : Nat) : State := (forging.setB (Regs.PG_CTRL 0x60) 0 true).setChState 0 st
/-- Anvil 0 runs an OWNER image with queue 5 routed to its stream 0 and from its stream 32. -/
def routed : State :=
  let u := unitId (anvPage 0) 0
  { withQueues (running.setF (Regs.ANV_STAT 0) 30 2 0) [(5, { (aQueue 8 false 0 0) with waiting := [.billet 7] })] with
    patch := { running.patch with cache := [{ unit := u, entry := 0, gen := 0, lo := Word.of u, hi := 5 },
      { unit := u + 32, entry := 1, gen := 0, lo := Word.of ((u + 32) * 65536), hi := 5 }] } }
/-- Anvil 0 runs with a RING queue bound. -/
def ringed : State := (withQueues running [(6, aQueue 8 true (unitId (anvPage 0) 0) 0)]).setF (Regs.ANV_RING01 0) 0 10 6
/-- QSPI is enabled and the boot ROM has left it. -/
def flashReady : State := (atReset.setB (Regs.PG_CTRL 0x7B) 0 true).setB Regs.QSPI_STAT 1 false
/-- TWT queues its commands. -/
def queueing : State := atReset.setF (perKey .twt Regs.WELD_MODE) 0 2 1
/-- The headphone output runs. -/
def phones : State := (forging.setB (Regs.PG_CTRL 0x27) 0 true).setF Regs.HPO_STAT 0 4 2
/-- OTP word 0x060 selected by TWT. -/
def otpPicked : State := atReset.setF (perKey .twt Regs.OTP_SEL) 0 9 0x060

/-! ### Ill-formed commands: one for each check of `Instr.wf` -/

theorem test_ill_formed_1 : ([
    .registerWrite (.anvil 64) (Regs.GPIO_OUT / 256) (Regs.GPIO_OUT % 256 * 4) 1, .registerWrite .twt 256 (Regs.GPIO_OUT % 256 * 4) 1,
    .registerWrite .twt (Regs.GPIO_OUT / 256) 1024 1, .registerWrite .twt (Regs.GPIO_OUT / 256) 2 1, .wideLoRead (.anvil 64) 0x03 0x040,
    .wideLoRead .twt 256 0x040, .wideLoRead .twt 0x03 1024, .wideLoRead .twt 0x03 2, .srst (.anvil 64) 0, .srst .twt 256,
    .softResetDone 256, .pageEnable (.anvil 64) 0 false, .pageEnable .twt 256 false, .pgFreeze (.anvil 64) 0 false,
    .pgFreeze .twt 256 false, .irqPendClear (.anvil 64) 0 0, .irqPendClear .twt 256 0, .irqForce (.anvil 64) 0 0, .irqForce .twt 256 0,
    .pgAccessWrite (.anvil 64) 0 0, .pgAccessWrite .twt 256 0, .pgLockWrite (.anvil 64) 0 0, .pgLockWrite .twt 256 0,
    .clockDomainStart 210, .clockDomainStop 210, .porRelease 8 0 0, .porRelease 0 4 0, .porRelease 0 0 4,
    .sysReset (.anvil 64) 0x52530001, .bootSequence 4 false, .pwrModeRequest (.anvil 64) 3, .pwrModeRequest .twt 8, .wakeEvent ⟨10, false⟩,
    .hearthRateWrite (.anvil 64) 0, .clkSrcWrite (.anvil 64) 0, .captureEdge 16 false 0] :
    List Instr).all (fun i => !i.wf) = true := by decide +kernel

theorem test_ill_formed_2 : ([
    .capHiRead (.anvil 64) 0, .capHiRead .twt 4, .schedArm (.anvil 64), .schedCancel (.anvil 64) 0, .schedCancel .twt 4096,
    .portStart (.anvil 64) 0 0, .portStart .twt 4096 0, .portStop (.anvil 64) 0 0, .portStop .twt 4096 0, .stageStart (.anvil 64) 0 0,
    .stageStart .twt 4096 0, .stageMute (.anvil 64) 0 0, .stageMute .twt 4096 0, .stageUnmute (.anvil 64) 0 0, .stageUnmute .twt 4096 0,
    .actionWeldCommit (.anvil 64) 0 0, .actionWeldCommit .twt 4096 0, .auxInj (.anvil 64) 0 0, .auxInj .twt 4096 0,
    .gpioSet (.anvil 64) 0 0, .gpioSet .twt 4096 0, .gpioClr (.anvil 64) 0 0, .gpioClr .twt 4096 0, .actionIrq (.anvil 64) 0 0,
    .actionIrq .twt 4096 0, .actionTest (.anvil 64) 0 0, .actionTest .twt 4096 0, .tbAcquire (2 ^ 64), .creditGrant ⟨1024, false⟩,
    .billetPut 1024 0 0 0 0 0 0 [], .billetPut 0 65536 0 0 0 0 0 [], .billetTake 1024, .billetRelease ⟨65536, false⟩,
    .queueDescriptorWrite (.anvil 64) 0, .stockUe 65536 false, .scrubPass 0 ⟨[(65536, true)], false, false, false, 0⟩] :
    List Instr).all (fun i => !i.wf) = true := by decide +kernel

theorem test_ill_formed_3 : ([
    .stockSrst (.anvil 64), .stockRebuildDone [65536], .auditNow (.anvil 64), .weldOpen (.anvil 64), .weldSelect (.anvil 64) 0,
    .weldSelect .twt 16, .weldStageWrite (.anvil 64) 0x30 0x044 0, .weldStageWrite .twt 256 0x044 0, .weldStageWrite .twt 0x30 1024 0,
    .weldStageWrite .twt 0x30 2 0, .weldCommit (.anvil 64) 0, .weldAbort (.anvil 64) 0, .weldAbort .twt 16, .weldUndo (.anvil 64) 0,
    .weldUndo .twt 16, .cmdqEnqueue (.anvil 64) 0x30 0x044 0, .cmdqEnqueue .twt 256 0x044 0, .cmdqEnqueue .twt 0x30 1024 0,
    .cmdqEnqueue .twt 0x30 2 0, .startTx (.anvil 64) 0, .startTx .twt 6, .startRx (.anvil 64) 0, .startRx .twt 6, .stopTx (.anvil 64) 0,
    .stopTx .twt 6, .stopRx (.anvil 64) 0, .stopRx .twt 6, .sapRxFrame 6 0 0 [], .sapStall 6 false, .sapTxFrame 6 0 0 [],
    .slotResume 6 0, .slotResume 0 16, .spdifStart (.anvil 64), .spdifStop (.anvil 64), .spdifLock 16, .bypassPlace 1024] :
    List Instr).all (fun i => !i.wf) = true := by decide +kernel

theorem test_ill_formed_4 : ([
    .onchipCaptureSample (.line 2 0 0 0 0), .onchipCaptureSample (.hq 16 0 0 0), .onchipCaptureSample (.lp 16 0 0),
    .asrcEnable (.anvil 64) 0, .asrcEnable .twt 12, .asrcInputBillet 12 0 0 0, .asrcInputBillet 0 2 0 0, .asrcGridSample 12,
    .patchEntryWrite (.anvil 64) 0 0, .patchInval (.anvil 64) 0, .patchCopy (.anvil 64), .incComputeStroke 24, .finComputeStroke 17,
    .mixNodeCompute 64, .meterClear (.anvil 64) 0x30, .meterClear .twt 0x2F, .meterClear .twt 0x59, .go (.anvil 64) 0, .go .twt 64,
    .halt (.anvil 64) 0, .halt .twt 64, .step (.anvil 64) 0, .step .twt 64, .anvilHalted 64, .anvilStopReset (.anvil 64) 0 false,
    .anvilStopReset .twt 64 false, .mdataAccess (.anvil 64) 0 false 0, .mdataAccess .twt 64 false 0, .benchRateWrite (.anvil 64) 0 0,
    .benchRateWrite .twt 8 0, .benchRateWrite .twt 0 4, .varrSettled 8, .done 64, .btake 64 0 0 0, .bgrant 64 0 32, .bput 64 0 0] :
    List Instr).all (fun i => !i.wf) = true := by decide +kernel

theorem test_ill_formed_5 : ([
    .brel 64 0, .brd 64 0 0 0, .bwr 64 0 0 0, .billetOpComplete 64 0, .billetOpComplete 0 8, .billetCopyDone 64, .hwait 64 0 0,
    .hstat 64 0 0, .rwait 64 0, .hget 64 0 0 false, .hset 64 0 0 false, .mov 64 0 0 false, .add 64 0 0 0 false, .sub 64 0 0 0 false,
    .and 64 0 0 0 false, .or 64 0 0 0 false, .xor 64 0 0 0 false, .not 64 0 0 false, .neg 64 0 0 false, .abs 64 0 0 false,
    .min 64 0 0 0 false, .max 64 0 0 0 false, .cmp 64 0 0 false, .shl 64 0 0 0 false, .shr 64 0 0 0 false, .asr 64 0 0 0 false,
    .cls 64 0 0 false, .movi 64 0 0, .addi 64 0 0, .cmpi 64 0 0, .andi 64 0 0, .ori 64 0 0, .shli 64 0 0, .asri 64 0 0, .shri 64 0 0,
    .ext 64 0 0] :
    List Instr).all (fun i => !i.wf) = true := by decide +kernel

theorem test_ill_formed_6 : ([
    .extw 64 0 0, .aclr 64 0, .aldw 64 0 0, .ashi 64 0 0 0, .ashx 64 0 0, .aadd 64 0 0, .asub 64 0 0, .amov 64 0 0, .aneg 64 0 0,
    .aabs 64 0 0, .ld 64 0 0 0 0 0, .ldw 64 0 0 0 0 0, .ldn 64 0 0 0 0 0, .lda 64 0 0 0 0 0, .st 64 0 0 0 0 0, .stw 64 0 0 0 0 0,
    .std 64 0 0 0 0 0, .ste 64 0 0 0 0 0, .norm 64 0 0 0 0, .normr 64 0, .pset 64 0 0, .padd 64 0 0, .mvc 64 0 false 0,
    .mvf 64 0 false 0, .mpy 64 0 0 0 0 false false 0 0 false 0 0 0, .mac 64 0 0 0 0 false false 0 0 false 0 0 0,
    .msu 64 0 0 0 0 false false 0 0 false 0 0 0, .br 64 0 0, .jmp 64 0 0, .call 64 0 0, .ret 64 0, .loop 64 0 false 3 5, .loopExit 64,
    .div 64 0 0 0, .sqrt 64 0 0, .rsqrt 64 0 0] :
    List Instr).all (fun i => !i.wf) = true := by decide +kernel

theorem test_ill_formed_7 : ([
    .log2 64 0 0, .exp2 64 0 0, .mul32 64 0 0 0, .coprocResult 64, .crd 64 0 0, .cwr 64 0 0, .nop 64, .rte 64, .brk 64,
    .exceptionEntry 64, .breakpointMatch 64, .dbgRdataAccess (.anvil 64) false 0, .stageCmdStart (.anvil 64) 0, .stageCmdStart .twt 16,
    .stageCmdStop (.anvil 64) 0, .stageCmdStop .twt 16, .stageCmdClear (.anvil 64) 0, .stageCmdClear .twt 16,
    .stageDisable (.anvil 64) 0, .stageDisable .twt 16, .inrushEnd 16 0 0 0, .settleEnd 16, .stopDischargeEnd 16, .stageTrip 16,
    .retryTimer 16, .retryCountReset 16, .xstFaultInput 8, .xstFaultRelease 8, .dieConditionEnd false 0x24, .pauseTimeout 16,
    .senseBilletBegin 32 0 [], .tongsStart (.anvil 64), .diagRun (.anvil 64) 3, .diagRun .twt 65536, .diagDisable (.anvil 64),
    .ringTestOvercurrent 16] :
    List Instr).all (fun i => !i.wf) = true := by decide +kernel

theorem test_ill_formed_8 : ([
    .ringAbort 16 2, .ringAbort 0 1, .ringAbort 0 7, .micPathEnable (.anvil 64) 0 false false, .micPathEnable .twt 16 false false,
    .biasOc 2, .wakeFire (.anvil 64) 0, .wakeFire .twt 256, .linStart (.anvil 64), .linStop (.anvil 64), .linDisable (.anvil 64) false,
    .hpoStart (.anvil 64), .hpoStop (.anvil 64), .hpoDisable (.anvil 64), .auxStart (.anvil 64) 0, .auxStart .twt 2,
    .auxStop (.anvil 64) 0, .auxStop .twt 2, .refEnWrite (.anvil 64) 0 false, .refEnWrite .twt 2 false, .refRdy 2, .auxScanStart 2,
    .auxInjTrigger 2, .auxConversion 2 0 false, .auxConversion 0 4096 false, .plausAction 4096 false 0 false,
    .plausAction 0 false 4096 false, .writeBlock 256 [], .readBlock 64, .notifySend 3, .twcStart (.anvil 64) 0 0, .twcStart .twt 3 0,
    .twcStart .twt 0 256, .twcWrite (.anvil 64) 0 false 0, .twcWrite .twt 3 false 0, .twcWrite .twt 0 false 256] :
    List Instr).all (fun i => !i.wf) = true := by decide +kernel

theorem test_ill_formed_9 : ([
    .twcRead (.anvil 64) 0 false false, .twcRead .twt 3 false false, .twcStop (.anvil 64) 0, .twcStop .twt 3,
    .twcOperationDone 3 0 0 false, .twcOperationDone 0 4 0 false, .twcOperationDone 0 0 256 false, .twcRxdRead (.anvil 64) 0,
    .twcRxdRead .twt 3, .twcAbandoned 3, .write (2 ^ 24) [] false, .read (2 ^ 24) 0, .qwrite (2 ^ 24) [] false, .qread (2 ^ 24) 0,
    .swrite (2 ^ 24) [] false, .sread (2 ^ 24) 0, .qswrite (2 ^ 24) [] false, .qsread (2 ^ 24) 0, .qspiXfer (.anvil 64) (0 : Byte) false,
    .prepare 65536 0 0, .prepare 0 0 16, .vote 65536 false, .abort 65536, .regRead 65536 0, .regRead 0 (2 ^ 18), .regWrite 65536 0 0,
    .regWrite 0 (2 ^ 18) 0, .result 65536 0 0, .result 0 256 0, .train 256, .hello [] (2 ^ 64) false false, .proof (2 ^ 64) false,
    .accept 65536 false, .refuse 16, .adoptEnd (2 ^ 64), .detachMessage 65536 0] :
    List Instr).all (fun i => !i.wf) = true := by decide +kernel

theorem test_ill_formed_10 : ([
    .attach (.anvil 64) false, .detach (.anvil 64), .rcmd (.anvil 64) false 0, .rcmd .twt false (2 ^ 18), .authNew (.anvil 64),
    .authEnd (.anvil 64), .authOwnerSession (.anvil 64), .authTestVendor (.anvil 64), .authTestConsent (.anvil 64),
    .authCheckDone (.anvil 64) false, .lcToOwned (.anvil 64), .lcToField (.anvil 64), .lcToReturned (.anvil 64), .otpProg (.anvil 64) 1,
    .rbAdvance (.anvil 64) 5, .rbAdvance .twt 64, .imgLoad (.anvil 64), .faultClear (.anvil 64) 0x60 0, .faultClear .twt 256 0,
    .faultClear .twt 0x60 256, .coincident 256 0, .coincident 0 256, .loopGo (.anvil 64) 0 0 0, .loopGo .twt 256 0 0,
    .loopGo .twt 0 16 0, .loopGo .twt 0 0 4, .loopStop (.anvil 64), .injEnable (.anvil 64), .injLedger (.anvil 64),
    .injStockCe (.anvil 64), .injStockUe (.anvil 64), .injTongsMis (.anvil 64), .injStrike (.anvil 64), .jtagAccess false (2 ^ 18) 0,
    .drouteRelease (.anvil 64), .mbiasOcEnd 2] :
    List Instr).all (fun i => !i.wf) = true := by decide +kernel

/-! ### Witnesses of the completion statements -/

theorem witness_PowerCommandsComplete :
    (atReset.awake && Instr.wf (.clockDomainStart 0) && Instr.wf (.clockDomainStop 0) && Instr.wf (.porRelease 0 0 0) &&
    atReset.powered && Instr.wf (.bootSequence 0 false) && Instr.wf (.pwrModeRequest .twt 3) && atReset.reaches .twt 0x02 &&
    atReset.acceptsKey .twt Regs.PWR_MODE (putBits (atReset.w Regs.PWR_MODE) 0 3 3) && Instr.wf (.wakeEvent ⟨0, false⟩) &&
    Instr.wf (.hearthRateWrite .twt 0) && atReset.reaches .twt 0x01 && atReset.acceptsKey .twt Regs.CLK_HEARTH 0 &&
    Instr.wf (.clkSrcWrite .twt 0) && atReset.acceptsKey .twt Regs.CLK_SRC 0 && Instr.wf (.tbAcquire 0)) = true := by
  decide +kernel

theorem witness_ControlSpaceCommandsComplete :
    (Instr.wf (.registerWrite .twt (Regs.GPIO_OUT / 256) (Regs.GPIO_OUT % 256 * 4) 1) && atReset.reaches .twt (Regs.GPIO_OUT / 256) &&
    atReset.accepts .twt (Regs.GPIO_OUT / 256) (Regs.GPIO_OUT % 256 * 4) 1 && Instr.wf (.wideLoRead .twt 0x03 0x040) &&
    atReset.reaches .twt 0x03 && wideLo 0x03 0x040 && atReset.serves .twt 0x03 0x040 && Instr.wf (.srst .twt 0) &&
    atReset.reaches .twt 0 && atReset.acceptsKey .twt (Regs.PG_CTRL 0) (atReset.pgWord 0 4 0) && Instr.wf (.softResetDone 0) &&
    atReset.awake && Instr.wf (.pageEnable .twt 0 false) && atReset.acceptsKey .twt (Regs.PG_CTRL 0) (atReset.pgWord 0 (b2w false) 1) &&
    Instr.wf (.pgFreeze .twt 0 false) && atReset.acceptsKey .twt (Regs.PG_CTRL 0) (atReset.pgWord 0 (if false then 8 else 0) 8) &&
    Instr.wf (.irqPendClear .twt 0 0) && atReset.acceptsKey .twt (Regs.IRQ_PEND 0) 0 && Instr.wf (.irqForce .twt 0 0) &&
    atReset.acceptsKey .twt (Regs.IRQ_FORCE 0) 0 && Instr.wf (.pgAccessWrite .twt 0 0) && atReset.acceptsKey .twt (Regs.PG_ACCESS 0) 0 &&
    Instr.wf (.pgLockWrite .twt 0 0) && atReset.acceptsKey .twt (Regs.PG_LOCK 0) 0 && Instr.wf (.sysReset .twt 0x52530001) &&
    atReset.reaches .twt 0x00 && atReset.acceptsKey .twt Regs.SYS_RESET 0x52530001 && Instr.wf (.capHiRead .twt 0) &&
    atReset.servesKey .twt (Regs.TB_CAP_HI 0)) = true := by
  decide +kernel

theorem witness_SchedulerCommandsComplete :
    (Instr.wf (.captureEdge 0 false 0) && atReset.awake && Instr.wf (.schedArm .twt) && atReset.reaches .twt 0x04 &&
    atReset.servesKey .twt Regs.SCHED_ARM && Instr.wf (.schedCancel .twt 0) && atReset.acceptsKey .twt Regs.SCHED_CANCEL (Word.of 0) &&
    Instr.wf (.portStart .twt 0 0) && Instr.wf (.portStop .twt 0 0) && Instr.wf (.stageStart .twt 0 0) &&
    Instr.wf (.stageMute .twt 0 0) && Instr.wf (.stageUnmute .twt 0 0) && Instr.wf (.actionWeldCommit .twt 0 0) &&
    Instr.wf (.auxInj .twt 0 0) && Instr.wf (.gpioSet .twt 0 0) && Instr.wf (.gpioClr .twt 0 0) && Instr.wf (.actionIrq .twt 0 0) &&
    Instr.wf (.actionTest .twt 0 0)) = true := by
  decide +kernel

theorem witness_StockAndWeldCommandsComplete :
    (Instr.wf (.creditGrant ⟨0, false⟩) && atReset.awake && Instr.wf (.billetPut 0 0 0 0 0 0 0 []) && Instr.wf (.billetTake 0) &&
    Instr.wf (.billetRelease ⟨0, false⟩) && Instr.wf (.queueDescriptorWrite .twt 0) && atReset.reaches .twt 0x06 &&
    atReset.acceptsKey .twt Regs.STOCK_QD_CFG 0 && Instr.wf (.stockUe 0 false) && Instr.wf (.scrubPass 0 ⟨[], false, false, false, 0⟩) &&
    Instr.wf (.stockSrst .twt) && atReset.acceptsKey .twt (Regs.PG_CTRL 0x06) (atReset.pgWord 0x06 4 0) &&
    Instr.wf (.stockRebuildDone []) && Instr.wf (.auditNow .twt) && atReset.reaches .twt 0x07 &&
    atReset.acceptsKey .twt Regs.LEDGER_CTRL 1 && Instr.wf (.weldOpen .twt) && atReset.reaches .twt 0x05 &&
    atReset.servesKey .twt Regs.WELD_OPEN && Instr.wf (.weldSelect .twt 0) && Instr.wf (.weldStageWrite .twt 0x30 0x044 0) &&
    welding.reaches .twt 0x30 && ((welding.selected .twt).isSome) && Instr.wf (.weldCommit .twt 0) &&
    atReset.acceptsKey .twt Regs.WELD_COMMIT 0 && Instr.wf (.weldAbort .twt 0) && atReset.acceptsKey .twt Regs.WELD_ABORT (Word.of 0) &&
    Instr.wf (.weldUndo .twt 0) && atReset.acceptsKey .twt Regs.WELD_UNDO (Word.of 0) && Instr.wf (.cmdqEnqueue .twt 0x30 0x044 0) &&
    queueing.reaches .twt 0x30 && (queueing.queueActive .twt && (queueing.selected .twt).isNone)) = true := by
  decide +kernel

theorem witness_PortAndChainCommandsComplete :
    (Instr.wf (.startTx .twt 0) && atReset.reaches .twt (0x10 + 0) && atReset.acceptsKey .twt (Regs.SAP_CMD 0) 1 &&
    Instr.wf (.startRx .twt 0) && atReset.acceptsKey .twt (Regs.SAP_CMD 0) 2 && Instr.wf (.stopTx .twt 0) &&
    atReset.acceptsKey .twt (Regs.SAP_CMD 0) 4 && Instr.wf (.stopRx .twt 0) && atReset.acceptsKey .twt (Regs.SAP_CMD 0) 8 &&
    Instr.wf (.sapRxFrame 0 0 0 []) && atReset.awake && Instr.wf (.sapStall 0 false) && Instr.wf (.sapTxFrame 0 0 0 []) &&
    Instr.wf (.slotResume 0 0) && Instr.wf (.spdifStart .twt) && atReset.reaches .twt 0x17 &&
    atReset.acceptsKey .twt Regs.SPDIF_CTRL (atReset.w Regs.SPDIF_CTRL ||| 8) && Instr.wf (.spdifStop .twt) &&
    atReset.acceptsKey .twt Regs.SPDIF_CTRL (atReset.w Regs.SPDIF_CTRL ||| 16) && Instr.wf (.spdifLock 0) && Instr.wf (.bypassPlace 0) &&
    Instr.wf (.asrcEnable .twt 0) && asrcBound.reaches .twt (pgAsrc 0) &&
    asrcBound.acceptsKey .twt (Regs.PG_CTRL (pgAsrc 0)) (asrcBound.pgWord (pgAsrc 0) 1 0) && Instr.wf (.asrcInputBillet 0 0 0 0) &&
    Instr.wf (.asrcGridSample 0) && Instr.wf (.patchEntryWrite .twt 0 0) && atReset.reaches .twt 0x08 && Instr.wf (.patchInval .twt 0) &&
    atReset.acceptsKey .twt Regs.PATCH_INVAL 0 && Instr.wf (.patchCopy .twt) &&
    atReset.acceptsKey .twt Regs.PATCH_CTRL (atReset.w Regs.PATCH_CTRL ||| 1) && Instr.wf (.incComputeStroke 0) &&
    Instr.wf (.finComputeStroke 0) && Instr.wf (.mixNodeCompute 0) && Instr.wf (.meterClear .twt 0x30) && atReset.reaches .twt 0x30 &&
    atReset.acceptsKey .twt (0x30 * 256 + 0x14) (atReset.w (0x30 * 256 + 0x14) ||| 16)) = true := by
  decide +kernel

theorem witness_ConverterCommandsComplete_1 :
    (Instr.wf (.onchipCaptureSample (.line 0 0 0 0 0)) && atReset.powered && Instr.wf (.micPathEnable .twt 0 false false) &&
    atReset.reaches .twt 0x24 && atReset.acceptsKey .twt (Regs.MIC_CFG 0) (atReset.micEnableWord 0 false false) &&
    Instr.wf (.biasOc 0) && Instr.wf (.wakeFire .twt 0) && atReset.reaches .twt 0x25 &&
    atReset.acceptsKey .twt Regs.WAKE_FIRE (Word.of (0 * 256 + 1)) && atReset.awake && Instr.wf (.linStart .twt) &&
    atReset.reaches .twt 0x26 && atReset.acceptsKey .twt Regs.LIN_CMD 1 && Instr.wf (.linStop .twt) &&
    atReset.acceptsKey .twt Regs.LIN_CMD 2 && Instr.wf (.linDisable .twt false) &&
    atReset.acceptsKey .twt (Regs.PG_CTRL 0x26) (atReset.pgWord 0x26 (if false then 4 else 0) (if false then 0 else 1)) &&
    Instr.wf (.hpoStart .twt) && (forging.setB (Regs.PG_CTRL 0x27) 0 true).reaches .twt 0x27 &&
    (forging.setB (Regs.PG_CTRL 0x27) 0 true).acceptsKey .twt Regs.HPO_CMD 1 && Instr.wf (.hpoStop .twt) && phones.reaches .twt 0x27 &&
    phones.acceptsKey .twt Regs.HPO_CMD 2 && Instr.wf (.hpoDisable .twt) && atReset.reaches .twt 0x27 &&
    atReset.acceptsKey .twt (Regs.PG_CTRL 0x27) (atReset.pgWord 0x27 0 1) && Instr.wf (.auxStart .twt 0) &&
    auxReady.reaches .twt (0x74 + 0) && auxReady.acceptsKey .twt (Regs.AUX_CTRL 0) (auxReady.w (Regs.AUX_CTRL 0) ||| 2) &&
    Instr.wf (.auxStop .twt 0) && auxRunning.reaches .twt (0x74 + 0) &&
    auxRunning.acceptsKey .twt (Regs.AUX_CTRL 0) (auxRunning.w (Regs.AUX_CTRL 0) ||| 4) && Instr.wf (.refEnWrite .twt 0 false) &&
    atReset.reaches .twt (0x74 + 0) && atReset.acceptsKey .twt (Regs.AUX_CTRL 0) (b2w false) && Instr.wf (.refRdy 0) &&
    Instr.wf (.auxScanStart 0) && Instr.wf (.auxInjTrigger 0) && Instr.wf (.auxConversion 0 0 false) &&
    Instr.wf (.plausAction 0 false 0 false)) = true := by
  decide +kernel

theorem witness_ConverterCommandsComplete_2 :
    (Instr.wf (.mbiasOcEnd 0)) = true := by
  decide +kernel

theorem witness_AnvilControlCommandsComplete :
    (Instr.wf (.go .twt 0) && halted.reaches .twt (anvPage 0) && halted.acceptsKey .twt (Regs.ANV_CTRL 0) 1 && Instr.wf (.halt .twt 0) &&
    running.reaches .twt (anvPage 0) && running.acceptsKey .twt (Regs.ANV_CTRL 0) 2 && Instr.wf (.step .twt 0) &&
    halted.acceptsKey .twt (Regs.ANV_CTRL 0) 4 && Instr.wf (.anvilHalted 0) && atReset.anvPowered 0 &&
    Instr.wf (.anvilStopReset .twt 0 false) && atReset.reaches .twt (anvPage 0) &&
    atReset.acceptsKey .twt (Regs.PG_CTRL (anvPage 0)) (atReset.pgWord (anvPage 0) (if false then 4 else 0) (if false then 0 else 1)) &&
    Instr.wf (.mdataAccess .twt 0 false 0) &&
    (if false then atReset.acceptsKey .twt (Regs.ANV_MDATA 0) 0 else atReset.servesKey .twt (Regs.ANV_MDATA 0)) &&
    Instr.wf (.benchRateWrite .twt 0 0) && atReset.reaches .twt (0xC0 + 0) && atReset.acceptsKey .twt (Regs.BENCH_CLK 0) (Word.of 0) &&
    Instr.wf (.varrSettled 0) && atReset.awake && Instr.wf (.dbgRdataAccess .twt false 0) && halted.reaches .twt 0x0F &&
    if false then halted.acceptsKey .twt Regs.DBG_RDATA 0 else halted.servesKey .twt Regs.DBG_RDATA &&
    decide (halted.anvState ((halted.resolve .twt 0x0F 0x05C - 0x1D000) / 128) = anHalted)) = true := by
  decide +kernel

theorem witness_AnvilArithmeticCompletes_1 :
    (Instr.wf (.mov 0 0 0 false) && running.anvPowered 0 && running.anvReady 0 && running.anvClear 0 (.alu 0x0 0 0 0 false) &&
    !((running.anvAlu 0 (running.anv 0).mode 0x0 0 0 0 false).traps (running.anv 0).mode) && Instr.wf (.add 0 0 0 0 false) &&
    running.anvClear 0 (.alu 0x1 0 0 0 false) && !((running.anvAlu 0 (running.anv 0).mode 0x1 0 0 0 false).traps (running.anv 0).mode) &&
    Instr.wf (.sub 0 0 0 0 false) && running.anvClear 0 (.alu 0x2 0 0 0 false) &&
    !((running.anvAlu 0 (running.anv 0).mode 0x2 0 0 0 false).traps (running.anv 0).mode) && Instr.wf (.and 0 0 0 0 false) &&
    running.anvClear 0 (.alu 0x3 0 0 0 false) && !((running.anvAlu 0 (running.anv 0).mode 0x3 0 0 0 false).traps (running.anv 0).mode) &&
    Instr.wf (.or 0 0 0 0 false) && running.anvClear 0 (.alu 0x4 0 0 0 false) &&
    !((running.anvAlu 0 (running.anv 0).mode 0x4 0 0 0 false).traps (running.anv 0).mode) && Instr.wf (.xor 0 0 0 0 false) &&
    running.anvClear 0 (.alu 0x5 0 0 0 false) && !((running.anvAlu 0 (running.anv 0).mode 0x5 0 0 0 false).traps (running.anv 0).mode) &&
    Instr.wf (.not 0 0 0 false) && running.anvClear 0 (.alu 0x6 0 0 0 false) &&
    !((running.anvAlu 0 (running.anv 0).mode 0x6 0 0 0 false).traps (running.anv 0).mode) && Instr.wf (.neg 0 0 0 false) &&
    running.anvClear 0 (.alu 0x7 0 0 0 false) && !((running.anvAlu 0 (running.anv 0).mode 0x7 0 0 0 false).traps (running.anv 0).mode) &&
    Instr.wf (.abs 0 0 0 false) && running.anvClear 0 (.alu 0x8 0 0 0 false) &&
    !((running.anvAlu 0 (running.anv 0).mode 0x8 0 0 0 false).traps (running.anv 0).mode) && Instr.wf (.min 0 0 0 0 false) &&
    running.anvClear 0 (.alu 0x9 0 0 0 false) && !((running.anvAlu 0 (running.anv 0).mode 0x9 0 0 0 false).traps (running.anv 0).mode) &&
    Instr.wf (.max 0 0 0 0 false) && running.anvClear 0 (.alu 0xA 0 0 0 false) &&
    !((running.anvAlu 0 (running.anv 0).mode 0xA 0 0 0 false).traps (running.anv 0).mode) && Instr.wf (.cmp 0 0 0 false) &&
    running.anvClear 0 (.alu 0xB 0 0 0 false) && !((running.anvAlu 0 (running.anv 0).mode 0xB 0 0 0 false).traps (running.anv 0).mode) &&
    Instr.wf (.shl 0 0 0 0 false) && running.anvClear 0 (.alu 0xC 0 0 0 false)) = true := by
  decide +kernel

theorem witness_AnvilArithmeticCompletes_2 :
    (!((running.anvAlu 0 (running.anv 0).mode 0xC 0 0 0 false).traps (running.anv 0).mode) && Instr.wf (.shr 0 0 0 0 false) &&
    running.anvClear 0 (.alu 0xD 0 0 0 false) && !((running.anvAlu 0 (running.anv 0).mode 0xD 0 0 0 false).traps (running.anv 0).mode) &&
    Instr.wf (.asr 0 0 0 0 false) && running.anvClear 0 (.alu 0xE 0 0 0 false) &&
    !((running.anvAlu 0 (running.anv 0).mode 0xE 0 0 0 false).traps (running.anv 0).mode) && Instr.wf (.cls 0 0 0 false) &&
    running.anvClear 0 (.alu 0xF 0 0 0 false) && !((running.anvAlu 0 (running.anv 0).mode 0xF 0 0 0 false).traps (running.anv 0).mode) &&
    Instr.wf (.movi 0 0 0) && running.anvClear 0 (.imm 0 0 0) &&
    !((running.anvImm 0 (running.anv 0).mode 0 0 0).traps (running.anv 0).mode) && Instr.wf (.addi 0 0 0) &&
    running.anvClear 0 (.imm 1 0 0) && !((running.anvImm 0 (running.anv 0).mode 1 0 0).traps (running.anv 0).mode) &&
    Instr.wf (.cmpi 0 0 0) && running.anvClear 0 (.imm 2 0 0) &&
    !((running.anvImm 0 (running.anv 0).mode 2 0 0).traps (running.anv 0).mode) && Instr.wf (.andi 0 0 0) &&
    running.anvClear 0 (.imm 3 0 0) && !((running.anvImm 0 (running.anv 0).mode 3 0 0).traps (running.anv 0).mode) &&
    Instr.wf (.ori 0 0 0) && running.anvClear 0 (.imm 4 0 0) &&
    !((running.anvImm 0 (running.anv 0).mode 4 0 0).traps (running.anv 0).mode) && Instr.wf (.shli 0 0 0) &&
    running.anvClear 0 (.imm 5 0 0) && !((running.anvImm 0 (running.anv 0).mode 5 0 0).traps (running.anv 0).mode) &&
    Instr.wf (.asri 0 0 0) && running.anvClear 0 (.imm 6 0 0) &&
    !((running.anvImm 0 (running.anv 0).mode 6 0 0).traps (running.anv 0).mode) && Instr.wf (.shri 0 0 0) &&
    running.anvClear 0 (.imm 7 0 0) && !((running.anvImm 0 (running.anv 0).mode 7 0 0).traps (running.anv 0).mode) &&
    Instr.wf (.ext 0 0 0) && running.anvClear 0 (.acc 0 0 0 0 0) &&
    !((running.anvAcc 0 (running.anv 0).mode 0 0 0 0 0).traps (running.anv 0).mode) && Instr.wf (.extw 0 0 0) &&
    running.anvClear 0 (.acc 1 0 0 0 0) && !((running.anvAcc 0 (running.anv 0).mode 1 0 0 0 0).traps (running.anv 0).mode)) = true := by
  decide +kernel

theorem witness_AnvilArithmeticCompletes_3 :
    (Instr.wf (.aclr 0 0) && running.anvClear 0 (.acc 2 0 0 0 0) &&
    !((running.anvAcc 0 (running.anv 0).mode 2 0 0 0 0).traps (running.anv 0).mode) && Instr.wf (.aldw 0 0 0) &&
    running.anvClear 0 (.acc 3 0 0 0 0) && !((running.anvAcc 0 (running.anv 0).mode 3 0 0 0 0).traps (running.anv 0).mode) &&
    Instr.wf (.ashi 0 0 0 0) && running.anvClear 0 (.acc 4 0 0 0 0) &&
    !((running.anvAcc 0 (running.anv 0).mode 4 0 0 0 0).traps (running.anv 0).mode) && Instr.wf (.ashx 0 0 0) &&
    running.anvClear 0 (.acc 5 0 0 0 0) && !((running.anvAcc 0 (running.anv 0).mode 5 0 0 0 0).traps (running.anv 0).mode) &&
    Instr.wf (.aadd 0 0 0) && running.anvClear 0 (.acc 6 0 0 0 0) &&
    !((running.anvAcc 0 (running.anv 0).mode 6 0 0 0 0).traps (running.anv 0).mode) && Instr.wf (.asub 0 0 0) &&
    running.anvClear 0 (.acc 7 0 0 0 0) && !((running.anvAcc 0 (running.anv 0).mode 7 0 0 0 0).traps (running.anv 0).mode) &&
    Instr.wf (.amov 0 0 0) && running.anvClear 0 (.acc 8 0 0 0 0) &&
    !((running.anvAcc 0 (running.anv 0).mode 8 0 0 0 0).traps (running.anv 0).mode) && Instr.wf (.aneg 0 0 0) &&
    running.anvClear 0 (.acc 9 0 0 0 0) && !((running.anvAcc 0 (running.anv 0).mode 9 0 0 0 0).traps (running.anv 0).mode) &&
    Instr.wf (.aabs 0 0 0) && running.anvClear 0 (.acc 10 0 0 0 0) &&
    !((running.anvAcc 0 (running.anv 0).mode 10 0 0 0 0).traps (running.anv 0).mode) &&
    Instr.wf (.mpy 0 0 0 0 0 false false 0 0 false 0 0 0) && running.anvClear 0 (.lane 0 0 0 0 0 false false 0 0 false 0 0 0) &&
    running.laneReady 0 false 0 0 false 0 0 0 &&
    !((running.anvLane 0 (running.anv 0).mode 0 0 0 0 0 false false 0 0 false 0 0 0).traps (running.anv 0).mode) &&
    Instr.wf (.mac 0 0 0 0 0 false false 0 0 false 0 0 0) && running.anvClear 0 (.lane 1 0 0 0 0 false false 0 0 false 0 0 0) &&
    !((running.anvLane 0 (running.anv 0).mode 1 0 0 0 0 false false 0 0 false 0 0 0).traps (running.anv 0).mode) &&
    Instr.wf (.msu 0 0 0 0 0 false false 0 0 false 0 0 0) && running.anvClear 0 (.lane 2 0 0 0 0 false false 0 0 false 0 0 0) &&
    !((running.anvLane 0 (running.anv 0).mode 2 0 0 0 0 false false 0 0 false 0 0 0).traps (running.anv 0).mode)) = true := by
  decide +kernel

theorem witness_AnvilMemoryBilletAndFlowComplete_1 :
    (Instr.wf (.done 0) && running.anvPowered 0 && running.anvReady 0 && running.anvClear 0 (.sys 1) &&
    decide ((running.anv 0).copies = []) && decide ((running.anv 0).cops = []) && Instr.wf (.bput 0 0 0) &&
    (holding 0 true).anvPowered 0 && (holding 0 true).anvReady 0 && (holding 0 true).anvClear 0 (.billet 2 0 0 0 0 0) &&
    decide ((((holding 0 true).anv 0).handle 0).st = .held) && (((holding 0 true).anv 0).handle 0).granted &&
    decide (billetFault (((holding 0 true).anv 0).crv 0) = none) &&
    !((holding 0 true).anv 0).copyWaits (((holding 0 true).anv 0).crv 0) && Instr.wf (.brel 0 0) && (holding 0 false).anvPowered 0 &&
    (holding 0 false).anvReady 0 && (holding 0 false).anvClear 0 (.billet 3 0 0 0 0 0) &&
    decide ((((holding 0 false).anv 0).handle 0).st = .held) && (((holding 0 false).anv 0).handle 0).item.isSome &&
    Instr.wf (.billetOpComplete 0 0) && atReset.anvPowered 0 && Instr.wf (.billetCopyDone 0) && Instr.wf (.hwait 0 0 0) &&
    running.anvClear 0 (.handle 0 0 0 false) && !(((running.anv 0).handle 0).pending) && Instr.wf (.hstat 0 0 0) &&
    running.anvClear 0 (.handle 1 0 0 false) && Instr.wf (.rwait 0 0) && running.anvClear 0 (.handle 2 0 0 false) &&
    decide ((running.anv 0).bst < 32768) && Instr.wf (.hget 0 0 0 false) && (holding 0 false).anvClear 0 (.handle 3 0 0 false) &&
    Instr.wf (.hset 0 0 0 false) && (holding 0 false).anvClear 0 (.handle 4 0 0 false) && Instr.wf (.ld 0 0 0 0 0 0) &&
    running.anvClear 0 (.load 0 0 0 0 0 0) && (running.anv 0).reaches 0 0 0 0 2 false && Instr.wf (.ldw 0 0 0 0 0 0) &&
    running.anvClear 0 (.load 1 0 0 0 0 0)) = true := by
  decide +kernel

theorem witness_AnvilMemoryBilletAndFlowComplete_2 :
    ((running.anv 0).reaches 0 0 0 0 4 false && Instr.wf (.ldn 0 0 0 0 0 0) && running.anvClear 0 (.load 2 0 0 0 0 0) &&
    !((running.anvLoad 0 (running.anv 0).mode 2 0 0 0 0 0).traps (running.anv 0).mode) && Instr.wf (.lda 0 0 0 0 0 0) &&
    running.anvClear 0 (.load 3 0 0 0 0 0) && Instr.wf (.st 0 0 0 0 0 0) && running.anvClear 0 (.store 0 0 0 0 0 0) &&
    (running.anv 0).reaches 0 0 0 0 2 true && Instr.wf (.stw 0 0 0 0 0 0) && running.anvClear 0 (.store 1 0 0 0 0 0) &&
    (running.anv 0).reaches 0 0 0 0 4 true && Instr.wf (.std 0 0 0 0 0 0) && running.anvClear 0 (.store 2 0 0 0 0 0) &&
    !((running.anvStore 0 (running.anv 0).mode 2 0 0 0 0 0).traps (running.anv 0).mode) && Instr.wf (.ste 0 0 0 0 0 0) &&
    running.anvClear 0 (.store 3 0 0 0 0 0) && !((running.anvStore 0 (running.anv 0).mode 3 0 0 0 0 0).traps (running.anv 0).mode) &&
    Instr.wf (.norm 0 0 0 0 0) && running.anvClear 0 (.norm 0 0 0 0 0 0) && Instr.wf (.normr 0 0) &&
    running.anvClear 0 (.norm 1 0 0 0 0 0) && Instr.wf (.pset 0 0 0) && running.anvClear 0 (.addr 0 0 0) && Instr.wf (.padd 0 0 0) &&
    running.anvClear 0 (.addr 0 1 0) && Instr.wf (.mvc 0 0 false 0) && running.anvClear 0 (.ctl true 0 false 0) &&
    Instr.wf (.mvf 0 0 false 0) && running.anvClear 0 (.ctl false 0 false 0) && Instr.wf (.br 0 0 0) && running.anvClear 0 (.br 0 0 0) &&
    Instr.wf (.jmp 0 0 0) && running.anvClear 0 (.br 0 1 0) && Instr.wf (.call 0 0 0) && running.anvClear 0 (.br 0 2 0) &&
    Instr.wf (.ret 0 0) && running.anvClear 0 (.br 0 3 0) && Instr.wf (.loop 0 0 false 3 5) &&
    running.anvClear 0 (.loop 0 false 3 5)) = true := by
  decide +kernel

theorem witness_AnvilMemoryBilletAndFlowComplete_3 :
    (!(running.anv 0).loopRefused 0 3 (if false then (running.anv 0).reg 5 else 5) && Instr.wf (.loopExit 0) &&
    Instr.wf (.div 0 0 0 0) && running.anvClear 0 (.cop 0 0 0 0) && decide ((running.anv 0).cops.length < 4) && Instr.wf (.sqrt 0 0 0) &&
    running.anvClear 0 (.cop 1 0 0 0) && Instr.wf (.rsqrt 0 0 0) && running.anvClear 0 (.cop 2 0 0 0) && Instr.wf (.log2 0 0 0) &&
    running.anvClear 0 (.cop 3 0 0 0) && Instr.wf (.exp2 0 0 0) && running.anvClear 0 (.cop 4 0 0 0) && Instr.wf (.mul32 0 0 0 0) &&
    running.anvClear 0 (.cop 5 0 0 0) && Instr.wf (.coprocResult 0) && Instr.wf (.crd 0 0 0) && running.anvClear 0 (.bus false 0 0) &&
    Instr.wf (.cwr 0 0 0) && running.anvClear 0 (.bus true 0 0) && Instr.wf (.nop 0) && running.anvClear 0 (.sys 0) &&
    Instr.wf (.rte 0) && running.anvClear 0 (.sys 2) && Instr.wf (.brk 0) && running.anvClear 0 (.sys 3) &&
    Instr.wf (.exceptionEntry 0) && Instr.wf (.breakpointMatch 0)) = true := by
  decide +kernel

theorem witness_StageCommandsComplete :
    (Instr.wf (.stageCmdStart .twt 0) && (stageAt chStopped).reaches .twt (chPage 0) &&
    (stageAt chStopped).acceptsKey .twt (Regs.CH_CMD 0) 1 && Instr.wf (.stageCmdStop .twt 0) &&
    (stageAt chRun).reaches .twt (chPage 0) && (stageAt chRun).acceptsKey .twt (Regs.CH_CMD 0) 2 && Instr.wf (.stageCmdClear .twt 0) &&
    (stageAt chLatched).reaches .twt (chPage 0) && (stageAt chLatched).acceptsKey .twt (Regs.CH_CMD 0) 4 &&
    Instr.wf (.stageDisable .twt 0) && atReset.reaches .twt (chPage 0) &&
    atReset.acceptsKey .twt (Regs.PG_CTRL (chPage 0)) (atReset.pgWord (chPage 0) 0 1) && Instr.wf (.inrushEnd 0 0 0 0) &&
    atReset.awake && Instr.wf (.settleEnd 0) && Instr.wf (.stopDischargeEnd 0) && Instr.wf (.stageTrip 0) && Instr.wf (.retryTimer 0) &&
    Instr.wf (.retryCountReset 0) && Instr.wf (.xstFaultInput 0) && Instr.wf (.xstFaultRelease 0) &&
    Instr.wf (.dieConditionEnd false 0x25) && Instr.wf (.pauseTimeout 0) && Instr.wf (.senseBilletBegin 0 0 []) &&
    Instr.wf (.tongsStart .twt) && sensing.reaches .twt 0x72 && sensing.acceptsKey .twt (Regs.PG_CTRL 0x72) (sensing.pgWord 0x72 1 0) &&
    Instr.wf (.diagRun .twt 3) && ringDiag.reaches .twt 0x73 && ringDiag.acceptsKey .twt Regs.DIAG_RUN (Word.of 3) &&
    Instr.wf (.diagDisable .twt) && atReset.reaches .twt 0x73 && atReset.acceptsKey .twt (Regs.PG_CTRL 0x73) (atReset.pgWord 0x73 0 1) &&
    Instr.wf (.ringTestOvercurrent 0) && Instr.wf (.ringAbort 0 2)) = true := by
  decide +kernel

theorem witness_ControlPortCommandsComplete :
    (Instr.wf (.writeBlock 0 []) && Instr.wf (.readBlock 0) && Instr.wf (.notifySend 0) && atReset.awake &&
    Instr.wf (.twcStart .twt 0 0) && atReset.reaches .twt (0x77 + 0) && atReset.acceptsKey .twt (Regs.TWC_OP 0) (Word.of 0) &&
    Instr.wf (.twcWrite .twt 0 false 0) && atReset.acceptsKey .twt (Regs.TWC_OP 0) (Word.of (1024 + b2n false * 512 + 0)) &&
    Instr.wf (.twcRead .twt 0 false false) &&
    atReset.acceptsKey .twt (Regs.TWC_OP 0) (Word.of (2048 + b2n false * 512 + b2n false * 256)) && Instr.wf (.twcStop .twt 0) &&
    atReset.acceptsKey .twt (Regs.TWC_OP 0) 3072 && Instr.wf (.twcOperationDone 0 0 0 false) && Instr.wf (.twcRxdRead .twt 0) &&
    atReset.servesKey .twt (Regs.TWC_RXD 0) && Instr.wf (.twcAbandoned 0) && Instr.wf (.write 0 [] false) && Instr.wf (.read 0 0) &&
    Instr.wf (.qwrite 0 [] false) && Instr.wf (.qread 0 0) && Instr.wf (.swrite 0 [] false) && Instr.wf (.sread 0 0) &&
    Instr.wf (.qswrite 0 [] false) && Instr.wf (.qsread 0 0) && Instr.wf (.qspiXfer .twt (0 : Byte) false) &&
    flashReady.reaches .twt 0x7B &&
    flashReady.acceptsKey .twt Regs.QSPI_XFER (Word.of (b2n false * 512 + (0 : Byte).toNat))) = true := by
  decide +kernel

theorem witness_PairCommandsComplete :
    (atReset.awake && linkedUp.awake && (linkedUp.link != 0) && Instr.wf (.prepare 0 0 0) && linkedUp.linked true &&
    Instr.wf (.vote 0 false) && Instr.wf (.abort 0) && Instr.wf (.regRead 0 0) && Instr.wf (.regWrite 0 0 0) &&
    Instr.wf (.result 0 0 0) && Instr.wf (.train 0) && linkedUp.linked false && Instr.wf (.hello [] 0 false false) &&
    Instr.wf (.proof 0 false) && Instr.wf (.accept 0 false) && Instr.wf (.refuse 0) && Instr.wf (.adoptEnd 0) &&
    Instr.wf (.detachMessage 0 0) && Instr.wf (.attach .twt false) && (leading prSeek).reaches .twt 0x7D &&
    (leading prSeek).acceptsKey .twt Regs.PAIR_CMD (Word.of (1 + 4 * b2n false)) && Instr.wf (.detach .twt) &&
    (leading prLive).reaches .twt 0x7D && (leading prLive).acceptsKey .twt Regs.PAIR_CMD 2 && Instr.wf (.rcmd .twt false 0) &&
    atReset.reaches .twt 0x7D && atReset.acceptsKey .twt Regs.PAIR_RCMD (Word.of (b2n false * 2 ^ 31 + 0))) = true := by
  decide +kernel

theorem witness_SecurityCommandsComplete :
    (Instr.wf (.authNew .twt) && atReset.reaches .twt 0x0A && atReset.acceptsKey .twt Regs.SEC_AUTH 0x80000000 &&
    Instr.wf (.authEnd .twt) && atReset.acceptsKey .twt Regs.SEC_AUTH 0x40000000 && Instr.wf (.authOwnerSession .twt) &&
    atReset.acceptsKey .twt Regs.SEC_AUTH 0x01000000 && Instr.wf (.authTestVendor .twt) &&
    atReset.acceptsKey .twt Regs.SEC_AUTH 0x02000000 && Instr.wf (.authTestConsent .twt) &&
    atReset.acceptsKey .twt Regs.SEC_AUTH 0x03000000 && Instr.wf (.authCheckDone .twt false) && atReset.awake &&
    Instr.wf (.lcToOwned .twt) && keyed.reaches .twt 0x0A && keyed.acceptsKey .twt Regs.SEC_LCREQ 0x4C430001 &&
    Instr.wf (.lcToField .twt) && (owned 1).reaches .twt 0x0A && (owned 1).acceptsKey .twt Regs.SEC_LCREQ 0x4C430002 &&
    Instr.wf (.lcToReturned .twt) && (owned 1).acceptsKey .twt Regs.SEC_LCREQ 0x4C430003 && Instr.wf (.otpProg .twt 1) &&
    otpPicked.reaches .twt 0x0B && otpPicked.acceptsKey .twt Regs.OTP_PROG 1 && Instr.wf (.rbAdvance .twt 5) &&
    (atReset.setF Regs.SEC_RB 8 6 10).reaches .twt 0x0A && (atReset.setF Regs.SEC_RB 8 6 10).acceptsKey .twt Regs.SEC_RB (Word.of 5) &&
    Instr.wf (.imgLoad .twt) && atReset.reaches .twt 0x0C && atReset.acceptsKey .twt Regs.IMG_CTRL 1) = true := by
  decide +kernel

theorem witness_FaultTestAndRouteCommandsComplete :
    (Instr.wf (.faultClear .twt 0x60 0) && faulted.reaches .twt 0x0D &&
    faulted.acceptsKey .twt Regs.FAULT_CLEAR (Word.of (0 * 256 + 0x60)) && atReset.awake && Instr.wf (.coincident 0 0) &&
    Instr.wf (.loopGo .twt 0 0 0) && atReset.reaches .twt 0x0E &&
    atReset.acceptsKey .twt Regs.TEST_LOOP (Word.of (2 ^ 31 + 0 * 2 ^ 24 + 0 * 2 ^ 16 + 0 * 256)) && Instr.wf (.loopStop .twt) &&
    atReset.acceptsKey .twt Regs.TEST_LOOP (atReset.w Regs.TEST_LOOP ||| 0x40000000) && Instr.wf (.injEnable .jtag) &&
    unlocked.reaches .jtag 0x0E && unlocked.acceptsKey .jtag Regs.TEST_INJ 0x80000000 && Instr.wf (.injLedger .jtag) &&
    unlocked.acceptsKey .jtag Regs.TEST_INJ 1 && Instr.wf (.injStockCe .jtag) && unlocked.acceptsKey .jtag Regs.TEST_INJ 2 &&
    Instr.wf (.injStockUe .jtag) && unlocked.acceptsKey .jtag Regs.TEST_INJ 4 && Instr.wf (.injTongsMis .jtag) &&
    unlocked.acceptsKey .jtag Regs.TEST_INJ 8 && Instr.wf (.injStrike .jtag) && unlocked.acceptsKey .jtag Regs.TEST_INJ 16 &&
    atReset.powered && Instr.wf (.jtagAccess false 0 0) && Instr.wf (.drouteRelease .twt) && atReset.reaches .twt 0x00 &&
    atReset.acceptsKey .twt Regs.SYS_DROUTE 1) = true := by
  decide +kernel
theorem witness_AnvilMemoryBilletAndFlowComplete_billets :
    (let u := (routed.anvRoute 0 0).2
     (routed.anvRoute 0 0).1 = some 5 ∧ (u.queue 5).ready = [.billet 7] ∧ u.anvMayTake 0 (u.itemBillet (.billet 7)).tag.domain = true ∧
       (routed.anvPowered 0 && routed.anvReady 0 && routed.anvClear 0 (.billet 0 0 0 0 0 0)) = true ∧ ((routed.anv 0).handle 0).st = .empty ∧
       Instr.wf (.btake 0 0 0 0) = true ∧ billetFault ((routed.anv 0).crv 0) = none) ∧
    (let u := (routed.anvRoute 0 32).2
     (routed.anvRoute 0 32).1 = some 5 ∧ u.anvMayGrant 0 (u.queue 5).domain = true ∧ (u.grant 5 (.anvil 0 0)).1 = some 0 ∧
       routed.anvClear 0 (.billet 1 0 32 0 0 0) = true ∧ Instr.wf (.bgrant 0 0 32) = true) ∧
    (ringed.anvRing 0 0 = some 6 ∧ (ringed.anv 0).reg 0 < (ringed.queue 6).depth ∧ billetFault ((ringed.anv 0).crv 0) = none ∧
      (ringed.anv 0).copyWaits ((ringed.anv 0).crv 0) = false ∧ Instr.wf (.brd 0 0 0 0) = true ∧ Instr.wf (.bwr 0 0 0 0) = true ∧
      (ringed.anvPowered 0 && ringed.anvReady 0 && ringed.anvClear 0 (.billet 4 0 0 0 0 0) && ringed.anvClear 0 (.billet 5 0 0 0 0 0)) = true) := by
  decide +kernel

/-! ### Witnesses of the statements about the machine and of the rules -/

/-- An outcome is a next state of which `p` holds. -/
def nextIs (o : Host.Outcome State Fault Refusal) (p : State → Bool) : Bool :=
  match o with
  | .next t => p t
  | _ => false

theorem witness_EveryStepKeepsTheStoresCanonical :
    (Memory.wf atReset && nextIs (step { atReset with pending := [.tbTick] }) fun t => t.tb == 1) = true := by decide +kernel

theorem witness_EveryStepAnswersAndServesInOrder : atReset.pending = [] := by decide +kernel

theorem witness_IllFormedCommandsChangeNothing : Instr.wf (.startTx .twt 6) = false := by decide +kernel

theorem witness_QuietCommandsEndAtOnce : (atReset.quiet && Memory.wf atReset) = true := by decide +kernel

theorem witness_AcceptedWritesAct :
    (atReset.accepts .twt (Regs.GPIO_OUT / 256) (Regs.GPIO_OUT % 256 * 4) 0xFFFF) = true := by decide +kernel

theorem witness_SlowClockCarriesTheCount :
    ((atReset.setF Regs.PWR_STAT 0 3 stEmber).quiet && Memory.wf (atReset.setF Regs.PWR_STAT 0 3 stEmber) &&
      (atReset.setF Regs.PWR_STAT 0 3 stEmber).slowCarried && !atReset.power.cold) = true ∧
    (let s : State := { atReset with power := { atReset.power with slowTb := true } }
     s.quiet && Memory.wf s && s.slowCarried && !s.power.cold) = true := by decide +kernel

theorem witness_FastClockCountsTicks :
    (atReset.quiet && Memory.wf atReset && !atReset.power.cold && !atReset.slowCarried) = true ∧
    (let s : State := { atReset with power := { atReset.power with cold := true } }
     s.quiet && Memory.wf s && s.power.cold) = true := by decide +kernel

theorem witness_RegisterBitsFollowTheirAccessType :
    (let r : RegRow := { off := 0x040, rw := 0x1, rws := 0x80000000 }
     (31 < 32) ∧ (r.merge 0 0x80000001).getLsbD 31 = true ∧ (r.merge 0x80000000 0).getLsbD 31 = true) := by decide +kernel

theorem witness_ReservedPagesHoldNothing :
    ([0x29, 0x2F, 0x59, 0xC8, 0xFF].all fun p => (pageKind p).isNone && Instr.wf (.registerWrite .twt p 0x3FC 1) && atReset.reaches .twt p &&
      atReset.quiet) = true := by decide +kernel

theorem witness_ForbiddenAccessesAreRefusedAndCounted :
    ((pageKind 0x01).isSome && (rowAt 0x01 0x040).isSome &&
      atReset.readForbidden .jtag (atReset.domainOf .jtag) 0x01 0x040 (atReset.resolve .jtag 0x01 0x040) &&
      !selWord 0x01 0x040 && (atReset.selected .jtag).isNone &&
      atReset.writeForbidden .jtag (atReset.domainOf .jtag) false 0x01 0x040 (atReset.resolve .jtag 0x01 0x040) 0) = true := by
  decide +kernel

theorem witness_WideWritesTakeEffectTogether : atReset.acceptsLo .twt 0x08 0x04C 0x00010002 = true := by decide +kernel

theorem witness_SoftResetReturnsRegistersToReset :
    (0x30 ≠ pgPair ∧ (∀ x ∈ [PageKind.test, .fin, .anv], pageKind 0x30 ≠ some x)) ∧
    (let k := 0x30 * 256 + 0x10
     (keyPlace k).1 = 0x30 ∧ keptBySoftReset (keyPlace k).2 = false ∧ keyLow k < 0x200000 ∧ isOtpKey k = false) := by decide +kernel

theorem witness_PendingBitsReturnWhileTheirCauseIsPresent : 255 < 256 ∧ 31 < 32 := by decide +kernel

theorem witness_GpioActionsMoveTheNamedPins : 15 < 16 ∧ 0x7FF ≠ Regs.GPIO_OUT := by decide +kernel

/-- SCHED.NEW_CTRL of TWT holds LATE_OK and the kind GPIO_SET, of the pins of the payload. -/
def arming : State := (atReset.setW (perKey .twt Regs.SCHED_NEW_CTRL) 0x40000008).setW (perKey .twt Regs.SCHED_NEW_PAYLOAD) 1

theorem witness_ArmingTakesAFreeEntry :
    atReset.armReason .owner false false 0 0 0 ≠ 0 ∧ arming.armReason .owner false true 0 8 1 = 0 ∧
    (arming.schedArm .twt .owner).1 = 0x80000000 := by decide +kernel

/-- Queue 9 with one credit of two outstanding: billet 4. -/
def credited : State := ((withQueues atReset [(9, aQueue 2 false 0x8000 0x4800)]).grant 9 .producer).2

theorem witness_CreditsAreFreeBillets :
    (!credited.stock.rebuilding && !(credited.queue 9).isRing && decide ((credited.queue 9).outstanding < (credited.queue 9).depth) &&
      credited.freeFor (credited.queue 9) == some 1 &&
      decide (((credited.grant 9 .producer).2.queue 9).depth ≤ ((credited.grant 9 .producer).2.queue 9).outstanding)) = true := by
  decide +kernel

/-- The queue's generation has moved on since the credit was given. -/
def outdated : State := credited.setQueue 9 { credited.queue 9 with gen := 1 }

theorem witness_StalePutsReturnTheirBillet :
    ((withQueues atReset [(9, aQueue 2 false 0x8000 0x4800)]).grant 9 .producer).1 = some 0 ∧
    (Instr.wf (.billetPut 9 0 0 0 0 0 0 []) && outdated.awake && (outdated.own 0).map (fun o => (o.queue, o.gen)) == some (9, 0) &&
      !outdated.stock.quar.contains 0 && decide (0 ≠ (outdated.queue 9).gen)) = true ∧
    outdated.grantStands 9 1 0 = false ∧
    ((withQueues credited []).own 0).isSome = true ∧ ((withQueues credited []).queue 9).on = false := by decide +kernel

theorem witness_StreamQueuesAreFirstInFirstOut :
    ((credited.own 0).map (fun o => (o.queue, o.gen)) = some (9, 0) ∧ (credited.queue 9).gen = 0 ∧ (credited.queue 9).on = true) ∧
    (let s := credited.put 9 0 0 {} [5]
     (s.queue 9).isInput = false ∧ (s.queue 9).fresh = 0 ∧ (s.queue 9).on = true ∧ (s.queue 9).waiting = [.billet 0] ∧
       s.tst.injCe = false ∧ s.tst.injUe = false) ∧
    credited.stock.quar.contains 0 = false := by decide +kernel

theorem witness_TheLedgerCountsEveryBilletOnce : credited.stock.own.length + credited.stock.quar.length = 1 := by decide +kernel

/-- Every identifier taken. -/
def fullWelds : State :=
  { atReset with weld := { atReset.weld with welds := (List.range 15).map fun i => { id := i + 1, serial := i + 1 } } }

theorem witness_OpeningTakesTheLowestFreeIdentifier :
    fullWelds.freeIds = [] ∧ welding.freeIds.head? = some 2 ∧ atReset.freeIds.head? = some 1 := by decide +kernel

theorem witness_AbortColdShutsAnOpenWeld :
    atReset.weldOf 15 = none ∧
    (welding.weldOf 1).map (fun w => (w.opener, w.st, w.pairHalf)) = some (.twt, .open_, none) ∧
    welding.selector .twt = 1 ∧ Master.spit ≠ .twt := by decide +kernel

theorem witness_AnvilDecodeOfEncode :
    (AnvOp.lane 1 1 15 14 0 false true 7 6 true 6 5 0).legal = true ∧ (AnvOp.br 10 2 2047).legal = true := by decide +kernel

theorem witness_AnvilWordsSpellOneInstruction : decodeAnvil 0x00000001 = some (.sys 1) ∧ 0x00000001 < 2 ^ 32 := by decide +kernel

theorem witness_AnvilSumsFollowTheOverflowRule : 7 ∈ [1, 2, 7, 8] := by decide +kernel

theorem witness_AnvilLaneAccumulates : 2 < 3 := by decide +kernel

theorem witness_AnvilBuffersKeepTheirAddresses :
    (65535 < 65536 ∧ modifierOk 0xFFFE = true ∧ fld 0xFFFE 30 2 = 0) ∧
    (modifierOk 0x400E0002 = true ∧ fld 0x400E0002 30 2 = 1) ∧
    (modifierOk 0x80020002 = true ∧ fld 0x80020002 30 2 = 2 ∧ fld 0x80020002 0 16 = 2 ^ fld 0x80020002 16 5 / 2) := by decide +kernel

/-- The issue is done, of which `p` holds. -/
def doneIs (i : Issue) (p : State → Bool) : Bool :=
  match i with
  | .done t _ _ _ => p t
  | _ => false

/-- Anvil 0 runs with its first address register at the last word of the data memory and 0x1234 in its first data register. -/
def pointing : State := running.setAnv 0 (((running.anv 0).setCr 0 0x3FFC).setReg 0 0x1234)

theorem witness_AnvilStoresWriteTheirBytesAlone :
    ((pointing.anv 0).address 0 2 0 1 2 = some (0x3FFE, 0x3FFC) ∧ (pointing.anv 0).address 0 0 0 0 4 = some (0x3FFC, 0x3FFC)) ∧
    (doneIs (pointing.anvStore 0 0 0 0 0 2 0 1) fun t => t.read16 0 0x3FFE == 0x1234 && t.read16 0 0x3FFC == 0) = true ∧
    (doneIs (pointing.anvStore 0 0 1 0 0 0 0 0) fun t => t.read32 0 0x3FFC == 0x1234) = true := by decide +kernel

theorem witness_AnvilLoadsLeaveMemory :
    (doneIs (pointing.anvLoad 0 0 0 3 0 2 0 1) fun t => (t.anv 0).reg 3 == 0) = true ∧
    (doneIs (pointing.anvLoad 0 0 1 2 0 0 0 0) fun _ => true) = true ∧
    (doneIs (pointing.anvLoad 0 0 3 1 0 0 0 0) fun _ => true) = true := by decide +kernel

theorem witness_ExceptionsSaveTheirPlace :
    (running.anv 0).cops = [] ∧ (running.anv 0).exl = false ∧
    (let s := running.setAnv 0 ((running.anv 0).setCr 0x21 0x80)
     (s.anv 0).cops = [] ∧ (s.anv 0).exl = true) ∧ 1 ≠ 4 := by decide +kernel

/-- A loop of three passes whose end is instruction 5. -/
def looping (count : Nat) : Anv := ((({} : Anv).setCr 0x14 count).setCr 0x18 2).setCr 0x1C 5

theorem witness_LoopsCountDownToTheirEnd :
    (looping 3).exl = false ∧ (looping 3).loopAt 4 = none ∧ (looping 3).loopAt 5 = some 0 ∧ 1 < (looping 3).crv 0x14 ∧
    (looping 1).loopAt 5 = some 0 ∧ (looping 1).crv 0x14 = 1 := by decide +kernel

theorem witness_CoprocessorRootsAreCorrectlyRounded :
    0x7FFFFFFF < 2 ^ 31 ∧ (copResult 1 0 0x7FFFFFFF 0).sat = false ∧ 0 < (copResult 1 0 0x7FFFFFFF 0).val.toNat ∧ 2 ^ 31 ≤ 0x80000000 := by
  decide +kernel

theorem witness_GainFactorsKeepTheirBound : (-0x8000 : Int) < -0x7FFF ∧ (-0x7FFF : Int) ≤ 0x7FFF := by decide +kernel

theorem witness_LeavingExtestStopsEveryChannel :
    (let s : State := { forging with tst := { forging.tst with ir := 0 } }
     s.tst.ir = 0 ∧ 15 < 16) := by decide +kernel

theorem witness_TripsWaitOrLatch :
    (let s := (stageAt chRun).setF (Regs.CH_STAT 0) 16 4 3
     (stageAt chRun).test 0 = none ∧ (stageAt chRun).chState 0 = chRun ∧
       (stageAt chRun).f (Regs.CH_STAT 0) 16 4 < (stageAt chRun).f (Regs.CH_CFG 0) 12 4 ∧
       s.test 0 = none ∧ s.chState 0 = chRun ∧ s.f (Regs.CH_STAT 0) 16 4 = s.f (Regs.CH_CFG 0) 12 4) := by decide +kernel

theorem witness_PrivacyMuteSetsItsFlag :
    atReset.power.cold = false ∧ atReset.privacy = false ∧ (atReset.setB Regs.MIC_PRIV 31 true).privacy = true := by decide +kernel

theorem witness_TwcQueuesKeepTheirOrder :
    (atReset.twc 2).discard = false ∧ (atReset.twc 2).rx = [] ∧
    ((atReset.setTwc 2 { atReset.twc 2 with rx := [0xA5, 0x5A] }).twc 2).rx = [0xA5, 0x5A] := by decide +kernel

theorem witness_OtpBitsAreNeverCleared :
    (let s : State := { atReset.setW (otpKey 511) 0x80000001 with sec := { atReset.sec with otpProg := some (511, 0x2) } }
     s.sec.otpProg = some (511, 0x2) ∧ (s.otp 511).getLsbD 31 = true ∧ ((s.otpProgDone true).otp 511) = 0x80000003) := by decide +kernel

theorem witness_SessionEndTakesBackItsActions : (owned 2).inSession .twt = true := by decide +kernel

theorem witness_ClearedFaultsAreNotActive :
    faulted.faultActive 0x60 0 = true ∧ faulted.faultActive 0x60 1 = false := by decide +kernel

theorem witness_FallbackHoldsLevelsAtSafeCodes :
    (State.reset.tongsFallback 2).f Regs.TONGS_STAT 24 3 = 2 ∧ (State.reset.tongsFallback 2).faultActive 0x3D pgTongs = true := by
  decide +kernel

/-- I2S with 16-bit words: slot 0 begins in bit 1, and a line that shows 1 in its last bit alone reads as the word 1. -/
theorem witness_SlotsCarryTheirWord :
    (∀ j < fmtWordBits 0, (fun b => decide (b = fmtSlotStart 0 0 + (fmtWordBits 0 - 1))) (fmtSlotStart 0 0 + j) = fmtSlotBit 0 1 j) ∧
    fmtReadWord 0 (fun b => decide (b = fmtSlotStart 0 0 + (fmtWordBits 0 - 1))) 0 = 1 := by decide +kernel

/-! ### The anvil decoder: words written out bit by bit from the formats of R321 and R330 -/

theorem test_decode_system_and_alu :
    decodeAnvil 0b00000000000000000000000000000011 = some (.sys 3) ∧
    decodeAnvil 0b00000010011000100100000000000001 = some (.alu 0x01 3 1 2 false) ∧
    decodeAnvil 0b00000010110001001001000000000010 = some (.alu 0x02 6 2 4 true) ∧
    decodeAnvil 0b00000100101000001111111111111110 = some (.imm 0 5 0xFFFE) := by decide +kernel

theorem test_decode_accumulator_and_memory :
    decodeAnvil 0b00000110000110000110000000000100 = some (.acc 4 0 1 1 3) ∧
    decodeAnvil 0b00001000100000011100000000010001 = some (.load 0 4 3 2 0 0x11) ∧
    decodeAnvil 0b00001010010001101010110000000000 = some (.store 1 2 5 1 6 0) ∧
    decodeAnvil 0b00001100000000001010111000000000 = some (.norm 0 0 1 1 7 0) := by decide +kernel

theorem test_decode_address_control_and_branch :
    decodeAnvil 0b00001110101000000010000000000101 = some (.addr 2 1 0x2005) ∧
    decodeAnvil 0b00010001010100100000000000000000 = some (.ctl true 0xA true 0x08) ∧
    decodeAnvil 0b00010010010000000100000000000000 = some (.ctl false 2 false 0x01) ∧
    decodeAnvil 0b00010100001010000000010000000001 = some (.br 1 1 0x401) ∧
    decodeAnvil 0b00010110100000000001100000000111 = some (.loop 1 false 3 7) := by decide +kernel

theorem test_decode_billet_handle_coprocessor_bus_and_lane :
    decodeAnvil 0b00011000000100001010000000110000 = some (.billet 0 2 5 0 0 3) ∧
    decodeAnvil 0b00011010110110010100000000000000 = some (.handle 3 3 2 true) ∧
    decodeAnvil 0b00011101010100001001100000000000 = some (.cop 5 4 2 6) ∧
    decodeAnvil 0b00011111001000100000000000000000 = some (.bus true 2 2) ∧
    decodeAnvil 0b10111010000101110110100000000000 = some (.lane 1 1 10 1 1 true true 3 2 false 0 0 0) := by decide +kernel

/-- A reserved opcode, a reserved bit and a reserved pair of an odd register spell nothing (R312, R319). -/
theorem test_decode_refuses_reserved :
    decodeAnvil 0b00100000000000000000000000000000 = none ∧
    decodeAnvil 0b10111010000101110110100000000001 = none ∧
    decodeAnvil 0b00000010011000100101000000000001 = none := by decide +kernel

/-! ### Single steps, expected results from the specification -/

/-- The state that a step leaves with one command waiting. -/
def ran (c : Instr) (s : State) (p : State → Bool) : Bool := nextIs (step { s with pending := [c] }) p

/-- R108: an edge of the slow clock in EMBER adds 3,000; the commands behind it still wait. -/
theorem test_slow_edge :
    (nextIs (step { atReset.setF Regs.PWR_STAT 0 3 stEmber with pending := [.slowClockEdge, .tbTick] }) fun t =>
      t.tb == 3000 && t.pending == [.tbTick]) = true := by decide +kernel

/-- With nothing waiting the block idles. -/
theorem test_idle : (nextIs (step atReset) fun t => decide (t = atReset)) = true := by decide +kernel

/-- R41: a write to a reserved page records page, word and RESERVED in SYS.PG_ERR. -/
theorem test_reserved_page : (ran (.registerWrite .twt 0xFF 0x3FC 1) atReset fun t => t.w (Regs.PG_ERR 0) == 0x00FFFF05) = true := by
  decide +kernel

/-- R157: the first weld opened is weld 1, and its opener reads 1. -/
theorem test_weld_open :
    (ran (.weldOpen .twt) atReset fun t => t.fabric.readData.get 0 (masterNum .twt) == 1 && (t.weldOf 1).isSome) = true := by decide +kernel

/-- R324: 0x7FFF + 1 wraps to 0x8000 with V, and to 0x7FFF with V and S while md.SAT is 1. Z, C clear; N follows the result. -/
theorem test_add_wraps :
    (ran (.add 0 2 0 1 false) (running.setAnv 0 ((((running.anv 0).setReg 0 0x7FFF).setReg 1 1).setCr 0x11 0)) fun t =>
      (t.anv 0).reg 2 == 0x8000 && (t.anv 0).st == 0b01010 && (t.anv 0).pc == 1) = true := by decide +kernel

theorem test_add_saturates :
    (ran (.add 0 0 0 1 false) (running.setAnv 0 ((((running.anv 0).setReg 0 0x7FFF).setReg 1 1).setCr 0x11 2)) fun t =>
      (t.anv 0).reg 0 == 0x7FFF && (t.anv 0).st == 0b11000) = true := by decide +kernel

/-- R348, R358: BRK enters its handler at vbase + 2 × 7 with epc naming BRK's successor. -/
theorem test_brk_enters_handler :
    (ran (.brk 0) (running.setAnv 0 { (running.anv 0).setCr 0x22 0x40 with pc := 5 }) fun t =>
      (t.anv 0).pc == 0x4E && (t.anv 0).exl) = true := by decide +kernel

/-- R388: a stage in RUN that trips with retries left is TRIPPED and retries 500 ms later. -/
theorem test_trip :
    (ran (.stageTrip 0) (stageAt chRun) fun t => t.chState 0 == chTripped && (t.chan 0).due == 49152000) = true := by decide +kernel

/-- R461, R465: the privacy mute sets MIC.PRIV's flag; the release clears it. -/
theorem test_privacy_mute : (ran .privacyMuteAssert atReset fun t => t.privacy) = true := by decide +kernel

/-- R502, R503: SET_PTR and WRITE_WORD write GPIO.OUT over TWT, b0 first, and move the pointer on. -/
theorem test_twt_write :
    (ran (.setPtr [0x7E, 0x13]) atReset fun s => ran (.writeWord [0x21, 0x43, 0, 0]) s fun t =>
      t.w Regs.GPIO_OUT == 0x4321 && t.twtPtr == 0x7E14) = true := by decide +kernel

/-- R574: programming ors the word in; a cleared bit stays programmed. -/
theorem test_otp :
    (ran (.otpProg .twt 0x6) (otpPicked.setW (otpKey 0x060) 0x9) fun s =>
      ran (.otpProgDone true) s fun t => t.otp 0x060 == 0xF && !t.b Regs.OTP_STAT 0) = true := by decide +kernel

/-- R142: a put with an old generation returns its billet to FREE and counts in STALE_PUT. -/
theorem test_stale_put :
    (ran (.billetPut 9 0 0 0 0 0 0 []) outdated fun t => t.isFree 0 && t.f Regs.STOCK_EVT 16 16 == 1) = true := by decide +kernel

end SmallTests
end

section
/-!
PROOFS. Strokes of the timebase (chapter 00, R15 and R16).
-/
namespace Sys2Proof.Machine

/-- R15: both stroke lengths are above 0. -/
theorem State.strokeLen_pos (s : State) : 0 < s.strokeLen := by
  unfold State.strokeLen
  split <;> decide

/-- The boundaries are exactly the multiples of the stroke length. -/
theorem State.exists_eq_boundaryTick_iff (s : State) (t : Nat) : (∃ j, t = s.boundaryTick j) ↔ t % s.strokeLen = 0 :=
  dvd_iff_exists_eq_mul_left.symm.trans Nat.dvd_iff_mod_eq_zero

/-- A stroke's number is `k` exactly from boundary `k` up to the tick before boundary `k + 1`. -/
theorem State.strokeNo_eq_iff (s : State) (k : Nat) :
    s.strokeNo = k ↔ s.boundaryTick k ≤ s.tb ∧ s.tb < s.boundaryTick (k + 1) :=
  calc
    s.strokeNo = k ↔ k ≤ s.strokeNo ∧ s.strokeNo < k + 1 := by omega
    _ ↔ s.boundaryTick k ≤ s.tb ∧ s.tb < s.boundaryTick (k + 1) :=
      and_congr (Nat.le_div_iff_mul_le s.strokeLen_pos) (Nat.div_lt_iff_lt_mul s.strokeLen_pos)

/-- Settles O22: the stroke length is above 0, so the timebase's quotient by it numbers the strokes and its remainder marks the boundaries. -/
theorem strokesAreNumberedFromTheTimebase : Obligations.StrokesAreNumberedFromTheTimebase :=
  fun s k => ⟨s.exists_eq_boundaryTick_iff s.tb, s.strokeNo_eq_iff k⟩

end Sys2Proof.Machine
end

section
/-!
PROOFS. What follows a command at once: after a command that leaves a quiet state, nothing does.
-/
namespace Sys2Proof.Machine

/-! ### The parts of `State.settle`, each where its condition does not hold -/

/-- A fold stays at its start when no element of the list moves it. -/
theorem foldl_eq_start {α β : Type} {f : β → α → β} {b : β} {l : List α} (h : ∀ a ∈ l, f b a = b) : l.foldl f b = b := by
  induction l with
  | nil => rfl
  | cons a l ih =>
    rw [List.foldl_cons, h a List.mem_cons_self]
    exact ih fun x hx => h x (List.mem_cons_of_mem a hx)

theorem State.anvSteps_of_no_request {s : State} (h : ∀ x ∈ s.anvs, x.2.stepReq = false) : s.anvSteps = s := by
  have noRequest : s.anvs.filter (fun (x : Nat × Anv) => x.2.stepReq) = [] := List.filter_eq_nil_iff.2 fun x hx => by simp [h x hx]
  rw [State.anvSteps, noRequest, List.foldl_nil]

theorem State.takeover_of_not_due {s : State} (h : s.fault.takeover = false) : s.takeover = s := by
  simp [State.takeover, h]

/-- The codes SYNC and MIRROR, in which an attach moves on, are both codes of a mirroring pair. -/
theorem State.pairAdvance_of_not_mirrors {s : State} (h : s.mirrors = false) : s.pairAdvance = s := by
  have codes : s.pr ≠ prSync ∧ s.pr ≠ prMirror := by
    simp only [State.mirrors, List.contains_eq_mem, decide_eq_false_iff_not, List.mem_cons, not_or] at h
    exact ⟨h.1, h.2.1⟩
  simp [State.pairAdvance, codes]

theorem State.profileStep_of_none {s : State} (h : s.pair.prof = none) : s.profileStep = s := by
  simp [State.profileStep, h]

theorem State.jobStep_of_nil {s : State} (h : s.pair.jobs = []) : s.jobStep = s := by
  simp [State.jobStep, h]

theorem State.listWatch_of_none {s : State} (h : s.img.weld = none) : s.listWatch = s := by
  simp [State.listWatch, h]

theorem State.loopAbort_of_none {s : State} (h : s.tst.loop = none) : s.loopAbort = s := by
  simp [State.loopAbort, h]

theorem State.asrcFollow_of_off {s : State} {n : Nat} (h : s.en (pgAsrc n) = false) : s.asrcFollow n = s := by
  simp [State.asrcFollow, h]

theorem State.txStalledDrain_of_none_stalled {s : State} (h : ∀ n < 6, s.sapState n false ≠ 3) : s.txStalledDrain = s :=
  foldl_eq_start fun n hn => if_neg (h n (List.mem_range.1 hn))

theorem State.transitDone_of_nil {s : State} (h : s.pair.transit = []) : s.transitDone = s := by
  simp [State.transitDone, h]

theorem State.creditCheck_of_ok {s old : State} (h : s.creditsOk old = true) : s.creditCheck old = s := if_pos h

/-- A command that leaves the Stock as it was has no credit to check. -/
theorem State.creditsOk_of_same_stock {s old : State} (h : s.stock = old.stock) : s.creditsOk old = true := by
  simp [State.creditsOk, h]

/-- The fault STOCK_OVERCOMMIT already shows whether COMMITTED exceeds its limit. -/
theorem State.overcommitCheck_of_shown {s : State} (h : s.overcommitted = s.faultActive 0x11 0x06) : s.overcommitCheck = s := by
  cases active : s.faultActive 0x11 0x06 <;> simp [State.overcommitCheck, State.clearFault, h, active]

theorem State.idsLevel_of_shown {s : State} (h : s.b (Regs.IRQ_RAW pgWeld) 4 = s.freeIds.isEmpty) : s.idsLevel = s := if_pos h

theorem State.schedLevel_of_shown {s : State} (h : s.b (Regs.IRQ_RAW pgSched) 3 = decide (schedSize ≤ s.sched.length)) :
    s.schedLevel = s := if_pos h

theorem State.logChanges_of_not_mirrors {s : State} (old : State) (h : s.mirrors = false) : s.logChanges old = s := by
  simp [State.logChanges, h]

/-! ### Quiet states -/

/-- What a quiet state is, condition by condition, in the order of `State.settle`. -/
theorem State.quiet_iff (s : State) :
    s.quiet = true ↔ (∀ x ∈ s.anvs, x.2.stepReq = false) ∧ s.fault.takeover = false ∧ s.mirrors = false ∧ s.pair.prof = none ∧
      s.pair.jobs = [] ∧ s.img.weld = none ∧ s.tst.loop = none ∧ (∀ n < 12, s.en (pgAsrc n) = false) ∧
      (∀ n < 6, s.sapState n false ≠ 3) ∧ s.pair.transit = [] ∧ s.overcommitted = s.faultActive 0x11 0x06 ∧
      s.b (Regs.IRQ_RAW pgWeld) 4 = s.freeIds.isEmpty ∧ s.b (Regs.IRQ_RAW pgSched) 3 = decide (schedSize ≤ s.sched.length) := by
  simp only [State.quiet, Bool.and_eq_true, Bool.not_eq_true', List.all_eq_true, List.mem_range, bne_iff_ne, beq_iff_eq,
    Option.isNone_iff_eq_none, List.isEmpty_iff, and_assoc]

/-- Nothing follows a command that leaves a quiet state in which the credit equations hold. -/
theorem State.settle_of_quiet {t old : State} (hq : t.quiet = true) (hc : t.creditsOk old = true) : t.settle old = t := by
  obtain ⟨hstep, htake, hpair, hprof, hjobs, himg, hloop, hasrc, hsap, htransit, hover, hids, hsched⟩ := (State.quiet_iff t).1 hq
  have follow : (List.range 12).foldl (fun (s : State) (n : Nat) => s.asrcFollow n) t = t :=
    foldl_eq_start fun n hn => State.asrcFollow_of_off (hasrc n (List.mem_range.1 hn))
  simp only [State.settle, State.anvSteps_of_no_request hstep, State.takeover_of_not_due htake, State.pairAdvance_of_not_mirrors hpair,
    State.profileStep_of_none hprof, State.jobStep_of_nil hjobs, State.listWatch_of_none himg, State.loopAbort_of_none hloop, follow,
    State.txStalledDrain_of_none_stalled hsap, State.transitDone_of_nil htransit, State.creditCheck_of_ok hc,
    State.overcommitCheck_of_shown hover, State.idsLevel_of_shown hids, State.schedLevel_of_shown hsched,
    State.logChanges_of_not_mirrors old hpair]

/-- A command that leaves a quiet, canonical state, in which the credit equations hold, ends with the state of its own effect. -/
theorem State.ends_of_quiet {s t : State} (hq : t.quiet = true) (hw : Memory.wf t = true) (hc : t.creditsOk s = true)
    (hp : t.pending = s.pending) : s.ends t = t := by
  rw [State.ends, State.settle_of_quiet hq hc]
  exact State.commit_of_wf hw hp

end Sys2Proof.Machine
end

section
/-!
PROOFS. Reserved pages (chapter 02, R41).
-/
namespace Sys2Proof.Machine

/-! ### Recording an error -/

/-- PG_ERR is the word of index 12 in its page: a word of another index stays as it is when PG_ERR of any page is written. -/
theorem State.w_setW_PG_ERR (s : State) (p : Nat) (v : Word) {k : Nat} (h : k % 256 ≠ 12) :
    (s.setW (Regs.PG_ERR p) v).w k = s.w k :=
  State.w_setW_other s v (by rintro rfl; exact h (by simp [Regs.PG_ERR]))

/-- No word that tells whether a state is quiet is a PG_ERR. -/
theorem State.quiet_setW_PG_ERR (s : State) (p : Nat) (v : Word) : (s.setW (Regs.PG_ERR p) v).quiet = s.quiet := by
  have mirrors : (s.setW (Regs.PG_ERR p) v).mirrors = s.mirrors := by
    simp only [State.mirrors, State.pr, State.f, s.w_setW_PG_ERR p v (k := Regs.PAIR_STAT) (by decide)]
  have en (n : Nat) : (s.setW (Regs.PG_ERR p) v).en (pgAsrc n) = s.en (pgAsrc n) := by
    simp only [State.en, State.b, s.w_setW_PG_ERR p v (k := Regs.PG_CTRL (pgAsrc n)) (by simp [Regs.PG_CTRL])]
  have sap (n : Nat) : (s.setW (Regs.PG_ERR p) v).sapState n false = s.sapState n false := by
    simp only [State.sapState, State.f, s.w_setW_PG_ERR p v (k := Regs.SAP_STAT n) (by simp [Regs.SAP_STAT])]
  have raw (q i : Nat) : (s.setW (Regs.PG_ERR p) v).b (Regs.IRQ_RAW q) i = s.b (Regs.IRQ_RAW q) i := by
    simp only [State.b, s.w_setW_PG_ERR p v (k := Regs.IRQ_RAW q) (by simp [Regs.IRQ_RAW])]
  simp only [State.quiet, mirrors, en, sap, raw]
  rfl

/-- A command that only records an error in a PG_ERR ends with just that, where nothing waited to follow. -/
theorem State.ends_errOn {s : State} (p a off code : Nat) (hq : s.quiet = true) (hw : Memory.wf s = true) :
    s.ends (s.errOn p a off code) = s.errOn p a off code :=
  State.ends_of_quiet ((State.quiet_setW_PG_ERR s p _).trans hq) (State.errOn_wf p a off code hw) (State.creditsOk_of_same_stock rfl) rfl

/-! ### Accesses to a reserved page -/

/-- The anvils' pages, whose MDATA moves a selector on, are not reserved. -/
theorem State.afterAccess_of_reserved (s : State) (m : Master) {p : Nat} (off : Nat) (h : pageKind p = none) :
    s.afterAccess m p off = s := by
  refine if_neg fun ⟨lo, hi, _⟩ => ?_
  have anvil : pageKind p = some .anv := by
    unfold pageKind
    simp (disch := omega) only [if_neg, lo, hi, and_self, if_true]
  simp [anvil] at h

theorem State.busWrite_of_reserved (s : State) (m : Master) {p : Nat} (off : Nat) (v : Word) (h : pageKind p = none) :
    s.busWrite m p off v = (false, s.errOn 0 p off errReserved) := by
  simp [State.busWrite, h]

theorem State.busRead_of_reserved (s : State) (m : Master) {p : Nat} (off : Nat) (h : pageKind p = none) :
    s.busRead m p off = (0, s) := by
  simp [State.busRead, h]

theorem State.ctlWrite_of_reserved (s : State) (m : Master) {p : Nat} (off : Nat) (v : Word) (h : pageKind p = none) :
    s.ctlWrite m p off v = s.errOn 0 p off errReserved := by
  rw [State.ctlWrite, State.busWrite_of_reserved s m off v h, State.afterAccess_of_reserved _ m off h]

/-- Settles O26: an access to a reserved page reaches no register; the write's one effect, the record in SYS.PG_ERR, lets nothing follow. -/
theorem reservedPagesHoldNothing : Obligations.ReservedPagesHoldNothing := by
  intro m p off v s hp
  refine ⟨fun hwf hreach hq hw => ?_, State.busRead_of_reserved s m off hp, fun q _ => State.w_setW_PG_ERR s 0 v (by simp [Regs.PG_EVT])⟩
  have served : (m.ok && wordAt p off && s.reaches m p) = true := by
    rw [hreach, Bool.and_true]
    exact hwf
  rw [exec_registerWrite, State.row_of _ served, State.ctlWrite_of_reserved s m off v hp, State.ends_errOn 0 p off errReserved hq hw]
  rfl

end Sys2Proof.Machine
end

section
/-!
PROOFS. The count while the slow clock carries it (chapter 04, R108).
-/
namespace Sys2Proof.Machine

/-- The count decides nothing of what follows a command: one that moves the count alone ends with just that, where nothing waited to
follow. -/
theorem State.ends_setTb {s : State} (t : Nat) (hq : s.quiet = true) (hw : Memory.wf s = true) :
    s.ends { s with tb := t } = { s with tb := t } :=
  have quiet : State.quiet { s with tb := t } = true := hq
  State.ends_of_quiet quiet hw (State.creditsOk_of_same_stock rfl) rfl

/-- A command that leaves a quiet, canonical state as it was ends with that state. -/
theorem State.ends_self {s : State} (hq : s.quiet = true) (hw : Memory.wf s = true) : s.ends s = s :=
  State.ends_setTb s.tb hq hw

/-- R108: where the slow clock carries the count, its edge adds 3,000. -/
theorem State.slowEdge_of_slowCarried {s : State} (hc : s.power.cold = false) (h : s.slowCarried = true) :
    s.slowEdge = { s with tb := (s.tb + 3000) % 2 ^ 64 } := by
  simp [State.slowEdge, tbWrap, hc, h]

/-- R108: where the slow clock carries the count, the fast clock's tick leaves it. -/
theorem State.tick_of_slowCarried {s : State} (h : s.slowCarried = true) : s.tick = s := by
  simp [State.tick, h]

/-- Settles O23: while the slow clock carries the count, its edge moves the count alone and a tick moves nothing, so nothing follows
either. -/
theorem slowClockCarriesTheCount : Obligations.SlowClockCarriesTheCount := by
  intro s hq hw hcold hslow
  constructor
  · rw [exec_slowClockEdge, State.row_of _ rfl, State.slowEdge_of_slowCarried hcold hslow, State.ends_setTb _ hq hw]
  · rw [exec_tbTick, State.row_of _ rfl, State.tick_of_slowCarried hslow, State.ends_self hq hw]

end Sys2Proof.Machine
end

section
/-!
PROOFS. Grants that have become stale (chapter 05, R142).
-/
namespace Sys2Proof.Machine

/-! ### Location records -/

/-- The location records read as a sparse store does. -/
theorem State.own_eq_find (s : State) (b : Nat) : s.own b = Sparse.find s.stock.own b := by
  rw [State.own]
  induction s.stock.own with
  | nil => rfl
  | cons x l ih => by_cases h : x.1 = b <;> simp [Sparse.find, h, ih]

@[simp] theorem State.own_setQueue (s : State) (q : Nat) (x : Queue) (b : Nat) : (s.setQueue q x).own b = s.own b := rfl

theorem State.own_setOwn_same (s : State) (b : Nat) (o : Own) : (s.setOwn b o).own b = some o := by
  rw [State.own_eq_find]
  exact Sparse.find_put_same s.stock.own b o

/-! ### A grant carries its queue's generation -/

theorem State.own_of_draw {s t : State} {q b : Nat} {l : Loc} (h : s.draw q l = (some b, t)) :
    t.own b = some { queue := q, loc := l, gen := (s.queue q).gen } := by
  simp only [State.draw] at h
  split at h
  case h_1 => cases h
  case h_2 =>
    cases h
    rw [State.own_setQueue, State.own_setOwn_same]

/-- A grant that gives a billet is a draw. -/
theorem State.own_of_grant {s t : State} {q b : Nat} {l : Loc} (h : s.grant q l = (some b, t)) :
    t.own b = some { queue := q, loc := l, gen := (s.queue q).gen } := by
  simp only [State.grant] at h
  split at h
  · cases h
  · exact State.own_of_draw h

/-! ### Which puts are refused -/

theorem State.put_of_refused {s : State} {q b gen : Nat} (t : Tag) (data : List Word) (h : s.putRefused q b gen = true) :
    s.put q b gen t data = s.stalePut q b gen := by
  unfold State.put
  cases s.own b with
  | none => rfl
  | some o => exact if_pos h

/-- R142: another generation than the queue's, or a disabled queue, refuses the put. -/
theorem State.putRefused_of_outdated {s : State} {q gen : Nat} (b : Nat) (h : gen ≠ (s.queue q).gen ∨ (s.queue q).on = false) :
    s.putRefused q b gen = true := by
  rcases h with h | h <;> simp [State.putRefused, h]

theorem State.grantStands_of_own {s : State} {b : Nat} {o : Own} (h : s.own b = some o) : s.grantStands o.queue b o.gen = true := by
  simp [State.grantStands, h]

/-! ### What a release changes -/

@[simp] theorem State.creditBack_own (s : State) (q : Nat) : (s.creditBack q).stock.own = s.stock.own := by
  unfold State.creditBack
  split <;> rfl

@[simp] theorem State.creditBack_quar (s : State) (q : Nat) : (s.creditBack q).stock.quar = s.stock.quar := by
  unfold State.creditBack
  split <;> rfl

@[simp] theorem State.creditBack_words (s : State) (q : Nat) : (s.creditBack q).words = s.words := by
  unfold State.creditBack
  split <;> rfl

/-- A release is the ledger's business: it writes no register word. -/
theorem State.release_words (s : State) (b : Nat) : (s.release b).words = s.words := by
  unfold State.release
  split
  · rfl
  · exact State.creditBack_words _ _

/-- R137: a billet that is released from where it was held is FREE, unless it is in QUARANTINE. -/
theorem State.isFree_release {s : State} {b : Nat} {o : Own} (hb : b < 65536) (ho : s.own b = some o)
    (hq : s.stock.quar.contains b = false) : (s.release b).isFree b = true := by
  have own : (s.release b).stock.own = s.stock.own.filter fun x => x.1 != b := by
    simp only [State.release, ho]
    exact State.creditBack_own _ _
  have quar : (s.release b).stock.quar = s.stock.quar := by
    simp only [State.release, ho]
    exact State.creditBack_quar _ _
  rw [State.isFree, own, quar, hq]
  simp [hb]

/-! ### What a refused put leaves -/

theorem State.returnGrant_words (s : State) (q b gen : Nat) : (s.returnGrant q b gen).words = s.words := by
  unfold State.returnGrant
  split
  · exact s.release_words b
  · rfl

/-- The Stock after a refused put is as the return of the grant leaves it: the count and the interrupt touch register words alone. -/
theorem State.stalePut_stock (s : State) (q b gen : Nat) : (s.stalePut q b gen).stock = (s.returnGrant q b gen).stock := rfl

/-- What a saturating counter reads as when it has counted one more. -/
theorem State.f_incF_same (s : State) (k lo len : Nat) (hl : lo + len ≤ 32) :
    (s.incF k lo len).f k lo len = min (2 ^ len - 1) (s.f k lo len + 1) := by
  have cap : satU (2 ^ len - 1) (s.f k lo len + 1) = min (2 ^ len - 1) (s.f k lo len + 1) := by
    unfold satU
    split <;> omega
  have small : min (2 ^ len - 1) (s.f k lo len + 1) < 2 ^ len := by
    have := Nat.two_pow_pos len
    omega
  rw [State.incF, State.addF, State.f_setF_same _ _ _ _ _ hl, cap, Nat.mod_eq_of_lt small]

/-- R142: STALE_PUT counts a refused put, whether or not its billet returns. -/
theorem State.stalePut_counts (s : State) (q b gen : Nat) :
    (s.stalePut q b gen).f Regs.STOCK_EVT 16 16 = min 65535 (s.f Regs.STOCK_EVT 16 16 + 1) := by
  have before : (s.returnGrant q b gen).f Regs.STOCK_EVT 16 16 = s.f Regs.STOCK_EVT 16 16 := by
    simp only [State.f, State.w, State.returnGrant_words]
  calc
    (s.stalePut q b gen).f Regs.STOCK_EVT 16 16 = ((s.returnGrant q b gen).incF Regs.STOCK_EVT 16 16).f Regs.STOCK_EVT 16 16 :=
      State.f_setF_other _ _ _ _ _ _ (by decide)
    _ = min (2 ^ 16 - 1) ((s.returnGrant q b gen).f Regs.STOCK_EVT 16 16 + 1) := State.f_incF_same _ _ _ _ (by decide)
    _ = min 65535 (s.f Regs.STOCK_EVT 16 16 + 1) := by rw [before]; norm_num

/-- A grant that no longer stands returns nothing. -/
theorem State.returnGrant_of_not_stands {s : State} {q b gen : Nat} (h : s.grantStands q b gen = false) :
    s.returnGrant q b gen = s := by
  simp [State.returnGrant, h]

/-- R142: the billet of a refused put, still held under its grant, returns to FREE. -/
theorem State.isFree_stalePut {s : State} {b : Nat} {o : Own} (hb : b < 65536) (ho : s.own b = some o)
    (hq : s.stock.quar.contains b = false) : (s.stalePut o.queue b o.gen).isFree b = true := by
  have returned : s.returnGrant o.queue b o.gen = s.release b := if_pos (State.grantStands_of_own ho)
  simp only [State.isFree, State.stalePut_stock, returned]
  exact State.isFree_release hb ho hq

/-- Settles O34: a grant's location record carries the queue's generation; a refused put releases a billet that is held under its grant
and no other, and counts in STALE_PUT either way. -/
theorem stalePutsReturnTheirBillet : Obligations.StalePutsReturnTheirBillet := by
  refine ⟨fun s q b l t h => ⟨_, State.own_of_grant h, rfl⟩,
    fun s q b gen t data h => State.put_of_refused t data (State.putRefused_of_outdated b h),
    fun s q b gen h => ⟨?_, s.stalePut_counts q b gen⟩, ?_⟩
  · rw [State.stalePut_stock, State.returnGrant_of_not_stands h]
  · rintro s q b gen stamp count offset flags data o hwf hawake ho rfl rfl hquar houtdated
    have hb : b < 65536 := by
      simp only [Instr.wf, below, Bool.and_eq_true, decide_eq_true_eq] at hwf
      exact hwf.2
    refine ⟨?_, State.isFree_stalePut hb ho hquar, s.stalePut_counts o.queue b o.gen⟩
    have served : (below 1024 o.queue && below 65536 b && s.awake) = true := by
      rw [hawake, Bool.and_true]
      exact hwf
    rw [exec_billetPut, State.row_of _ served, State.put_of_refused _ _ (State.putRefused_of_outdated b houtdated)]

end Sys2Proof.Machine
end

section
/-!
PROOFS. The overflow rule of the anvils' sums (chapter 11, R323 and R324).
-/
namespace Sys2Proof.Machine

/-! ### Numbers of `n` bits -/

/-- Only the low `n` bits of a number decide its two's-complement value. -/
theorem sext_mod (n v : Nat) : sext n (v % 2 ^ n) = sext n v := by
  simp only [sext, Nat.mod_mod]

/-- A number in the signed range of `n` bits is the one that its low `n` bits stand for. -/
theorem sext_unsign_of_fitsS {n : Nat} {t : Int} (hn : 0 < n) (h : fitsS n t = true) : sext n (unsign n t) = t := by
  obtain ⟨m, rfl⟩ : ∃ m, n = m + 1 := ⟨n - 1, by omega⟩
  have double : (2 : Nat) ^ (m + 1) = 2 * 2 ^ m := by ring
  have half : (2 : Int) ^ m = ((2 ^ m : Nat) : Int) := by norm_cast
  have pos := Nat.two_pow_pos m
  simp only [fitsS, Bool.and_eq_true, decide_eq_true_eq, Nat.add_sub_cancel, half] at h
  simp only [sext, unsign, double, Nat.add_sub_cancel]
  generalize 2 ^ m = p at *
  rcases Int.lt_or_le t 0 with neg | nonneg
  · have wrapped : t % ((2 * p : Nat) : Int) = t + (2 * p : Nat) := by
      rw [← Int.add_emod_right, Int.emod_eq_of_lt] <;> omega
    rw [wrapped, Nat.mod_eq_of_lt (by omega), if_neg (by omega)]
    omega
  · rw [Int.emod_eq_of_lt nonneg (by omega), Nat.mod_eq_of_lt (by omega), if_pos (by omega)]
    omega

/-- Numbers of `n` bits are equal as signed ones exactly where their low bits are. -/
theorem sext_eq_iff (n x y : Nat) : sext n x = sext n y ↔ x % 2 ^ n = y % 2 ^ n := by
  have hx : x % 2 ^ n < 2 ^ n := Nat.mod_lt _ (Nat.two_pow_pos n)
  have hy : y % 2 ^ n < 2 ^ n := Nat.mod_lt _ (Nat.two_pow_pos n)
  unfold sext
  generalize 2 ^ n = p at *
  split <;> split <;> omega

/-! ### Bits of a number, and the flags in st (R314) -/

/-- A number with bit `i` set or cleared, by its parts above and below that bit. -/
theorem putBit_eq_parts (v i : Nat) (b : Bool) : putBit v i b = 2 ^ i * (2 * (v / 2 ^ i / 2) + b2n b) + v % 2 ^ i := by
  have low := Nat.div_add_mod v (2 ^ i)
  have bit := Nat.div_add_mod (v / 2 ^ i) 2
  have parts : v = 2 ^ i * (2 * (v / 2 ^ i / 2)) + 2 ^ i * (v / 2 ^ i % 2) + v % 2 ^ i := by rw [← Nat.mul_add, bit, low]
  have read : v.testBit i = decide (v / 2 ^ i % 2 = 1) := Nat.testBit_eq_decide_div_mod_eq
  rw [putBit, Nat.mul_add]
  rcases Nat.mod_two_eq_zero_or_one (v / 2 ^ i) with clear | set
  · simp only [clear, Nat.mul_zero] at parts read
    cases b <;> simp [read, b2n] <;> omega
  · simp only [set, Nat.mul_one] at parts read
    cases b <;> simp [read, b2n] <;> omega

@[simp] theorem testBit_putBit (v i j : Nat) (b : Bool) : (putBit v i b).testBit j = if j = i then b else v.testBit j := by
  have small : v % 2 ^ i < 2 ^ i := Nat.mod_lt _ (Nat.two_pow_pos i)
  rw [putBit_eq_parts, Nat.testBit_two_pow_mul_add _ small]
  rcases Nat.lt_trichotomy j i with below | rfl | above
  · simp [below, below.ne, Nat.testBit_mod_two_pow]
  · cases b <;> simp [b2n]
  · obtain ⟨k, rfl⟩ := Nat.exists_eq_add_of_lt above
    have rest : (2 * (v / 2 ^ i / 2) + b2n b) / 2 = v / 2 ^ i / 2 := by cases b <;> simp [b2n]; omega
    have shift : i + k + 1 - i = k + 1 := by omega
    have place : k + 1 + i = i + k + 1 := by omega
    rw [if_neg (by omega), if_neg (by omega), shift, Nat.testBit_succ, rest, ← Nat.testBit_succ, Nat.testBit_div_two_pow, place]

/-- A bit that is already as asked stays, and with it the number. -/
theorem putBit_of_testBit {v i : Nat} {b : Bool} (h : v.testBit i = b) : putBit v i b = v :=
  if_pos h

@[simp] theorem putBit_testBit_self (v i : Nat) : putBit v i (v.testBit i) = v :=
  putBit_of_testBit rfl

theorem b2n_testBit (v i : Nat) : b2n (v.testBit i) = v / 2 ^ i % 2 := by
  rcases Nat.mod_two_eq_zero_or_one (v / 2 ^ i) with h | h <;> simp [b2n, Nat.testBit_eq_decide_div_mod_eq, h]

theorem flagWord_testBits (v : Nat) :
    flagWord (v.testBit 0) (v.testBit 1) (v.testBit 2) (v.testBit 3) (v.testBit 4) = v % 2 ^ 5 := by
  simp only [flagWord, b2n_testBit]
  omega

/-- What st keeps of a word are its five flags (R314). -/
theorem Anv.setCr_st (a : Anv) (v : Nat) :
    a.setCr 0x10 v = a.setCr 0x10 (flagWord (v.testBit 0) (v.testBit 1) (v.testBit 2) (v.testBit 3) (v.testBit 4)) := by
  have mask : crMask 0x10 = 2 ^ 5 - 1 := rfl
  simp only [flagWord_testBits, Anv.setCr, mask, Nat.and_two_pow_sub_one_eq_mod, Nat.mod_mod]

@[simp] theorem Calc.carry_val (c : Calc) (b : Bool) : (c.carry b).val = c.val := rfl

@[simp] theorem Calc.testBit_zn_st (c : Calc) (i : Nat) :
    c.zn.st.testBit i = if i = 1 then decide (c.val < 0) else if i = 0 then decide (c.val = 0) else c.st.testBit i := by
  simp [Calc.zn]

@[simp] theorem Calc.testBit_carry_st (c : Calc) (b : Bool) (i : Nat) :
    (c.carry b).st.testBit i = if i = 2 then b else c.st.testBit i := by
  simp [Calc.carry]

/-! ### The overflow rule (R324) -/

/-- `t` lies outside the signed range of `n` bits. -/
def overflows (n : Nat) (t : Int) : Bool := decide (t > 2 ^ (n - 1) - 1) || decide (t < -(2 ^ (n - 1)))

/-- What the rule makes of the exact result `t`: a limit of the width under md.SAT, else its low bits. -/
def fitted (n md : Nat) (t : Int) : Int :=
  if overflows n t && md.testBit 1 then (if t > 2 ^ (n - 1) - 1 then 2 ^ (n - 1) - 1 else -(2 ^ (n - 1))) else sext n (unsign n t)

theorem overflows_eq_not_fitsS (n : Nat) (t : Int) : overflows n t = !fitsS n t := by
  rw [Bool.eq_iff_iff]
  simp only [overflows, fitsS, Bool.or_eq_true, Bool.not_eq_true', Bool.and_eq_false_iff, decide_eq_true_eq, decide_eq_false_iff_not]
  omega

/-- Outside the range, saturation goes to the limit on the side of `t`. -/
theorem satS_of_overflows {n : Nat} {t : Int} (h : overflows n t = true) :
    satS n t = if t > 2 ^ (n - 1) - 1 then 2 ^ (n - 1) - 1 else -(2 ^ (n - 1)) := by
  simp only [overflows, Bool.or_eq_true, decide_eq_true_eq] at h
  unfold satS
  split
  · rfl
  · next low => rw [if_pos (h.resolve_left low)]

/-- The model's `fit` as one record: inside the range wrapping changes nothing, and rewriting V and S with what they hold is no change. -/
theorem fit_eq {n : Nat} (hn : 0 < n) (md : Nat) (t : Int) (st : Nat) :
    fit n md t st =
      { val := fitted n md t,
        st := putBit (putBit st 3 (st.testBit 3 || overflows n t)) 4 (st.testBit 4 || overflows n t && md.testBit 1),
        v := overflows n t } := by
  cases out : overflows n t with
  | false =>
    have inside : fitsS n t = true := by simpa [overflows_eq_not_fitsS] using out
    simp [fit, fitted, out, inside, sext_unsign_of_fitsS hn inside]
  | true =>
    have outside : fitsS n t = false := by simpa [overflows_eq_not_fitsS] using out
    cases sat : md.testBit 1 with
    | false =>
      have kept : putBit (putBit st 3 true) 4 (st.testBit 4) = putBit st 3 true := putBit_of_testBit (by simp)
      simp [fit, fitted, mdSat, outside, out, sat, kept]
    | true => simp [fit, fitted, mdSat, outside, out, sat, satS_of_overflows]

theorem fit_val {n : Nat} (hn : 0 < n) (md : Nat) (t : Int) (st : Nat) : (fit n md t st).val = fitted n md t :=
  congrArg Calc.val (fit_eq hn md t st)

theorem fit_v {n : Nat} (hn : 0 < n) (md : Nat) (t : Int) (st : Nat) : (fit n md t st).v = overflows n t :=
  congrArg Calc.v (fit_eq hn md t st)

theorem fit_st {n : Nat} (hn : 0 < n) (md : Nat) (t : Int) (st : Nat) :
    (fit n md t st).st = putBit (putBit st 3 (st.testBit 3 || overflows n t)) 4 (st.testBit 4 || overflows n t && md.testBit 1) :=
  congrArg Calc.st (fit_eq hn md t st)

/-! ### The sums of opcode 0x01 -/

/-- The exact result of ADD, SUB, NEG or ABS. -/
def sumExact (f : Nat) (sx sy : Int) : Int := if f = 1 then sx + sy else if f = 2 then sx - sy else if f = 7 then -sx else (sx.natAbs : Int)

/-- The C that ADD, SUB, NEG or ABS leaves: only the first two compute one. -/
def sumCarry (f n x y st : Nat) : Bool :=
  if f = 1 then decide (2 ^ n ≤ x % 2 ^ n + y % 2 ^ n) else if f = 2 then decide (y % 2 ^ n ≤ x % 2 ^ n) else st.testBit 2

/-- R323, R324: each of the four applies the overflow rule to its exact result, then sets C, Z and N. -/
theorem alu_of_sum {f n : Nat} (hf : f ∈ [1, 2, 7, 8]) (hn : 0 < n) (md x y st : Nat) :
    alu f n md x y st = ((fit n md (sumExact f (sext n x) (sext n y)) st).carry (sumCarry f n x y st)).zn := by
  have kept (t : Int) : (fit n md t st).carry (st.testBit 2) = fit n md t st := by
    have same : (fit n md t st).st.testBit 2 = st.testBit 2 := by simp [fit_st hn]
    rw [Calc.carry, putBit_of_testBit same]
  have abs : ((sext n x).natAbs : Int) = if sext n x < 0 then -sext n x else sext n x := by
    split <;> omega
  simp only [List.mem_cons, List.not_mem_nil, or_false] at hf
  rcases hf with rfl | rfl | rfl | rfl
  · rfl
  · rfl
  · simp [alu, sumExact, sumCarry, kept]
  · simp [alu, sumExact, sumCarry, kept, abs]

/-- st after a sum: Z and N of the fitted result, the given C, V on overflow and S when that saturated. -/
theorem Anv.setCr_st_of_sum (a : Anv) {n : Nat} (hn : 0 < n) (md : Nat) (t : Int) (st : Nat) (c : Bool) :
    a.setCr 0x10 ((fit n md t st).carry c).zn.st =
      a.setCr 0x10 (flagWord (decide (fitted n md t = 0)) (decide (fitted n md t < 0)) c (st.testBit 3 || overflows n t)
        (st.testBit 4 || overflows n t && md.testBit 1)) := by
  rw [Anv.setCr_st]
  simp [fit_val hn, fit_st hn, -Nat.testBit_zero]

/-- st after CMP: Z, N and C, with V and S kept. -/
theorem Anv.setCr_st_of_cmp (a : Anv) (n md x y st : Nat) :
    a.setCr 0x10 (alu 0x0B n md x y st).st =
      a.setCr 0x10 (flagWord (decide (sext n x = sext n y)) (decide (sext n x < sext n y)) (decide (y % 2 ^ n ≤ x % 2 ^ n)) (st.testBit 3)
        (st.testBit 4)) := by
  rw [Anv.setCr_st]
  simp [alu, -Nat.testBit_zero]

/-- The value that opcode 0x01 takes from register `r`: a pair's with `w`. -/
def Anv.operand (a : Anv) (w : Bool) (r : Nat) : Nat := if w then a.pair r else a.reg r

/-- The width of an operation of opcode 0x01. -/
def aluWidth (w : Bool) : Nat := if w then 32 else 16

theorem aluWidth_pos (w : Bool) : 0 < aluWidth w := by cases w <;> decide

/-- Every operation but CMP writes its value to the destination, after st. -/
theorem State.anvAlu_of_calc {s : State} {n md f x y : Nat} {w : Bool} {c : Calc} (d : Nat) (hf : f ≠ 0x0B)
    (hc : alu f (aluWidth w) md ((s.anv n).operand w x) ((s.anv n).operand w y) (s.anv n).st = c) :
    s.anvAlu n md f d x y w =
      .done (s.setAnv n (if w then ((s.anv n).setCr 0x10 c.st).setPair d (unsign 32 c.val)
        else ((s.anv n).setCr 0x10 c.st).setReg d (unsign 16 c.val))) c.v false .next := by
  subst hc
  exact congrArg (fun b => Issue.done (s.setAnv n b) _ false .next) (if_neg hf)

theorem State.anvAlu_cmp (s : State) (n md d x y : Nat) (w : Bool) :
    s.anvAlu n md 0x0B d x y w =
      .done (s.setAnv n ((s.anv n).setCr 0x10
        (alu 0x0B (aluWidth w) md ((s.anv n).operand w x) ((s.anv n).operand w y) (s.anv n).st).st)) false false .next := rfl

/-- Settles O41: the model's sums apply the overflow rule to the exact result, which the low bits of the operands decide. -/
theorem anvilSumsFollowTheOverflowRule : Obligations.AnvilSumsFollowTheOverflowRule := by
  intro s n md f d x y w a k u sx sy exact ovf res c st b
  have hk : 0 < k := aluWidth_pos w
  have hx : sext k (a.operand w x) = sx := (sext_mod k _).symm
  have hy : sext k (a.operand w y) = sy := (sext_mod k _).symm
  constructor
  · intro hf
    have notCmp : f ≠ 0x0B := by rintro rfl; simp at hf
    have sum : alu f k md (a.operand w x) (a.operand w y) a.st = ((fit k md exact a.st).carry c).zn := by
      rw [alu_of_sum hf hk, hx, hy]
      rfl
    have flags : a.setCr 0x10 ((fit k md exact a.st).carry c).zn.st = b := Anv.setCr_st_of_sum a hk md exact a.st c
    have value : ((fit k md exact a.st).carry c).zn.val = res := fit_val hk md exact a.st
    have sets_v : ((fit k md exact a.st).carry c).zn.v = ovf := fit_v hk md exact a.st
    rw [State.anvAlu_of_calc d notCmp sum, flags, value, sets_v]
  · have equal : decide (sx = sy) = decide (u x = u y) := by
      rw [← hx, ← hy]
      exact decide_eq_decide.2 (sext_eq_iff k _ _)
    rw [State.anvAlu_cmp, Anv.setCr_st_of_cmp, ← equal, ← hx, ← hy]
    rfl

end Sys2Proof.Machine
end

section
/-!
PROOFS. The machine: every command is a row, so that a step answers, keeps the queue's order and keeps the stores canonical (chapter 00).
-/
namespace Sys2Proof.Machine

/-- Every command is a row, and a command whose operands name nothing does not meet its row's condition. -/
theorem exec_eq_row (c : Instr) (s : State) : ∃ ok act, exec c s = s.row ok act ∧ (Instr.wf c = false → ok = false) := by
  unfold exec
  cases c <;> exact ⟨_, _, rfl, by simp +contextual [Instr.wf]⟩

/-- Everything a command can answer: a next state, with the same commands waiting, and canonical stores where they were canonical. -/
theorem exec_answers (c : Instr) (s : State) :
    ∃ t, exec c s = .next t ∧ t.pending = s.pending ∧ (Memory.wf s = true → Memory.wf t = true) := by
  obtain ⟨ok, act, row, -⟩ := exec_eq_row c s
  rw [row]
  exact State.row_answers s ok act

theorem step_of_nil {s : State} (h : s.pending = []) : step s = .next s := by
  simp [step, h]

theorem step_of_cons {s : State} {c : Instr} {rest : List Instr} (h : s.pending = c :: rest) :
    step s = exec c { s with pending := rest } := by
  simp [step, h]

/-- Everything a step can answer: a next state, with the front command taken from the queue, and canonical stores where they were
canonical. -/
theorem step_answers (s : State) :
    ∃ t, step s = .next t ∧ t.pending = s.pending.tail ∧ (Memory.wf s = true → Memory.wf t = true) := by
  cases waiting : s.pending with
  | nil => exact ⟨s, step_of_nil waiting, waiting, id⟩
  | cons c rest =>
    rw [step_of_cons waiting]
    exact exec_answers c { s with pending := rest }

/-- Settles O3: whatever a command does, its row ends by restoring the canonical form. -/
theorem everyStepKeepsTheStoresCanonical : Obligations.EveryStepKeepsTheStoresCanonical := by
  intro s t canonical answer
  obtain ⟨u, stepped, -, keeps⟩ := step_answers s
  cases stepped.symm.trans answer
  exact keeps canonical

/-- Settles O2: a step runs the front command, whose row answers with the queue's rest waiting; without one it idles. -/
theorem everyStepAnswersAndServesInOrder : Obligations.EveryStepAnswersAndServesInOrder :=
  ⟨fun s => (step_answers s).imp fun _ ⟨answer, rest, _⟩ => ⟨answer, rest⟩, fun _ => step_of_nil⟩

/-- Settles O5: the row of such a command has a condition that fails. -/
theorem illFormedCommandsChangeNothing : Obligations.IllFormedCommandsChangeNothing := by
  intro c s unformed
  obtain ⟨ok, act, row, fails⟩ := exec_eq_row c s
  rw [row, State.row_not act (fails unformed)]

/-- Settles O6, by the conditions of a quiet state: each part of what follows a command leaves it. -/
theorem quietCommandsEndAtOnce : Obligations.QuietCommandsEndAtOnce :=
  fun _ _ => State.ends_of_quiet

/-- Settles O1, by the definition of a step on a queue that is not empty. -/
theorem stepRunsTheFrontCommand : Obligations.StepRunsTheFrontCommand :=
  fun c rest s => step_of_cons (s := { s with pending := c :: rest }) rfl

theorem State.reset_wf : Memory.wf State.reset = true := rfl

/-- No word is listed after reset, so each reads its reset value. -/
theorem State.reset_w (k : Nat) : State.reset.w k = resetWord k := rfl

/-- After reset no condition lets anything follow a command: no engine has work, and the levels show that nothing is in use. -/
theorem State.reset_quiet : State.reset.quiet = true := by decide +kernel

/-- Settles O4: the reset state lists no word and no billet, and its engines are idle. -/
theorem resetIsSound : Obligations.ResetIsSound :=
  ⟨State.reset_wf, rfl, State.reset_quiet, rfl, rfl, rfl, rfl, by decide +kernel, rfl, State.reset_w⟩

end Sys2Proof.Machine
end

section
/-!
PROOFS. Accesses of the control fabric that act directly, and those it forbids (chapter 02, R45 to R47, R59 and R69).
-/
namespace Sys2Proof.Machine

/-! ### Words and keys -/

/-- A value that sets no bit outside `a` keeps all its bits within it. -/
theorem and_eq_self_of_and_not_eq_zero {a v : Word} (h : v &&& ~~~a = 0) : v &&& a = v :=
  calc
    v &&& a = v &&& a ||| v &&& ~~~a := by simp [h]
    _ = v &&& (a ||| ~~~a) := BitVec.and_or_distrib_left.symm
    _ = v &&& BitVec.allOnes 32 := by rw [BitVec.or_not_self]
    _ = v := BitVec.and_allOnes

theorem PG_EVT_ne_PG_ERR (p : Nat) : Regs.PG_EVT p ≠ Regs.PG_ERR p := by
  unfold Regs.PG_EVT Regs.PG_ERR Regs.at_
  omega

/-! ### Direct writes -/

/-- What the fabric judges before it writes a register directly: its page exists, no weld and no queue takes the write, the master has
the right, and the page is not busy. -/
structure State.Direct (s : State) (m : Master) (p off : Nat) (v : Word) (r : RegRow) : Prop where
  page : (pageKind p).isSome = true
  row : rowAt p off = some r
  notSel : selWord p off = false
  noWeld : (weldExempt p off || (s.selected m).isNone) = true
  right : s.writeForbidden m (s.domainOf m) false p off (s.resolve m p off) v = false
  idle : s.shutBusy p = false
  noQueue : (r.isStg && s.queueActive m) = false

/-- No weld takes the write: the one that the fabric looks up is none. -/
theorem State.weld_eq_none {s : State} {m : Master} {p off : Nat} (h : (weldExempt p off || (s.selected m).isNone) = true) :
    (if weldExempt p off then none else s.selected m) = none := by
  cases exempt : weldExempt p off with
  | true => rfl
  | false => simpa [exempt] using h

theorem State.busWrite_of_direct {s : State} {m : Master} {p off : Nat} {v : Word} {r : RegRow} (h : s.Direct m p off v r) :
    s.busWrite m p off v = (false, s.directWrite m (s.domainOf m) r p off (s.resolve m p off) v) := by
  obtain ⟨page, row, notSel, noWeld, right, idle, noQueue⟩ := h
  obtain ⟨kind, hkind⟩ := Option.isSome_iff_exists.1 page
  simp [State.busWrite, hkind, row, State.weld_eq_none noWeld, notSel, right, idle, noQueue]

/-- A write that nothing refuses is a direct one. -/
theorem State.direct_of_accepts {s : State} {m : Master} {p off : Nat} {v : Word} (h : s.accepts m p off v = true) :
    ∃ r, s.Direct m p off v r ∧ s.locked p off = false ∧ wideLo p off = false ∧ r.writable ≠ 0 ∧ v &&& ~~~(Word.of r.assigned) = 0 ∧
      (r.isStg && !s.b (Regs.PG_WELD p) 1) = false ∧ s.directRefused (s.entryOf m (s.resolve m p off) v) = none := by
  simp only [State.accepts] at h
  cases row : rowAt p off with
  | none => simp [row] at h
  | some r =>
    simp only [row, Bool.and_eq_true, Bool.not_eq_true', bne_iff_ne, beq_iff_eq, Option.isNone_iff_eq_none] at h
    obtain ⟨⟨⟨⟨⟨⟨⟨page, notSel⟩, noWeld⟩, right⟩, idle⟩, unlocked⟩, narrow⟩, ⟨⟨writable, assigned⟩, stg⟩, fine⟩ := h
    refine ⟨r, ⟨page, row, notSel, noWeld, right, idle, ?_⟩, unlocked, narrow, writable, assigned, ?_, fine⟩ <;>
      cases isStg : r.isStg <;> simp_all

/-- A write of a LO word that nothing refuses is a direct one. -/
theorem State.direct_of_acceptsLo {s : State} {m : Master} {p off : Nat} {v : Word} (h : s.acceptsLo m p off v = true) :
    ∃ r, s.Direct m p off v r ∧ s.locked p off = false ∧ wideLo p off = true ∧ r.writable ≠ 0 ∧ v &&& ~~~(Word.of r.assigned) = 0 ∧
      (r.isStg && !s.b (Regs.PG_WELD p) 1) = false := by
  simp only [State.acceptsLo] at h
  cases row : rowAt p off with
  | none => simp [row] at h
  | some r =>
    simp only [row, Bool.and_eq_true, Bool.not_eq_true', bne_iff_ne, beq_iff_eq] at h
    obtain ⟨⟨⟨⟨⟨⟨⟨page, notSel⟩, noWeld⟩, right⟩, idle⟩, unlocked⟩, wide⟩, ⟨writable, assigned⟩, stg⟩ := h
    refine ⟨r, ⟨page, row, notSel, noWeld, right, idle, ?_⟩, unlocked, wide, writable, assigned, ?_⟩ <;>
      cases isStg : r.isStg <;> simp_all

/-- R45 to R47, R65: the write counts in PG_SEQ and acts. -/
theorem State.ctlWrite_of_accepts {s : State} {m : Master} {p off : Nat} {v : Word} (h : s.accepts m p off v = true) :
    s.ctlWrite m p off v = s.accepted m p off v := by
  obtain ⟨r, direct, unlocked, narrow, writable, assigned, stg, fine⟩ := State.direct_of_accepts h
  rw [State.ctlWrite, State.busWrite_of_direct direct]
  simp [State.directWrite, State.accepted, unlocked, narrow, writable, assigned, stg, fine, and_eq_self_of_and_not_eq_zero assigned]

/-- R69: the LO word counts in PG_SEQ and is held. -/
theorem State.ctlWrite_of_acceptsLo {s : State} {m : Master} {p off : Nat} {v : Word} (h : s.acceptsLo m p off v = true) :
    s.ctlWrite m p off v = ((s.pgSeq p).holdLo m (s.resolve m p off) v).afterAccess m p off := by
  obtain ⟨r, direct, unlocked, wide, writable, assigned, stg⟩ := State.direct_of_acceptsLo h
  rw [State.ctlWrite, State.busWrite_of_direct direct]
  simp [State.directWrite, unlocked, wide, writable, assigned, stg, and_eq_self_of_and_not_eq_zero assigned]

/-- Settles O7: the conditions of acceptance are the tests that the fabric makes in turn. -/
theorem acceptedWritesAct : Obligations.AcceptedWritesAct :=
  fun _ _ _ _ _ => State.ctlWrite_of_accepts

/-! ### Wide values (R69) -/

/-- MDATA is not the LO word of a wide value, so a LO word's write moves no selector on. -/
theorem State.afterAccess_of_wideLo (s : State) (m : Master) {p off : Nat} (h : wideLo p off = true) : s.afterAccess m p off = s := by
  refine if_neg fun ⟨lo, hi, _⟩ => ?_
  simp only [wideLo, Bool.or_eq_true, Bool.and_eq_true, beq_iff_eq] at h
  omega

@[simp] theorem State.heldLo_holdLo_same (s : State) (m : Master) (k : Nat) (v : Word) :
    (s.holdLo m k v).heldLo m (k + 1) = some (k, v) := by
  have others : (s.fabric.held.filter fun x => x.1 != masterNum m || x.2.1 != k).find?
      (fun x => x.1 == masterNum m && x.2.1 + 1 == k + 1) = none := by
    simp only [List.find?_eq_none, List.mem_filter]
    rintro x ⟨-, other⟩ same
    simp_all
  simp only [State.heldLo, State.holdLo, List.find?_append, others, Option.none_or]
  simp

/-- Settles O28: the held LO word touches PG_SEQ alone, and the HI word finds it. -/
theorem wideWritesTakeEffectTogether : Obligations.WideWritesTakeEffectTogether := by
  intro m p off v w s h k t
  obtain ⟨-, -, -, wide, -⟩ := State.direct_of_acceptsLo h
  have held : t = (s.pgSeq p).holdLo m k v :=
    (State.ctlWrite_of_acceptsLo h).trans (State.afterAccess_of_wideLo _ m wide)
  rw [held]
  refine ⟨fun j other => State.w_setW_other s _ other, ?_⟩
  rw [State.entryOf, State.heldLo_holdLo_same]

/-! ### Forbidden accesses (R59) -/

theorem State.busRead_of_forbidden {s : State} {m : Master} {p off : Nat} (page : (pageKind p).isSome = true)
    (h : s.readForbidden m (s.domainOf m) p off (s.resolve m p off) = true) :
    s.busRead m p off = (0, s.forbid (s.domainOf m) p off false) := by
  obtain ⟨kind, hkind⟩ := Option.isSome_iff_exists.1 page
  simp [State.busRead, hkind, h]

theorem State.busWrite_of_forbidden {s : State} {m : Master} {p off : Nat} {v : Word} (page : (pageKind p).isSome = true)
    (row : (rowAt p off).isSome = true) (notSel : selWord p off = false) (noWeld : (weldExempt p off || (s.selected m).isNone) = true)
    (noQueue : s.queueActive m = false) (h : s.writeForbidden m (s.domainOf m) false p off (s.resolve m p off) v = true) :
    s.busWrite m p off v = (false, s.forbid (s.domainOf m) p off true) := by
  obtain ⟨kind, hkind⟩ := Option.isSome_iff_exists.1 page
  obtain ⟨r, hr⟩ := Option.isSome_iff_exists.1 row
  simp [State.busWrite, hkind, hr, State.weld_eq_none noWeld, notSel, noQueue, h]

/-- R188: a queued word that its master may no longer write at the boundary is dropped with ACCESS. -/
theorem State.cmdqFault_of_forbidden {s : State} {e : CmdqEntry} {kv : KeyVal} (words : e.words = [kv])
    (h : s.writeForbidden e.master e.domain false (kvPlace kv).1 (kvPlace kv).2 kv.1 kv.2 = true) : s.cmdqFault e = some errAccess := by
  simp [State.cmdqFault, words, h]

theorem State.f_violation_count (s : State) (d : Domain) (p off : Nat) (isWrite : Bool) :
    (s.violation d p off isWrite).f (Regs.PG_EVT p) 0 16 = min 65535 (s.f (Regs.PG_EVT p) 0 16 + 1) := by
  have small : satU 0xFFFF (s.f (Regs.PG_EVT p) 0 16 + 1) = min 65535 (s.f (Regs.PG_EVT p) 0 16 + 1) := by
    unfold satU
    split <;> omega
  rw [State.violation, State.f, State.w_setW_same, bits_eq, BitVec.toNat_ofNat, small]
  omega

theorem State.f_err_code (s : State) (p off : Nat) {code : Nat} (h : code < 256) : (s.err p off code).f (Regs.PG_ERR p) 0 8 = code := by
  rw [State.err, State.errOn, State.f, State.w_setW_same, bits_eq, BitVec.toNat_ofNat]
  omega

theorem State.w_err_other (s : State) (p off code : Nat) {k : Nat} (h : k ≠ Regs.PG_ERR p) : (s.err p off code).w k = s.w k :=
  State.w_setW_other s _ h

theorem State.f_forbid_count (s : State) (d : Domain) (p off : Nat) (isWrite : Bool) :
    (s.forbid d p off isWrite).f (Regs.PG_EVT p) 0 16 = min 65535 (s.f (Regs.PG_EVT p) 0 16 + 1) := by
  rw [State.f, State.forbid, State.w_err_other _ p off errAccess (PG_EVT_ne_PG_ERR p)]
  exact s.f_violation_count d p off isWrite

theorem State.f_forbid_code (s : State) (d : Domain) (p off : Nat) (isWrite : Bool) :
    (s.forbid d p off isWrite).f (Regs.PG_ERR p) 0 8 = errAccess :=
  State.f_err_code _ p off (by decide)

theorem State.w_forbid_other (s : State) (d : Domain) (p off : Nat) (isWrite : Bool) {k : Nat} (hevt : k ≠ Regs.PG_EVT p)
    (herr : k ≠ Regs.PG_ERR p) : (s.forbid d p off isWrite).w k = s.w k :=
  (State.w_err_other _ p off errAccess herr).trans (State.w_setW_other s _ hevt)

/-- Writes of words leave the machine beside the words as it was. -/
theorem State.setW_setW_frame (s : State) (j k : Nat) (v w : Word) : { (s.setW j v).setW k w with words := s.words } = s := rfl

/-- A refusal leaves the machine beside the register words as it was. -/
theorem State.forbid_frame (s : State) (d : Domain) (p off : Nat) (isWrite : Bool) :
    { s.forbid d p off isWrite with words := s.words } = s :=
  State.setW_setW_frame s _ _ _ _

/-- Settles O27: the fabric answers a forbidden access with `State.forbid`, which writes the page's PG_EVT and PG_ERR alone. -/
theorem forbiddenAccessesAreRefusedAndCounted : Obligations.ForbiddenAccessesAreRefusedAndCounted := by
  intro m p off v s _ page row isWrite t
  refine ⟨?_, ?_, ?_, s.f_forbid_count _ p off isWrite, s.f_forbid_code _ p off isWrite,
    fun k hevt herr => s.w_forbid_other _ p off isWrite hevt herr, s.forbid_frame _ p off isWrite⟩
  · rintro rfl forbidden
    exact State.busRead_of_forbidden page forbidden
  · rintro rfl notSel noWeld noQueue forbidden
    exact State.busWrite_of_forbidden page row notSel (by simpa using noWeld) noQueue forbidden
  · rintro e words rfl forbidden
    exact State.cmdqFault_of_forbidden words forbidden

end Sys2Proof.Machine
end

section
/-!
PROOFS. Every command completes: its row's condition holds, and an accepted register access has its own effect.
-/
namespace Sys2Proof.Machine

/-! ### Accepted accesses by key -/

theorem State.writeKey_of_acceptsKey {s : State} {m : Master} {k : Nat} {v : Word} (h : s.acceptsKey m k v = true) :
    s.writeKey m k v = s.acceptedKey m k v :=
  State.ctlWrite_of_accepts h

/-- An access of either kind: the write where it is accepted. -/
theorem State.accessKey_of_allowed {s : State} {m : Master} {k : Nat} {v : Word} {wr : Bool}
    (h : (if wr then s.acceptsKey m k v else s.servesKey m k) = true) :
    (if wr then s.writeKey m k v else s.readKey m k) = (if wr then s.acceptedKey m k v else s.readKey m k) := by
  cases wr with
  | false => rfl
  | true => exact State.writeKey_of_acceptsKey h

/-! ### Commands whose row's condition holds -/

section
variable {c : Instr} {s t : State} {a b : Bool} {act : State → State} {m : Master} {k : Nat} {v : Word}

/-- A command that always reaches the device. -/
theorem completes_always (row : exec c s = s.row true act) (effect : act s = t) : exec c s = .next (s.ends t) :=
  effect ▸ row.trans (State.row_of act rfl)

/-- A command whose condition is one test. -/
theorem completes_served (row : exec c s = s.row a act) (effect : act s = t) (served : a = true) : exec c s = .next (s.ends t) :=
  effect ▸ row.trans (State.row_of act served)

/-- A command with well-formed operands that reaches the device. -/
theorem completes_formed (row : exec c s = s.row (a && b) act) (effect : act s = t) (formed : a = true) (served : b = true) :
    exec c s = .next (s.ends t) :=
  completes_served row effect (Bool.and_eq_true_iff.2 ⟨formed, served⟩)

/-- A command that is a write of one register, and accepted. -/
theorem completes_write (row : exec c s = s.row (a && b) act) (write : act s = s.writeKey m k v) (formed : a = true) (served : b = true)
    (accepted : s.acceptsKey m k v = true) : exec c s = .next (s.ends (s.acceptedKey m k v)) :=
  completes_formed row (write.trans (State.writeKey_of_acceptsKey accepted)) formed served

/-- A command that is a read of one register: it answers even where the fabric does not serve the register. -/
theorem completes_read (row : exec c s = s.row (a && b) act) (read : act s = s.readKey m k) (formed : a = true) (served : b = true)
    (_ : s.servesKey m k = true) : exec c s = .next (s.ends (s.readKey m k)) :=
  completes_formed row read formed served

end

/-! ### The families -/

/-- Settles O8: each of these rows runs its effect where its condition holds, and the register writes among them are accepted. -/
theorem powerCommandsComplete : Obligations.PowerCommandsComplete :=
  ⟨fun s => completes_always (exec_tbTick s) rfl,
    fun replicas s => completes_served (exec_tbBroadcast replicas s) rfl,
    fun s => completes_always (exec_slowClockEdge s) rfl,
    fun s => completes_served (exec_strokeBoundary s) rfl,
    fun s => completes_served (exec_strokeDeadline s) rfl,
    fun d s => completes_served (exec_clockDomainStart d s) rfl,
    fun d s => completes_served (exec_clockDomainStop d s) rfl,
    fun defStrap role addr s => completes_served (exec_porRelease defStrap role addr s) rfl,
    fun kept s => completes_served (exec_vaonReset kept s) rfl,
    fun fast magic s => completes_served (exec_bootSequence fast magic s) rfl,
    fun m req s => completes_write (exec_pwrModeRequest m req s) rfl,
    fun s => completes_served (exec_pllaLock s) rfl,
    fun s => completes_served (exec_forgingEntry s) rfl,
    fun s => completes_served (exec_forgingExit s) rfl,
    fun s => completes_served (exec_sleepEntry s) rfl,
    fun e s => completes_served (exec_wakeEvent e s) rfl,
    fun s => completes_always (exec_pwrAlarm s) rfl,
    fun s => completes_served (exec_fastClockLoss s) rfl,
    fun s => completes_always (exec_slowClockFail s) rfl,
    fun m v s => completes_write (exec_hearthRateWrite m v s) rfl,
    fun m v s => completes_write (exec_clkSrcWrite m v s) rfl,
    fun pull s => completes_served (exec_pllbLockSet pull s) rfl,
    fun s => completes_served (exec_pllbLockClear s) rfl,
    fun s => completes_served (exec_pllbHoldover s) rfl,
    fun s => completes_always (exec_vaonWarningFall s) rfl,
    fun s => completes_served (exec_braceEnd s) rfl,
    fun s => completes_always (exec_vsysUndervoltage s) rfl,
    fun s => completes_served (exec_vsysUvTimeout s) rfl,
    fun stamp s => completes_formed (exec_tbAcquire stamp s) rfl,
    fun s => completes_served (exec_followerLockSet s) rfl,
    fun s => completes_served (exec_vsysUvRecovery s) rfl,
    fun s => completes_served (exec_fastSourceRestored s) rfl,
    fun s => completes_always (exec_vioLoss s) rfl,
    fun s => completes_always (exec_vioReturn s) rfl⟩

/-- Settles O9: an accepted write acts, and a served read is a read. -/
theorem controlSpaceCommandsComplete : Obligations.ControlSpaceCommandsComplete :=
  ⟨fun m p off v s formed served accepted =>
      completes_formed (exec_registerWrite m p off v s) (State.ctlWrite_of_accepts accepted) formed served,
    fun m p off s formed served wide _ =>
      completes_formed (exec_wideLoRead m p off s) rfl (Bool.and_eq_true_iff.2 ⟨formed, served⟩) wide,
    fun m p s => completes_write (exec_srst m p s) rfl,
    fun p s => completes_formed (exec_softResetDone p s) rfl,
    fun m p on s => completes_write (exec_pageEnable m p on s) rfl,
    fun m p on s => completes_write (exec_pgFreeze m p on s) rfl,
    fun m p v s => completes_write (exec_irqPendClear m p v s) rfl,
    fun m p v s => completes_write (exec_irqForce m p v s) rfl,
    fun m p v s => completes_write (exec_pgAccessWrite m p v s) rfl,
    fun m p v s => completes_write (exec_pgLockWrite m p v s) rfl,
    fun m v s => completes_write (exec_sysReset m v s) rfl,
    fun m n s => completes_read (exec_capHiRead m n s) rfl⟩

/-- Settles O10: the accesses of the SCHED page are served or accepted, and an action runs whatever it finds. -/
theorem schedulerCommandsComplete : Obligations.SchedulerCommandsComplete :=
  ⟨fun pin rising tick s => completes_formed (exec_captureEdge pin rising tick s) rfl,
    fun m s => completes_read (exec_schedArm m s) rfl,
    fun m index s => completes_write (exec_schedCancel m index s) rfl,
    fun s => completes_served (exec_schedFire s) rfl,
    fun s => completes_served (exec_schedAccept s) rfl,
    fun m index payload s => completes_formed (exec_portStart m index payload s) rfl,
    fun m index payload s => completes_formed (exec_portStop m index payload s) rfl,
    fun m index payload s => completes_formed (exec_stageStart m index payload s) rfl,
    fun m index payload s => completes_formed (exec_stageMute m index payload s) rfl,
    fun m index payload s => completes_formed (exec_stageUnmute m index payload s) rfl,
    fun m index payload s => completes_formed (exec_actionWeldCommit m index payload s) rfl,
    fun m index payload s => completes_formed (exec_auxInj m index payload s) rfl,
    fun m index payload s => completes_formed (exec_gpioSet m index payload s) rfl,
    fun m index payload s => completes_formed (exec_gpioClr m index payload s) rfl,
    fun m index payload s => completes_formed (exec_actionIrq m index payload s) rfl,
    fun m index payload s => completes_formed (exec_actionTest m index payload s) rfl⟩

/-- Settles O11: the ledger's rows run their effect, and the WELD page's commands are accepted writes. -/
theorem stockAndWeldCommandsComplete : Obligations.StockAndWeldCommandsComplete :=
  ⟨fun q s => completes_formed (exec_creditGrant q s) rfl,
    fun q b gen stamp count offset flags data s => completes_formed (exec_billetPut q b gen stamp count offset flags data s) rfl,
    fun q s => completes_formed (exec_billetTake q s) rfl,
    fun b s => completes_formed (exec_billetRelease b s) rfl,
    fun m v s => completes_write (exec_queueDescriptorWrite m v s) rfl,
    fun s => completes_served (exec_stockCe s) rfl,
    fun b readable s => completes_formed (exec_stockUe b readable s) rfl,
    fun ce ue s => completes_formed (exec_scrubPass ce ue s) rfl,
    fun m s => completes_write (exec_stockSrst m s) rfl,
    fun bad s => completes_formed (exec_stockRebuildDone bad s) rfl,
    fun m s => completes_write (exec_auditNow m s) rfl,
    fun m s => completes_read (exec_weldOpen m s) rfl,
    fun m id s => completes_formed (exec_weldSelect m id s) rfl,
    fun m p off v s formed served selected =>
      completes_formed (exec_weldStageWrite m p off v s) rfl (Bool.and_eq_true_iff.2 ⟨formed, served⟩) selected,
    fun m v s => completes_write (exec_weldCommit m v s) rfl,
    fun m id s => completes_write (exec_weldAbort m id s) rfl,
    fun m id s => completes_write (exec_weldUndo m id s) rfl,
    fun s => completes_served (exec_reheatWindowEnd s) rfl,
    fun m p off v s formed served queued =>
      completes_formed (exec_cmdqEnqueue m p off v s) rfl (Bool.and_eq_true_iff.2 ⟨formed, served⟩) queued⟩

/-- Settles O12: the ports' and converters' rows run their effect, and their commands are accepted writes. -/
theorem portAndChainCommandsComplete : Obligations.PortAndChainCommandsComplete :=
  ⟨fun m n s => completes_write (exec_startTx m n s) rfl,
    fun m n s => completes_write (exec_startRx m n s) rfl,
    fun m n s => completes_write (exec_stopTx m n s) rfl,
    fun m n s => completes_write (exec_stopRx m n s) rfl,
    fun n tick nbits words s => completes_formed (exec_sapRxFrame n tick nbits words s) rfl,
    fun n rx s => completes_formed (exec_sapStall n rx s) rfl,
    fun n tick nbits disagree s => completes_formed (exec_sapTxFrame n tick nbits disagree s) rfl,
    fun n slot s => completes_formed (exec_slotResume n slot s) rfl,
    fun m s => completes_write (exec_spdifStart m s) rfl,
    fun m s => completes_write (exec_spdifStop m s) rfl,
    fun tick good first a b s => completes_served (exec_spdifFrame tick good first a b s) rfl,
    fun rate s => completes_formed (exec_spdifLock rate s) rfl,
    fun s => completes_served (exec_spdifStall s) rfl,
    fun q s => completes_formed (exec_bypassPlace q s) rfl,
    fun m n s => completes_write (exec_asrcEnable m n s) rfl,
    fun n c fi err s => completes_formed (exec_asrcInputBillet n c fi err s) rfl,
    fun n s => completes_formed (exec_asrcGridSample n s) rfl,
    fun m lo hi s => completes_formed (exec_patchEntryWrite m lo hi s) rfl,
    fun m v s => completes_write (exec_patchInval m v s) rfl,
    fun m s => completes_write (exec_patchCopy m s) rfl,
    fun s => completes_served (exec_patchCopyDone s) rfl,
    fun n s => completes_formed (exec_incComputeStroke n s) rfl,
    fun n s => completes_formed (exec_finComputeStroke n s) rfl,
    fun n s => completes_formed (exec_mixNodeCompute n s) rfl,
    fun m p s => completes_write (exec_meterClear m p s) rfl⟩

/-- Settles O13: what the pins and converters deliver takes effect while the device is powered, and the commands are accepted writes. -/
theorem converterCommandsComplete : Obligations.ConverterCommandsComplete :=
  ⟨fun x s => completes_formed (exec_onchipCaptureSample x s) rfl,
    fun m k hq lp s => completes_write (exec_micPathEnable m k hq lp s) rfl,
    fun n s => completes_formed (exec_biasOc n s) rfl,
    fun level s => completes_served (exec_wakeDetectorWindow level s) rfl,
    fun m score s => completes_write (exec_wakeFire m score s) rfl,
    fun s => completes_served (exec_acousticWake s) rfl,
    fun s => completes_served (exec_historyDrainBillet s) rfl,
    fun s => completes_always (exec_privacyMuteAssert s) rfl,
    fun s => completes_always (exec_privacyMuteRelease s) rfl,
    fun ua mv s => completes_served (exec_muteLedCheck ua mv s) rfl,
    fun m s => completes_write (exec_linStart m s) rfl,
    fun m s => completes_write (exec_linStop m s) rfl,
    fun m srst s => completes_write (exec_linDisable m srst s) rfl,
    fun m s => completes_write (exec_hpoStart m s) rfl,
    fun m s => completes_write (exec_hpoStop m s) rfl,
    fun s => completes_served (exec_hpoRailsReady s) rfl,
    fun s => completes_served (exec_hpoClampRelease s) rfl,
    fun s => completes_served (exec_hpoStopped s) rfl,
    fun s => completes_served (exec_hpoSc s) rfl,
    fun m s => completes_write (exec_hpoDisable m s) rfl,
    fun lin level s => completes_served (exec_jackChange lin level s) rfl,
    fun m n s => completes_write (exec_auxStart m n s) rfl,
    fun m n s => completes_write (exec_auxStop m n s) rfl,
    fun m n on s => completes_write (exec_refEnWrite m n on s) rfl,
    fun n s => completes_formed (exec_refRdy n s) rfl,
    fun n s => completes_formed (exec_auxScanStart n s) rfl,
    fun n s => completes_formed (exec_auxInjTrigger n s) rfl,
    fun n code ovr s => completes_formed (exec_auxConversion n code ovr s) rfl,
    fun code0 ovr0 code1 ovr1 s => completes_formed (exec_plausAction code0 ovr0 code1 ovr1 s) rfl,
    fun s => completes_served (exec_key s) rfl,
    fun n s => completes_formed (exec_mbiasOcEnd n s) rfl⟩

/-- Settles O14: the commands to an anvil are accepted writes of its page; MDATA and DBG.RDATA are written or read. -/
theorem anvilControlCommandsComplete : Obligations.AnvilControlCommandsComplete :=
  ⟨fun m n s => completes_write (exec_go m n s) rfl,
    fun m n s => completes_write (exec_halt m n s) rfl,
    fun m n s => completes_write (exec_step m n s) rfl,
    fun n s => completes_formed (exec_anvilHalted n s) rfl,
    fun m n srst s => completes_write (exec_anvilStopReset m n srst s) rfl,
    fun m n wr v s formed served allowed =>
      completes_formed (exec_mdataAccess m n wr v s) (State.accessKey_of_allowed allowed) formed served,
    fun m n rate s => completes_write (exec_benchRateWrite m n rate s) rfl,
    fun n s => completes_formed (exec_varrSettled n s) rfl,
    fun m wr v s formed served allowed _ =>
      completes_formed (exec_dbgRdataAccess m wr v s) (State.accessKey_of_allowed allowed) formed served⟩

/-- Settles O17: the stages' commands are accepted writes, and their events run while the device is awake. -/
theorem stageCommandsComplete : Obligations.StageCommandsComplete :=
  ⟨fun m c s => completes_write (exec_stageCmdStart m c s) rfl,
    fun m c s => completes_write (exec_stageCmdStop m c s) rfl,
    fun m c s => completes_write (exec_stageCmdClear m c s) rfl,
    fun m c s => completes_write (exec_stageDisable m c s) rfl,
    fun c outP outN pvdd s => completes_formed (exec_inrushEnd c outP outN pvdd s) rfl,
    fun c s => completes_formed (exec_settleEnd c s) rfl,
    fun c s => completes_formed (exec_stopDischargeEnd c s) rfl,
    fun c s => completes_formed (exec_stageTrip c s) rfl,
    fun c s => completes_formed (exec_retryTimer c s) rfl,
    fun c s => completes_formed (exec_retryCountReset c s) rfl,
    fun x s => completes_formed (exec_xstFaultInput x s) rfl,
    fun x s => completes_formed (exec_xstFaultRelease x s) rfl,
    fun dieA s => completes_served (exec_pvddUndervoltage dieA s) rfl,
    fun dieA s => completes_served (exec_pvddOvervoltage dieA s) rfl,
    fun dieA s => completes_served (exec_dieShutdown dieA s) rfl,
    fun dieA code s => completes_formed (exec_dieConditionEnd dieA code s) rfl,
    fun dieA s => completes_served (exec_dieOtw dieA s) rfl,
    fun dieA s => completes_served (exec_dieLinkLoss dieA s) rfl,
    fun mv s => completes_served (exec_pvddLow mv s) rfl,
    fun mv s => completes_served (exec_pvddRecovered mv s) rfl,
    fun c s => completes_formed (exec_pauseTimeout c s) rfl,
    fun s => completes_served (exec_trackerUpdate s) rfl,
    fun ack s => completes_served (exec_trackerMessageDone ack s) rfl,
    fun conv t codes s => completes_formed (exec_senseBilletBegin conv t codes s) rfl,
    fun m s => completes_write (exec_tongsStart m s) rfl,
    fun s => completes_served (exec_tongsDeadline s) rfl,
    fun m channels s => completes_write (exec_diagRun m channels s) rfl,
    fun m s => completes_write (exec_diagDisable m s) rfl,
    fun c s => completes_formed (exec_ringTestOvercurrent c s) rfl,
    fun c code s => completes_formed (exec_ringAbort c code s) rfl,
    fun dieA s => completes_served (exec_dieLinkRelock dieA s) rfl,
    fun dieA s => completes_served (exec_dieOtwEnd dieA s) rfl⟩

/-- Settles O18: the targets' rows always run; the controllers' commands are accepted writes. -/
theorem controlPortCommandsComplete : Obligations.ControlPortCommandsComplete :=
  ⟨fun bytes s => completes_always (exec_setPtr bytes s) rfl,
    fun bytes s => completes_always (exec_writeWord bytes s) rfl,
    fun count bytes s => completes_served (exec_writeBlock count bytes s) rfl,
    fun s => completes_always (exec_readWord s) rfl,
    fun sent s => completes_served (exec_readBlock sent s) rfl,
    fun s => completes_always (exec_weldOp s) rfl,
    fun s => completes_always (exec_status s) rfl,
    fun s => completes_always (exec_notifyCfg s) rfl,
    fun s => completes_always (exec_pecErr s) rfl,
    fun s => completes_always (exec_twtStartCondition s) rfl,
    fun sda s => completes_always (exec_twtTimeout sda s) rfl,
    fun res s => completes_formed (exec_notifySend res s) rfl,
    fun m n data s => completes_write (exec_twcStart m n data s) rfl,
    fun m n pec data s => completes_write (exec_twcWrite m n pec data s) rfl,
    fun m n pec last s => completes_write (exec_twcRead m n pec last s) rfl,
    fun m n s => completes_write (exec_twcStop m n s) rfl,
    fun n res byte recov s => completes_formed (exec_twcOperationDone n res byte recov s) rfl,
    fun m n s => completes_read (exec_twcRxdRead m n s) rfl,
    fun n s => completes_formed (exec_twcAbandoned n s) rfl,
    fun s => completes_served (exec_twcTimeout s) rfl,
    fun addr bytes crcOk s => completes_served (exec_write addr bytes crcOk s) rfl,
    fun addr words s => completes_served (exec_read addr words s) rfl,
    fun addr bytes crcOk s => completes_served (exec_qwrite addr bytes crcOk s) rfl,
    fun addr words s => completes_served (exec_qread addr words s) rfl,
    fun addr bytes crcOk s => completes_served (exec_swrite addr bytes crcOk s) rfl,
    fun addr words s => completes_served (exec_sread addr words s) rfl,
    fun addr bytes crcOk s => completes_served (exec_qswrite addr bytes crcOk s) rfl,
    fun addr words s => completes_served (exec_qsread addr words s) rfl,
    fun s => completes_always (exec_spitStatus s) rfl,
    fun m byte qin s => completes_write (exec_qspiXfer m byte qin s) rfl,
    fun byte s => completes_served (exec_qspiXferDone byte s) rfl⟩

/-- Settles O19: a message runs where the link carries it, and the pair's commands are accepted writes. -/
theorem pairCommandsComplete : Obligations.PairCommandsComplete :=
  ⟨fun s => completes_served (exec_linkTrain s) rfl,
    fun rtt s => completes_served (exec_ping rtt s) rfl,
    fun s => completes_served (exec_linkUp s) rfl,
    fun s => completes_formed (exec_linkLossOfLock s) rfl,
    fun s => completes_served (exec_superframeSend s) rfl,
    fun f e s => completes_served (exec_superframeReceive f e s) rfl,
    fun s => completes_served (exec_superframeMiss s) rfl,
    fun seq target id s => completes_formed (exec_prepare seq target id s) rfl,
    fun seq yes s => completes_formed (exec_vote seq yes s) rfl,
    fun seq s => completes_formed (exec_abort seq s) rfl,
    fun seq addr s => completes_formed (exec_regRead seq addr s) rfl,
    fun seq addr v s => completes_formed (exec_regWrite seq addr v s) rfl,
    fun seq code data s => completes_formed (exec_result seq code data s) rfl,
    fun d s => completes_formed (exec_train d s) rfl,
    fun mark identity rate96 adopt s => completes_formed (exec_hello mark identity rate96 adopt s) rfl,
    fun identity good s => completes_formed (exec_proof identity good s) rfl,
    fun epoch good s => completes_formed (exec_accept epoch good s) rfl,
    fun reason s => completes_formed (exec_refuse reason s) rfl,
    fun digest s => completes_formed (exec_adoptEnd digest s) rfl,
    fun s => completes_served (exec_adoptionWeld s) rfl,
    fun seq target s => completes_formed (exec_detachMessage seq target s) rfl,
    fun s => completes_served (exec_detachAck s) rfl,
    fun m adopt s => completes_write (exec_attach m adopt s) rfl,
    fun m s => completes_write (exec_detach m s) rfl,
    fun s => completes_served (exec_attachTimeout s) rfl,
    fun s => completes_served (exec_mirrorStale s) rfl,
    fun m wr addr s => completes_write (exec_rcmd m wr addr s) rfl⟩

/-- Settles O20: the requests are accepted writes, and each engine's end runs while the device is awake. -/
theorem securityCommandsComplete : Obligations.SecurityCommandsComplete :=
  ⟨fun m s => completes_write (exec_authNew m s) rfl,
    fun m s => completes_write (exec_authEnd m s) rfl,
    fun m s => completes_write (exec_authOwnerSession m s) rfl,
    fun m s => completes_write (exec_authTestVendor m s) rfl,
    fun m s => completes_write (exec_authTestConsent m s) rfl,
    fun m good s => completes_formed (exec_authCheckDone m good s) rfl,
    fun m s => completes_write (exec_lcToOwned m s) rfl,
    fun m s => completes_write (exec_lcToField m s) rfl,
    fun m s => completes_write (exec_lcToReturned m s) rfl,
    fun m v s => completes_write (exec_otpProg m v s) rfl,
    fun good s => completes_served (exec_otpProgDone good s) rfl,
    fun m v s => completes_write (exec_rbAdvance m v s) rfl,
    fun m s => completes_write (exec_imgLoad m s) rfl,
    fun image s => completes_served (exec_imgVerifyDone image s) rfl,
    fun s => completes_served (exec_imgReglistWeld s) rfl,
    fun s => completes_served (exec_imgLoadDone s) rfl⟩

/-- Settles O21: the requests are accepted writes; the JTAG instructions run while the device is powered. -/
theorem faultTestAndRouteCommandsComplete : Obligations.FaultTestAndRouteCommandsComplete :=
  ⟨fun m code src s => completes_write (exec_faultClear m code src s) rfl,
    fun s => completes_served (exec_quench s) rfl,
    fun s => completes_served (exec_quenchComplete s) rfl,
    fun code src s => completes_formed (exec_coincident code src s) rfl,
    fun s => completes_served (exec_queuedRecoveryStart s) rfl,
    fun s => completes_served (exec_coreOtw s) rfl,
    fun s => completes_served (exec_coreOts s) rfl,
    fun m iface inst depth s => completes_write (exec_loopGo m iface inst depth s) rfl,
    fun m s => completes_write (exec_loopStop m s) rfl,
    fun s => completes_served (exec_loopLock s) rfl,
    fun s => completes_served (exec_noLock s) rfl,
    fun s => completes_served (exec_loopAbort s) rfl,
    fun m s => completes_write (exec_injEnable m s) rfl,
    fun m s => completes_write (exec_injLedger m s) rfl,
    fun m s => completes_write (exec_injStockCe m s) rfl,
    fun m s => completes_write (exec_injStockUe m s) rfl,
    fun m s => completes_write (exec_injTongsMis m s) rfl,
    fun m s => completes_write (exec_injStrike m s) rfl,
    fun s => completes_served (exec_extest s) rfl,
    fun bound s => completes_served (exec_samplePreload bound s) rfl,
    fun s => completes_served (exec_idcode s) rfl,
    fun s => completes_served (exec_highz s) rfl,
    fun s => completes_served (exec_bypass s) rfl,
    fun s => completes_served (exec_auth s) rfl,
    fun s => completes_served (exec_ctrl s) rfl,
    fun wr addr v s => completes_served (exec_jtagAccess wr addr v s) rfl,
    fun s => completes_served (exec_keyRepeat s) rfl,
    fun s => completes_served (exec_sourceChangeStep s) rfl,
    fun m s => completes_write (exec_drouteRelease m s) rfl,
    fun s => completes_served (exec_coreOtwEnd s) rfl⟩

end Sys2Proof.Machine
end

section
/-!
PROOFS. Every anvil instruction completes where it neither faults, traps nor waits (chapters 10 to 12).
-/
namespace Sys2Proof.Machine

/-! ### An instruction that the anvil comes to -/

/-- What an instruction does once nothing about its encoding, its place or a pending pair holds it back. -/
def State.anvWork (s : State) (n : Nat) : AnvOp → Issue
  | .sys 0 => .plain s
  | .sys 1 => s.anvDone n
  | .sys 2 => .done s false false .rte
  | .sys _ => .done s false true .next
  | .alu f d x y w => s.anvAlu n (s.anv n).mode f d x y w
  | .imm sub d v => s.anvImm n (s.anv n).mode sub d v
  | .acc f d ad src k => s.anvAcc n (s.anv n).mode f d ad src k
  | .load sub reg p am m off => s.anvLoad n (s.anv n).mode sub reg p am m off
  | .store sub reg p am m off => s.anvStore n (s.anv n).mode sub reg p am m off
  | .norm sub reg p am m off => s.anvNorm n sub reg p am m off
  | .addr p sub v => s.anvAddr n p sub v
  | .ctl out reg w cr => s.anvCtl n out reg w cr
  | .br cond kind target => s.anvBranch n cond kind target
  | .loop l src stop count => s.anvLoop n l src stop count
  | .billet f h t ring i p => s.anvBillet n f h t ring i p
  | .handle f h reg sel => s.anvHandle n f h reg sel
  | .cop o d x y => s.anvCop n (s.anv n).mode o d x y
  | .bus wr d x => s.anvBus n wr d x
  | .lane o acc x y sgn sh lx px mx ly py my width => s.anvLane n (s.anv n).mode o acc x y sgn sh lx px mx ly py my width

theorem State.anvIssue_of_clear {s : State} {n : Nat} {op : AnvOp} (h : s.anvClear n op = true) : s.anvIssue n op = s.anvWork n op := by
  simp only [State.anvClear, Bool.and_eq_true, Bool.not_eq_true'] at h
  obtain ⟨⟨legal, placed⟩, free⟩ := h
  simp only [State.anvIssue, legal, placed, free]
  cases op <;> rfl

/-- The instruction completes without BRK: it neither faults nor waits. -/
def Issue.completes : Issue → Bool
  | .done _ _ brk _ => !brk
  | _ => false

/-- The instruction completes, sets no V and is no BRK, so that it cannot trap. -/
def Issue.calm : Issue → Bool
  | .done _ v brk _ => !v && !brk
  | _ => false

theorem Issue.completes_of_calm {i : Issue} (h : i.calm = true) : i.completes = true := by
  cases i <;> simp_all [Issue.calm, Issue.completes]

theorem Issue.not_traps_of_calm {i : Issue} (h : i.calm = true) (md : Nat) : i.traps md = false := by
  cases i <;> simp_all [Issue.calm, Issue.traps]

theorem State.anvRow_of_ready {s : State} {n : Nat} (h : s.anvReady n = true) (op : AnvOp) :
    s.anvRow n op = (s.anvSettle n (s.anvIssue n op)).anvStepped n := by
  simp only [State.anvReady, Bool.and_eq_true, Bool.not_eq_true', Option.isNone_iff_eq_none] at h
  obtain ⟨⟨runs, noHalt⟩, noBreak⟩ := h
  simp [State.anvRow, State.anvExec, runs, noHalt, noBreak]

/-- R355: an instruction that completes and does not trap does its work, and the program goes on. -/
theorem State.anvRow_of_completes {s : State} {n : Nat} {op : AnvOp} (ready : s.anvReady n = true) (clear : s.anvClear n op = true)
    (done : (s.anvWork n op).completes = true) (quiet : (s.anvWork n op).traps (s.anv n).mode = false) :
    s.anvRow n op = s.anvDoes n (s.anvWork n op) := by
  rw [State.anvRow_of_ready ready, State.anvIssue_of_clear clear]
  cases work : s.anvWork n op with
  | stall => simp [work, Issue.completes] at done
  | fault => simp [work, Issue.completes] at done
  | done t v brk flow =>
    simp only [work, Issue.completes, Issue.traps, Bool.not_eq_true'] at done quiet
    simp only [State.anvSettle, done, quiet, State.anvDoes, Issue.work, Issue.flow]
    rfl

/-! ### Commands that are an instruction -/

section
variable {c : Instr} {s : State} {n : Nat} {op : AnvOp} {i : Issue} {a b : Bool}

/-- The row of an instruction that completes and does not trap. -/
theorem completes_anv (row : exec c s = s.row (a && b) fun s => s.anvRow n op) (work : s.anvWork n op = i) (done : i.completes = true)
    (formed : a = true) (powered : b = true) (ready : s.anvReady n = true) (clear : s.anvClear n op = true)
    (quiet : i.traps (s.anv n).mode = false) : exec c s = .next (s.ends (s.anvDoes n i)) := by
  subst work
  exact completes_formed row (State.anvRow_of_completes ready clear done quiet) formed powered

/-- The row of an instruction that cannot trap. -/
theorem completes_calm (row : exec c s = s.row (a && b) fun s => s.anvRow n op) (work : s.anvWork n op = i) (calm : i.calm = true)
    (formed : a = true) (powered : b = true) (ready : s.anvReady n = true) (clear : s.anvClear n op = true) :
    exec c s = .next (s.ends (s.anvDoes n i)) :=
  completes_anv row work (Issue.completes_of_calm calm) formed powered ready clear (Issue.not_traps_of_calm calm _)

end

/-! ### Loads and stores that reach their address -/

/-- A load or store that reaches its address does there what it is given. -/
theorem State.access_of_reaches {s : State} {n p am m off size : Nat} {store : Bool} (h : (s.anv n).reaches p am m off size store = true)
    (act : Nat → Nat → Issue) : ∃ x v, s.access n p am m off size store act = act x v := by
  unfold Anv.reaches at h
  cases addr : (s.anv n).address p am m off size with
  | none => simp [addr] at h
  | some xv =>
    simp only [addr, Bool.and_eq_true, Bool.not_eq_true', Option.isNone_iff_eq_none] at h
    exact ⟨xv.1, xv.2, by simp [State.access, addr, h]⟩

/-- An access completes calmly where it reaches its address and its work there is calm. -/
theorem State.access_calm {s : State} {n p am m off size : Nat} {store : Bool} {act : Nat → Nat → Issue}
    (h : (s.anv n).reaches p am m off size store = true) (calm : ∀ x v, (act x v).calm = true) :
    (s.access n p am m off size store act).calm = true := by
  obtain ⟨x, v, reached⟩ := State.access_of_reaches h act
  rw [reached, calm]

theorem State.access_completes {s : State} {n p am m off size : Nat} {store : Bool} {act : Nat → Nat → Issue}
    (h : (s.anv n).reaches p am m off size store = true) (done : ∀ x v, (act x v).completes = true) :
    (s.access n p am m off size store act).completes = true := by
  obtain ⟨x, v, reached⟩ := State.access_of_reaches h act
  rw [reached, done]

/-! ### Lane instructions (R330 to R332, R335) -/

/-- An operand load that reaches its address is no fault, and waits for no copy. -/
theorem Anv.laneLoad_of_reaches {a : Anv} {on : Bool} {p m size : Nat} (h : a.laneReaches on p m size = true) :
    ∃ u, a.laneLoad on p m size = .ok u ∧ ∀ x v, u = some (x, v) → a.spanBusy x size false = false := by
  unfold Anv.laneReaches at h
  split at h
  · cases h
  · next none_ => exact ⟨none, none_, by simp⟩
  · next x v loaded => exact ⟨_, loaded, by rintro y w ⟨⟩; simpa using h⟩

theorem State.anvLane_completes {s : State} {n op acc x y sgn : Nat} {sh lx : Bool} {px mx : Nat} {ly : Bool} {py my width : Nat}
    (h : s.laneReady n lx px mx ly py my width = true) :
    (s.anvLane n (s.anv n).mode op acc x y sgn sh lx px mx ly py my width).completes = true := by
  simp only [State.laneReady, Bool.and_eq_true] at h
  obtain ⟨⟨prec, reachX⟩, reachY⟩ := h
  have sizeX : (width != 0 || (width == 0 && mdBfp (s.anv n).mode)) = (width != 0 || mdBfp (s.anv n).mode) := by
    cases width <;> simp
  obtain ⟨u, loadX, freeX⟩ := Anv.laneLoad_of_reaches reachX
  obtain ⟨v, loadY, freeY⟩ := Anv.laneLoad_of_reaches reachY
  have precise : ¬ (width != 0 && !mdPrec (s.anv n).mode || false) = true := by
    cases width <;> simp_all
  simp only [State.anvLane, sizeX, loadX, loadY]
  rw [if_neg precise, if_neg]
  · rfl
  · rw [Bool.or_eq_true, not_or, Bool.not_eq_true, Bool.not_eq_true]
    constructor
    · cases u with
      | none => rfl
      | some xv => exact freeX xv.1 xv.2 rfl
    · cases v with
      | none => rfl
      | some xv => exact freeY xv.1 xv.2 rfl

/-! ### Billets, handles and the rest (R286 to R292, R298, R342 to R348) -/

section
variable {s : State} {n : Nat}

theorem State.anvDone_calm (copies : (s.anv n).copies = []) (cops : (s.anv n).cops = []) : (s.anvDone n).calm = true := by
  simp only [State.anvDone, copies, cops]
  rfl

theorem State.anvTake_of_waiting {h t x q : Nat} {u : State} {i : QItem} {l : List QItem} (empty : ((s.anv n).handle h).st = .empty)
    (aligned : billetFault x = none) (route : s.anvRoute n t = (some q, u)) (waiting : (u.queue q).ready = i :: l)
    (may : u.anvMayTake n (u.itemBillet i).tag.domain = true) : s.anvTake n h t x = .plain (u.beginTake n h q x) := by
  simp [State.anvTake, empty, aligned, route, waiting, may]

theorem State.anvGrantOp_of_granted {h t q b : Nat} {u v : State} (empty : ((s.anv n).handle h).st = .empty)
    (route : s.anvRoute n t = (some q, u)) (may : u.anvMayGrant n (u.queue q).domain = true)
    (granted : u.grant q (.anvil n h) = (some b, v)) : s.anvGrantOp n h t = .plain (v.heldGrant n h q b) := by
  simp [State.anvGrantOp, empty, route, may, granted]

theorem State.anvPut_calm {h x : Nat} (held : ((s.anv n).handle h).st = .held) (granted : ((s.anv n).handle h).granted = true)
    (aligned : billetFault x = none) (noCopy : (s.anv n).copyWaits x = false) : (s.anvPut n h x).calm = true := by
  simp [State.anvPut, held, granted, aligned, noCopy, Issue.plain, Issue.calm]

theorem State.anvRel_calm {h : Nat} (held : ((s.anv n).handle h).st = .held) (item : ((s.anv n).handle h).item.isSome = true) :
    (s.anvRel n h).calm = true := by
  obtain ⟨i, some_⟩ := Option.isSome_iff_exists.1 item
  simp [State.anvRel, held, some_, Issue.plain, Issue.calm]

theorem State.anvRingOp_calm {wr : Bool} {r i x q : Nat} (aligned : billetFault x = none)
    (noCopy : (wr && (s.anv n).copyWaits x) = false) (ring : s.anvRing n r = some q) (inside : i < (s.queue q).depth) :
    (s.anvRingOp n wr r i x).calm = true := by
  simp only [State.anvRingOp, aligned, noCopy, ring, if_neg (Nat.not_le.2 inside)]
  rfl

theorem State.anvHandle_wait_calm {h d : Nat} (ended : ((s.anv n).handle h).pending = false) :
    (s.anvHandle n 0 h d false).calm = true := by
  simp [State.anvHandle, ended, Issue.plain, Issue.calm]

theorem State.anvHandle_rwait_calm {d : Nat} (ended : (s.anv n).bst < 32768) : (s.anvHandle n 2 0 d false).calm = true := by
  simp only [State.anvHandle, if_neg (Nat.not_le.2 ended)]
  rfl

theorem State.anvHandle_get_calm {h d : Nat} {hi : Bool} (held : ((s.anv n).handle h).st = .held) :
    (s.anvHandle n 3 h d hi).calm = true := by
  simp only [State.anvHandle, if_pos held]
  rfl

theorem State.anvHandle_set_calm {h d : Nat} {hi : Bool} (held : ((s.anv n).handle h).st = .held) :
    (s.anvHandle n 4 h d hi).calm = true := by
  simp only [State.anvHandle, if_pos held]
  rfl

theorem State.anvLoop_calm {l stop count : Nat} {src : Bool}
    (fine : (s.anv n).loopRefused l stop (if src then (s.anv n).reg count else count) = false) :
    (s.anvLoop n l src stop count).calm = true := by
  simp [State.anvLoop, fine, Issue.calm]

theorem State.anvCop_calm {md op d x y : Nat} (room : (s.anv n).cops.length < 4) : (s.anvCop n md op d x y).calm = true := by
  simp only [State.anvCop, if_neg (Nat.not_le.2 room)]
  rfl

/-- An access of the control space by an anvil completes, whatever became of it. -/
theorem State.anvBus_calm (s : State) (n : Nat) (wr : Bool) (d x : Nat) : (s.anvBus n wr d x).calm = true := by
  cases wr with
  | false => rfl
  | true =>
    simp only [State.anvBus, if_true]
    split <;> rfl

/-- BRK completes, and then its exception is taken (R348, R355). -/
theorem State.anvRow_brk (ready : s.anvReady n = true) (clear : s.anvClear n (.sys 3) = true) :
    s.anvRow n (.sys 3) = ((s.anvGoOn n (s.anv n).pc (s.anv n).mode .next).anvTrap n 7 (s.anv n).pc).anvStepped n := by
  rw [State.anvRow_of_ready ready, State.anvIssue_of_clear clear]
  rfl

end

/-! ### The families -/

/-- Settles O15: the arithmetic always completes, the lane's where its operand loads reach their addresses; where no trap is due, the work
is done and the program goes on. -/
theorem anvilArithmeticCompletes : Obligations.AnvilArithmeticCompletes :=
  ⟨fun n d a w s => completes_anv (exec_mov n d a w s) rfl rfl,
    fun n d a b w s => completes_anv (exec_add n d a b w s) rfl rfl,
    fun n d a b w s => completes_anv (exec_sub n d a b w s) rfl rfl,
    fun n d a b w s => completes_anv (exec_and n d a b w s) rfl rfl,
    fun n d a b w s => completes_anv (exec_or n d a b w s) rfl rfl,
    fun n d a b w s => completes_anv (exec_xor n d a b w s) rfl rfl,
    fun n d a w s => completes_anv (exec_not n d a w s) rfl rfl,
    fun n d a w s => completes_anv (exec_neg n d a w s) rfl rfl,
    fun n d a w s => completes_anv (exec_abs n d a w s) rfl rfl,
    fun n d a b w s => completes_anv (exec_min n d a b w s) rfl rfl,
    fun n d a b w s => completes_anv (exec_max n d a b w s) rfl rfl,
    fun n a b w s => completes_anv (exec_cmp n a b w s) rfl rfl,
    fun n d a b w s => completes_anv (exec_shl n d a b w s) rfl rfl,
    fun n d a b w s => completes_anv (exec_shr n d a b w s) rfl rfl,
    fun n d a b w s => completes_anv (exec_asr n d a b w s) rfl rfl,
    fun n d a w s => completes_anv (exec_cls n d a w s) rfl rfl,
    fun n d v s => completes_anv (exec_movi n d v s) rfl rfl,
    fun n d v s => completes_anv (exec_addi n d v s) rfl rfl,
    fun n d v s => completes_anv (exec_cmpi n d v s) rfl rfl,
    fun n d v s => completes_anv (exec_andi n d v s) rfl rfl,
    fun n d v s => completes_anv (exec_ori n d v s) rfl rfl,
    fun n d v s => completes_anv (exec_shli n d v s) rfl rfl,
    fun n d v s => completes_anv (exec_asri n d v s) rfl rfl,
    fun n d v s => completes_anv (exec_shri n d v s) rfl rfl,
    fun n d src s => completes_anv (exec_ext n d src s) rfl rfl,
    fun n d src s => completes_anv (exec_extw n d src s) rfl rfl,
    fun n ad s => completes_anv (exec_aclr n ad s) rfl rfl,
    fun n ad d s => completes_anv (exec_aldw n ad d s) rfl rfl,
    fun n ad src v s => completes_anv (exec_ashi n ad src v s) rfl rfl,
    fun n ad src s => completes_anv (exec_ashx n ad src s) rfl rfl,
    fun n ad src s => completes_anv (exec_aadd n ad src s) rfl rfl,
    fun n ad src s => completes_anv (exec_asub n ad src s) rfl rfl,
    fun n ad src s => completes_anv (exec_amov n ad src s) rfl rfl,
    fun n ad src s => completes_anv (exec_aneg n ad src s) rfl rfl,
    fun n ad src s => completes_anv (exec_aabs n ad src s) rfl rfl,
    fun n acc x y sgn sh lx px mx ly py my width s formed powered ready clear lane quiet =>
      completes_anv (exec_mpy n acc x y sgn sh lx px mx ly py my width s) rfl (State.anvLane_completes lane) formed powered ready clear quiet,
    fun n acc x y sgn sh lx px mx ly py my width s formed powered ready clear lane quiet =>
      completes_anv (exec_mac n acc x y sgn sh lx px mx ly py my width s) rfl (State.anvLane_completes lane) formed powered ready clear quiet,
    fun n acc x y sgn sh lx px mx ly py my width s formed powered ready clear lane quiet =>
      completes_anv (exec_msu n acc x y sgn sh lx px mx ly py my width s) rfl (State.anvLane_completes lane) formed powered ready clear quiet⟩

/-- Settles O16: each instruction's conditions are those under which it neither faults nor waits. -/
theorem anvilMemoryBilletAndFlowComplete : Obligations.AnvilMemoryBilletAndFlowComplete :=
  ⟨fun n s formed powered ready clear copies cops =>
      completes_calm (exec_done n s) rfl (State.anvDone_calm copies cops) formed powered ready clear,
    fun n h t p s formed powered ready clear empty aligned _ _ _ _ route waiting may =>
      completes_calm (exec_btake n h t p s) (State.anvTake_of_waiting empty aligned route waiting may) rfl formed powered ready clear,
    fun n h t s formed powered ready clear empty _ _ _ _ route may granted =>
      completes_calm (exec_bgrant n h t s) (State.anvGrantOp_of_granted empty route may granted) rfl formed powered ready clear,
    fun n h p s formed powered ready clear held granted aligned noCopy =>
      completes_calm (exec_bput n h p s) rfl (State.anvPut_calm held granted aligned noCopy) formed powered ready clear,
    fun n h s formed powered ready clear held item =>
      completes_calm (exec_brel n h s) rfl (State.anvRel_calm held item) formed powered ready clear,
    fun n ring idx p s formed powered ready clear aligned _ routed inside =>
      completes_calm (exec_brd n ring idx p s) rfl (State.anvRingOp_calm aligned rfl routed inside) formed powered ready clear,
    fun n ring idx p s formed powered ready clear aligned noCopy _ routed inside =>
      completes_calm (exec_bwr n ring idx p s) rfl (State.anvRingOp_calm aligned noCopy routed inside) formed powered ready clear,
    fun n h s => completes_formed (exec_billetOpComplete n h s) rfl,
    fun n s => completes_formed (exec_billetCopyDone n s) rfl,
    fun n h d s formed powered ready clear ended =>
      completes_calm (exec_hwait n h d s) rfl (State.anvHandle_wait_calm ended) formed powered ready clear,
    fun n h d s => completes_calm (exec_hstat n h d s) rfl rfl,
    fun n d s formed powered ready clear ended =>
      completes_calm (exec_rwait n d s) rfl (State.anvHandle_rwait_calm ended) formed powered ready clear,
    fun n h d hi s formed powered ready clear held =>
      completes_calm (exec_hget n h d hi s) rfl (State.anvHandle_get_calm held) formed powered ready clear,
    fun n h d hi s formed powered ready clear held =>
      completes_calm (exec_hset n h d hi s) rfl (State.anvHandle_set_calm held) formed powered ready clear,
    fun n reg p am md off s formed powered ready clear reached =>
      completes_calm (exec_ld n reg p am md off s) rfl (State.access_calm reached fun _ _ => rfl) formed powered ready clear,
    fun n reg p am md off s formed powered ready clear reached =>
      completes_calm (exec_ldw n reg p am md off s) rfl (State.access_calm reached fun _ _ => rfl) formed powered ready clear,
    fun n reg p am md off s formed powered ready clear reached quiet =>
      completes_anv (exec_ldn n reg p am md off s) rfl (State.access_completes reached fun _ _ => rfl) formed powered ready clear quiet,
    fun n reg p am md off s formed powered ready clear reached =>
      completes_calm (exec_lda n reg p am md off s) rfl (State.access_calm reached fun _ _ => rfl) formed powered ready clear,
    fun n reg p am md off s formed powered ready clear reached =>
      completes_calm (exec_st n reg p am md off s) rfl (State.access_calm reached fun _ _ => rfl) formed powered ready clear,
    fun n reg p am md off s formed powered ready clear reached =>
      completes_calm (exec_stw n reg p am md off s) rfl (State.access_calm reached fun _ _ => rfl) formed powered ready clear,
    fun n reg p am md off s formed powered ready clear reached quiet =>
      completes_anv (exec_std n reg p am md off s) rfl (State.access_completes reached fun _ _ => rfl) formed powered ready clear quiet,
    fun n reg p am md off s formed powered ready clear reached quiet =>
      completes_anv (exec_ste n reg p am md off s) rfl (State.access_completes reached fun _ _ => rfl) formed powered ready clear quiet,
    fun n p am md off s formed powered ready clear reached =>
      completes_calm (exec_norm n p am md off s) rfl (State.access_calm reached fun _ _ => rfl) formed powered ready clear,
    fun n reg s => completes_calm (exec_normr n reg s) rfl rfl,
    fun n p v s => completes_calm (exec_pset n p v s) rfl rfl,
    fun n p v s => completes_calm (exec_padd n p v s) rfl rfl,
    fun n reg w cr s => completes_calm (exec_mvc n reg w cr s) rfl rfl,
    fun n reg w cr s => completes_calm (exec_mvf n reg w cr s) rfl rfl,
    fun n cond target s => completes_calm (exec_br n cond target s) rfl rfl,
    fun n cond target s => completes_calm (exec_jmp n cond target s) rfl rfl,
    fun n cond target s => completes_calm (exec_call n cond target s) rfl rfl,
    fun n cond s => completes_calm (exec_ret n cond s) rfl rfl,
    fun n lc src stop count s formed powered ready clear fine =>
      completes_calm (exec_loop n lc src stop count s) rfl (State.anvLoop_calm fine) formed powered ready clear,
    fun n s => completes_formed (exec_loopExit n s) rfl,
    fun n d a b s formed powered ready clear room =>
      completes_calm (exec_div n d a b s) rfl (State.anvCop_calm room) formed powered ready clear,
    fun n d a s formed powered ready clear room =>
      completes_calm (exec_sqrt n d a s) rfl (State.anvCop_calm room) formed powered ready clear,
    fun n d a s formed powered ready clear room =>
      completes_calm (exec_rsqrt n d a s) rfl (State.anvCop_calm room) formed powered ready clear,
    fun n d a s formed powered ready clear room =>
      completes_calm (exec_log2 n d a s) rfl (State.anvCop_calm room) formed powered ready clear,
    fun n d a s formed powered ready clear room =>
      completes_calm (exec_exp2 n d a s) rfl (State.anvCop_calm room) formed powered ready clear,
    fun n d a b s formed powered ready clear room =>
      completes_calm (exec_mul32 n d a b s) rfl (State.anvCop_calm room) formed powered ready clear,
    fun n s => completes_formed (exec_coprocResult n s) rfl,
    fun n d a s => completes_calm (exec_crd n d a s) rfl (State.anvBus_calm s n false d a),
    fun n d a s => completes_calm (exec_cwr n d a s) rfl (State.anvBus_calm s n true d a),
    fun n s => completes_calm (exec_nop n s) rfl rfl,
    fun n s => completes_calm (exec_rte n s) rfl rfl,
    fun n s formed powered ready clear => completes_formed (exec_brk n s) (State.anvRow_brk ready clear) formed powered,
    fun n s => completes_formed (exec_exceptionEntry n s) rfl,
    fun n s => completes_formed (exec_breakpointMatch n s) rfl⟩

end Sys2Proof.Machine
end

section
/-!
PROOFS. The fast clock and the bits of registers (chapters 02 and 04, R42, R54 and R105).
-/
namespace Sys2Proof.Machine

/-! ### The count out of sleep (R105) -/

theorem State.tick_of_fast {s : State} (hot : s.power.cold = false) (fast : s.slowCarried = false) :
    s.tick = { s with tb := (s.tb + 1) % 2 ^ 64 } := by
  simp [State.tick, tbWrap, hot, fast]

theorem State.slowEdge_of_fast {s : State} (fast : s.slowCarried = false) : s.slowEdge = s := by
  simp [State.slowEdge, fast]

theorem State.tick_of_cold {s : State} (cold : s.power.cold = true) : s.tick = s := by
  simp [State.tick, cold]

theorem State.slowEdge_of_cold {s : State} (cold : s.power.cold = true) : s.slowEdge = s := by
  simp [State.slowEdge, cold]

/-- Settles O24: the fast clock moves the count alone, the slow clock's edge and either clock in COLD move nothing, so nothing follows. -/
theorem fastClockCountsTicks : Obligations.FastClockCountsTicks := by
  intro s hq hw
  refine ⟨fun hot fast => ⟨?_, ?_⟩, fun cold => ⟨?_, ?_⟩⟩
  · rw [exec_tbTick, State.row_of _ rfl, State.tick_of_fast hot fast, State.ends_setTb _ hq hw]
  · rw [exec_slowClockEdge, State.row_of _ rfl, State.slowEdge_of_fast fast, State.ends_self hq hw]
  · rw [exec_tbTick, State.row_of _ rfl, State.tick_of_cold cold, State.ends_self hq hw]
  · rw [exec_slowClockEdge, State.row_of _ rfl, State.slowEdge_of_cold cold, State.ends_self hq hw]

/-! ### What a write does to a bit (R42) -/

theorem Word.getLsbD_of (n : Nat) {i : Nat} (h : i < 32) : (Word.of n).getLsbD i = n.testBit i := by
  rw [Word.of, BitVec.getLsbD_ofNat, decide_eq_true h, Bool.true_and]

/-- Settles O25, bit by bit: a bit's four masks decide which of the old and the written bit it takes. -/
theorem registerBitsFollowTheirAccessType : Obligations.RegisterBitsFollowTheirAccessType := by
  intro r old v i hi
  simp only [RegRow.merge, BitVec.getLsbD_or, BitVec.getLsbD_and, BitVec.getLsbD_not, Word.getLsbD_of _ hi, hi, decide_true, Bool.true_and]
  cases r.rws.testBit i <;> cases r.w1c.testBit i <;> cases (r.rw ||| r.stg).testBit i <;> cases v.getLsbD i <;> simp

/-! ### Pending bits (R54) -/

/-- A clock that starts writes no word. -/
theorem State.words_clockOn (s : State) (d : Nat) : (s.clockOn d).words = s.words := by
  unfold State.clockOn
  split <;> rfl

/-- A fold whose every step keeps the register words keeps them. -/
theorem State.words_foldl {β : Type} {f : State → β → State} (keeps : ∀ s x, (f s x).words = s.words) (l : List β) (s : State) :
    (l.foldl f s).words = s.words := by
  induction l generalizing s with
  | nil => rfl
  | cons x l ih => rw [List.foldl_cons, ih, keeps]

/-- R52: an access requests its page's clocks, and writes no word by that. -/
@[simp] theorem State.words_touchPage (s : State) (p : Nat) : (s.touchPage p).words = s.words := by
  refine State.words_foldl (fun s d => ?_) _ s
  split
  · exact State.words_clockOn s d
  · rfl

@[simp] theorem State.w_touchPage (s : State) (p k : Nat) : (s.touchPage p).w k = s.w k := by
  rw [State.w, State.words_touchPage, State.w]

/-- A flat key of the control space names its page and offset. -/
theorem keyPlace_at {p i : Nat} (hp : p < 256) (hi : i < 256) : keyPlace (p * 256 + i) = (p, i * 4) := by
  have low : keyLow (p * 256 + i) = p * 256 + i := by
    unfold keyLow
    omega
  simp only [keyPlace, low, if_pos (show p * 256 + i < 0x10000 by omega), Prod.mk.injEq]
  omega

theorem State.regWrite_IRQ_PEND (s : State) (m : Master) {p : Nat} (hp : p < 256) (v : Word) :
    s.regWrite m (Regs.IRQ_PEND p) v = (s.touchPage p).setW (Regs.IRQ_PEND p) ((s.w (Regs.IRQ_PEND p) &&& ~~~v) ||| s.w (Regs.IRQ_RAW p)) := by
  have place : keyPlace (Regs.IRQ_PEND p) = (p, 0x018) := keyPlace_at hp (by decide)
  have key : p * 256 + 0x018 / 4 = Regs.IRQ_PEND p := rfl
  simp [State.regWrite, State.writeHeader, place, key]

/-- Settles O30: the write clears the pending bits it names, and IRQ_RAW sets those whose cause is present. -/
theorem pendingBitsReturnWhileTheirCauseIsPresent : Obligations.PendingBitsReturnWhileTheirCauseIsPresent := by
  intro m p v s hp t
  have written : t = (s.touchPage p).setW (Regs.IRQ_PEND p) _ := s.regWrite_IRQ_PEND m hp v
  rw [written]
  refine ⟨fun i hi => ?_, fun k other => ?_⟩
  · rw [State.w_setW_same]
    simp [hi]
  · rw [State.w_setW_other _ _ other, State.w_touchPage]

end Sys2Proof.Machine
end

section
/-!
PROOFS. Hardware loops of the anvils, the release of the default route, and the fault record (chapters 11, 22 and 25, R340, R590, R597
and R646).
-/
namespace Sys2Proof.Machine

/-! ### Loops (R340) -/

/-- The active loop whose end is at `i`: one of the three, with passes left. -/
theorem Anv.of_loopAt {a : Anv} {i l : Nat} (h : a.loopAt i = some l) : l < 3 ∧ 1 ≤ a.crv (0x14 + l) ∧ a.crv (0x1C + l) = i := by
  have active := List.find?_some h
  have named := List.mem_of_find?_eq_some h
  simp only [Bool.and_eq_true, bne_iff_ne, beq_iff_eq] at active
  simp only [List.mem_cons, List.not_mem_nil, or_false] at named
  omega

/-- Settles O47: the loop's counter decides between its start and the index past its end. -/
theorem loopsCountDownToTheirEnd : Obligations.LoopsCountDownToTheirEnd := by
  intro a i hexl
  refine ⟨fun none_ => by simp [Anv.loopStep, none_], fun l at_end => ?_⟩
  obtain ⟨three, passes, stop⟩ := Anv.of_loopAt at_end
  refine ⟨three, passes, stop, fun more => ?_, fun last => ?_⟩
  · simp [Anv.loopStep, at_end, hexl, more]
  · simp [Anv.loopStep, at_end, hexl, last]

/-! ### The default route (R646) -/

/-- A release clears EN and BUSY of SYS.DROUTE, and no other bit. -/
theorem State.b_releaseRoute (s : State) (i : Nat) :
    s.releaseRoute.b Regs.SYS_DROUTE i = if i = 0 ∨ i = 9 then false else s.b Regs.SYS_DROUTE i := by
  have frame : s.releaseRoute.b Regs.SYS_DROUTE i = ((s.setB Regs.SYS_DROUTE 0 false).setB Regs.SYS_DROUTE 9 false).b Regs.SYS_DROUTE i := rfl
  rw [frame]
  by_cases nine : i = 9
  · rw [nine, State.b_setB_same _ _ _ _ (by decide)]
    simp
  · rw [State.b_setB_bit _ _ _ _ _ (by decide) nine]
    by_cases zero : i = 0
    · rw [zero, State.b_setB_same _ _ _ _ (by decide)]
      simp
    · rw [State.b_setB_bit _ _ _ _ _ (by decide) zero]
      simp [zero, nine]

theorem State.w_releaseRoute_other (s : State) {k : Nat} (h : k ≠ Regs.SYS_DROUTE) : s.releaseRoute.w k = s.w k :=
  (State.w_setB_other _ 9 false h).trans (State.w_setB_other s 0 false h)

/-- Settles O51: the release writes two bits of SYS.DROUTE, and drops the steps that wait. -/
theorem releasedRouteLeavesEverythingElse : Obligations.ReleasedRouteLeavesEverythingElse :=
  fun s => ⟨s.b_releaseRoute 0, rfl, rfl, rfl,
    fun i _ zero nine => (s.b_releaseRoute i).trans (if_neg (by simp [zero, nine])), fun _ => s.w_releaseRoute_other⟩

/-! ### The fault record (R590, R597) -/

/-- Logging changes the record by one entry in front; the words it writes are no part of the record. -/
theorem State.fault_logFault (s : State) (f : FaultId) (cls outcome : Nat) :
    (s.logFault f cls outcome).fault =
      { s.fault with log := ({ tb := s.tb, fid := f, cls := cls, outcome := outcome } :: s.fault.log).take 16 } := by
  simp only [State.logFault]
  split <;> split <;> split <;> rfl

/-- Settles O57. -/
theorem theLogKeepsTheSixteenNewest : Obligations.TheLogKeepsTheSixteenNewest := by
  intro s f cls outcome
  rw [State.fault_logFault]
  exact ⟨rfl, rfl⟩

theorem State.clearFault_of_active {s : State} {code src : Nat} (h : s.faultActive code src = true) :
    s.clearFault code src = { s.event 0x0D 2 with
      fault := { s.fault with active := s.fault.active.filter fun f => !(f.code == code && f.src == src) } } :=
  if_pos h

theorem State.clearFault_of_inactive {s : State} {code src : Nat} (h : s.faultActive code src = false) : s.clearFault code src = s :=
  if_neg (by simp [h])

/-- R590: which faults are active after one has been cleared. -/
theorem State.faultActive_clearFault (s : State) (code src c r : Nat) :
    (s.clearFault code src).faultActive c r = (!(c == code && r == src) && s.faultActive c r) := by
  cases active : s.faultActive code src with
  | false =>
    rw [State.clearFault_of_inactive active]
    by_cases same : (c == code && r == src) = true
    · obtain ⟨rfl, rfl⟩ : c = code ∧ r = src := by simpa using same
      simp [active]
    · rw [Bool.not_eq_true] at same
      rw [same, Bool.not_false, Bool.true_and]
  | true =>
    rw [State.clearFault_of_active active, Bool.eq_iff_iff]
    simp only [State.faultActive, List.any_filter, Bool.and_eq_true, Bool.not_eq_true', Bool.and_eq_false_iff, List.any_eq_true, beq_iff_eq,
      beq_eq_false_iff_ne]
    constructor
    · rintro ⟨f, hf, other, rfl, rfl⟩
      exact ⟨other, f, hf, rfl, rfl⟩
    · rintro ⟨other, f, hf, rfl, rfl⟩
      exact ⟨f, hf, other, rfl, rfl⟩

/-- A cause that occurs is pending. -/
theorem State.b_event (s : State) (p : Nat) {n : Nat} (h : n < 32) : (s.event p n).b (Regs.IRQ_PEND p) n = true :=
  State.b_setB_same s _ n true h

/-- Settles O58: the clearing removes the fault from the active ones, and raises CLEARED where there was one. -/
theorem clearedFaultsAreNotActive : Obligations.ClearedFaultsAreNotActive := by
  intro s code src
  refine ⟨by simp [State.faultActive_clearFault], fun c r other => ?_, fun active => ?_, State.clearFault_of_inactive⟩
  · have differs : (c == code && r == src) = false := by
      rcases other with other | other <;> simp [other]
    rw [State.faultActive_clearFault, differs, Bool.not_false, Bool.true_and]
  · rw [State.clearFault_of_active active]
    exact State.b_event s 0x0D (by decide)

end Sys2Proof.Machine
end

section
/-!
PROOFS. Pins, queues and words at the ports, and the bits of the OTP (chapters 07, 19 and 21, R194, R196, R516, R532 and R574).
-/
namespace Sys2Proof.Machine

/-! ### GPIO actions (R532) -/

/-- Bits of one word set or cleared in turn: each named bit takes the value, every other bit and word stays. -/
theorem State.b_foldl_setB (k : Nat) (v : Bool) {l : List Nat} (hl : ∀ p ∈ l, p < 32) (s : State) (i : Nat) :
    (l.foldl (fun (s : State) p => s.setB k p v) s).b k i = if i ∈ l then v else s.b k i := by
  induction l generalizing s with
  | nil => simp
  | cons p l ih =>
    rw [List.foldl_cons, ih fun q hq => hl q (List.mem_cons_of_mem _ hq)]
    by_cases inRest : i ∈ l
    · simp [inRest]
    · by_cases same : i = p
      · rw [if_neg inRest, same, State.b_setB_same _ _ _ _ (hl p List.mem_cons_self), if_pos List.mem_cons_self]
      · rw [if_neg inRest, State.b_setB_bit _ _ _ _ _ (hl p List.mem_cons_self) same, if_neg (by simp [same, inRest])]

theorem State.w_foldl_setB_other {k j : Nat} (h : j ≠ k) (v : Bool) (l : List Nat) (s : State) :
    (l.foldl (fun (s : State) p => s.setB k p v) s).w j = s.w j := by
  induction l generalizing s with
  | nil => rfl
  | cons p l ih => rw [List.foldl_cons, ih, State.w_setB_other _ _ _ h]

theorem mem_setBitsOf {n v i : Nat} : i ∈ setBitsOf n v ↔ i < n ∧ v.testBit i = true := by
  simp [setBitsOf]

/-- Settles O31: the action folds over the pins its mask names. -/
theorem gpioActionsMoveTheNamedPins : Obligations.GpioActionsMoveTheNamedPins := by
  intro s mask i v hi
  refine ⟨?_, fun k other => State.w_foldl_setB_other other v _ s⟩
  have pins : ∀ p ∈ setBitsOf 16 mask, p < 32 := fun p hp => by
    have := (mem_setBitsOf.1 hp).1
    omega
  have named : (i ∈ setBitsOf 16 mask) = (mask.testBit i = true) := by simp [mem_setBitsOf, hi]
  rw [State.gpioAct, State.b_foldl_setB _ v pins]
  simp only [named]

/-! ### The controller channels (R516) -/

@[simp] theorem State.twc_setTwc_same (s : State) (n : Nat) (x : Twc) : (s.setTwc n x).twc n = x :=
  Sparse.get_set_same s.twcs {} n x

theorem State.twcPush_of_keeping {s : State} {n : Nat} (v : Word) (h : (s.twc n).discard = false) :
    s.twcPush n v = s.setTwc n { s.twc n with
      ops := (s.twc n).ops ++ [{ kind := bits v 10 2, pec := bit v 9, last := bit v 8, data := bits v 0 8 }] } := by
  simp [State.twcPush, h]

theorem State.twcPop_of_nil {s : State} {n : Nat} (h : (s.twc n).rx = []) : s.twcPop n = (0, s) := by
  simp [State.twcPop, h]

theorem State.twcPop_of_cons {s : State} {n b : Nat} {t : List Nat} (h : (s.twc n).rx = b :: t) :
    s.twcPop n = (Word.of (256 + b), s.setTwc n { s.twc n with rx := t }) := by
  simp [State.twcPop, h]

/-- Settles O54: a write appends to the operations, a read pops the received bytes. -/
theorem twcQueuesKeepTheirOrder : Obligations.TwcQueuesKeepTheirOrder := by
  intro s n v _
  refine ⟨fun keeping => ?_, State.twcPop_of_nil, fun b t oldest => ?_⟩
  · rw [State.twcPush_of_keeping v keeping, State.twc_setTwc_same]
    exact ⟨rfl, rfl⟩
  · rw [State.twcPop_of_cons oldest, State.twc_setTwc_same]
    exact ⟨rfl, rfl, rfl⟩

/-! ### The OTP (R574) -/

theorem otpKey_ne_OTP_STAT (i : Nat) : otpKey i ≠ Regs.OTP_STAT := by
  unfold otpKey Regs.OTP_STAT Regs.at_
  omega

theorem State.otp_setB_STAT (s : State) (i n : Nat) (b : Bool) : (s.setB Regs.OTP_STAT n b).otp i = s.otp i :=
  State.w_setB_other s n b (otpKey_ne_OTP_STAT i)

theorem State.otp_otpSet (s : State) (i j : Nat) (v : Word) : (s.otpSet j v).otp i = if i = j then s.otp i ||| v else s.otp i := by
  by_cases same : i = j
  · rw [same, if_pos rfl]
    exact State.w_setW_same _ _ _
  · rw [if_neg same]
    exact State.w_setW_other _ _ (by simp only [otpKey]; omega)

/-- What programming leaves in the OTP: the named word with the asked bits, or with some of them when the check has failed. -/
theorem State.otp_otpProgDone (s : State) (good : Bool) (i : Nat) :
    (s.otpProgDone good).otp i = match s.sec.otpProg with
      | none => s.otp i
      | some (j, v) => if i = j then s.otp i ||| (if good then v else v &&& Config.freeWord s.free) else s.otp i := by
  cases asked : s.sec.otpProg with
  | none => simp [State.otpProgDone, asked]
  | some jv =>
    obtain ⟨j, v⟩ := jv
    have cleared : ({ s with sec := { s.sec with otpProg := none } }.setB Regs.OTP_STAT 0 false).otp i = s.otp i :=
      State.otp_setB_STAT _ i 0 false
    cases good with
    | true =>
      simp only [State.otpProgDone, asked, if_true]
      rw [State.otp_otpSet, cleared]
    | false =>
      simp only [State.otpProgDone, asked, Bool.false_eq_true, if_false]
      rw [State.otp_setB_STAT]
      change (State.otpSet _ j _).otp i = _
      rw [State.otp_otpSet, cleared]
      rfl

/-- Settles O55: programming is an OR of asked bits into one word. -/
theorem otpBitsAreNeverCleared : Obligations.OtpBitsAreNeverCleared := by
  intro s good i _ t
  have left : t.otp i = _ := s.otp_otpProgDone good i
  cases asked : s.sec.otpProg with
  | none =>
    simp only [asked] at left
    simp [left]
  | some jv =>
    obtain ⟨j, v⟩ := jv
    simp only [asked] at left
    by_cases same : i = j
    · subst same
      refine ⟨fun b _ was => by simp [left, was], fun b hb set => ?_, ?_⟩
      · rw [left, if_pos rfl, BitVec.getLsbD_or, Bool.or_eq_true] at set
        refine set.imp id fun new => ⟨v, rfl, ?_⟩
        cases good with
        | true => exact new
        | false =>
          rw [if_neg Bool.false_ne_true, BitVec.getLsbD_and, Bool.and_eq_true] at new
          exact new.1
      · rintro rfl w ⟨⟩
        simp [left]
    · rw [if_neg same] at left
      refine ⟨fun b _ was => by rw [left, was], fun b _ set => .inl (by rwa [left] at set), fun _ w named => ?_⟩
      simp only [Option.some.injEq, Prod.mk.injEq] at named
      exact absurd named.1.symm same

/-! ### Slots (R194, R196) -/

/-- Bits shifted in from the top, the most significant first, make the number whose bits they are. -/
theorem foldl_shift_testBit (v n : Nat) (k : Nat) (h : k ≤ n) :
    (List.range k).foldl (fun a j => 2 * a + b2n (v.testBit (n - 1 - j))) 0 = v / 2 ^ (n - k) % 2 ^ k := by
  induction k with
  | zero => simp [Nat.mod_one]
  | succ k ih =>
    have bit : b2n (v.testBit (n - 1 - k)) = v / 2 ^ (n - (k + 1)) % 2 := by
      rw [b2n_testBit]
      congr 3
      omega
    have above : v / 2 ^ (n - k) = v / 2 ^ (n - (k + 1)) / 2 := by
      rw [Nat.div_div_eq_div_mul, ← pow_succ]
      congr 2
      omega
    rw [List.range_succ, List.foldl_append, ih (by omega), List.foldl_cons, List.foldl_nil, bit, above, pow_succ, Nat.mul_comm (2 ^ k),
      Nat.mod_mul]
    omega

/-- Settles O60: the sender puts its word's bits out from the top, and the receiver shifts them in in that order. -/
theorem slotsCarryTheirWord : Obligations.SlotsCarryTheirWord := by
  intro f v line i shown
  have bits_in : ∀ a, ∀ j ∈ List.range (fmtWordBits f),
      2 * a + b2n (line (fmtSlotStart f i + j)) = 2 * a + b2n (v.toNat.testBit (fmtWordBits f - 1 - j)) := fun a j hj => by
    have inside := List.mem_range.1 hj
    rw [shown j inside, fmtSlotBit, decide_eq_true inside, Bool.true_and]
  rw [fmtReadWord, List.foldl_ext _ _ 0 bits_in, foldl_shift_testBit _ _ _ (Nat.le_refl _), Nat.sub_self, pow_zero, Nat.div_one]

end Sys2Proof.Machine
end

section
/-!
PROOFS. The encoding of anvil instructions (chapter 11, R319 to R321 and R330): a word as the row of its fields, and a format as the row
of fields that spells an instruction.
-/
namespace Sys2Proof.Machine

/-! ### Rows of fields -/

/-- The number whose fields, from bit 0 upwards, have these lengths and values. -/
def packFields : List (Nat × Nat) → Nat
  | [] => 0
  | (len, v) :: l => v + 2 ^ len * packFields l

/-- The values of consecutive fields of these lengths, the first at bit `lo`. -/
def fieldsFrom (w lo : Nat) : List Nat → List Nat
  | [] => []
  | len :: l => fld w lo len :: fieldsFrom w (lo + len) l

/-- Every value fits its field. -/
def FieldsFit (l : List (Nat × Nat)) : Prop := ∀ x ∈ l, x.2 < 2 ^ x.1

theorem FieldsFit.tail {x : Nat × Nat} {l : List (Nat × Nat)} (h : FieldsFit (x :: l)) : FieldsFit l :=
  fun y hy => h y (List.mem_cons_of_mem _ hy)

theorem fld_eq (w lo len : Nat) : fld w lo len = w / 2 ^ lo % 2 ^ len := by
  rw [fld, Nat.shiftRight_eq_div_pow]

theorem b2n_testBit_eq_fld (w i : Nat) : b2n (w.testBit i) = fld w i 1 := by
  rw [b2n_testBit, fld_eq, pow_one]

theorem testBit_eq_decide_fld (w i : Nat) : w.testBit i = decide (fld w i 1 = 1) := by
  rw [← b2n_testBit_eq_fld]
  cases w.testBit i <;> rfl

theorem decide_b2n_eq_one (b : Bool) : decide (b2n b = 1) = b := by
  cases b <;> rfl

theorem packFields_lt {l : List (Nat × Nat)} (fit : FieldsFit l) : packFields l < 2 ^ (l.map Prod.fst).sum := by
  induction l with
  | nil => exact Nat.one_pos
  | cons x l ih =>
    have below := ih fit.tail
    have inField := fit x List.mem_cons_self
    calc packFields (x :: l) = x.2 + 2 ^ x.1 * packFields l := rfl
      _ < 2 ^ x.1 * (packFields l + 1) := by rw [Nat.mul_succ]; omega
      _ ≤ 2 ^ x.1 * 2 ^ (l.map Prod.fst).sum := Nat.mul_le_mul_left _ below
      _ = 2 ^ ((x :: l).map Prod.fst).sum := by rw [List.map_cons, List.sum_cons, pow_add]

/-- The fields of a packed number are the values packed. -/
theorem fieldsFrom_of_div {l : List (Nat × Nat)} (fit : FieldsFit l) (w lo : Nat) (h : w / 2 ^ lo = packFields l) :
    fieldsFrom w lo (l.map Prod.fst) = l.map Prod.snd := by
  induction l generalizing lo with
  | nil => rfl
  | cons x l ih =>
    have inField := fit x List.mem_cons_self
    have here : fld w lo x.1 = x.2 := by
      rw [fld_eq, h, packFields, Nat.add_mul_mod_self_left, Nat.mod_eq_of_lt inField]
    have above : w / 2 ^ (lo + x.1) = packFields l := by
      rw [pow_add, ← Nat.div_div_eq_div_mul, h, packFields, Nat.add_mul_div_left _ _ (Nat.two_pow_pos _), Nat.div_eq_of_lt inField,
        Nat.zero_add]
    rw [List.map_cons, List.map_cons, fieldsFrom, here, ih fit.tail _ above]

/-- Packing the fields of a number that they cover gives the number back. -/
theorem packFields_zip_fieldsFrom (w : Nat) (lens : List Nat) (lo : Nat) (h : w / 2 ^ lo < 2 ^ lens.sum) :
    packFields (lens.zip (fieldsFrom w lo lens)) = w / 2 ^ lo := by
  induction lens generalizing lo with
  | nil =>
    rw [List.sum_nil, pow_zero, Nat.lt_one_iff] at h
    exact h.symm
  | cons len l ih =>
    have above : w / 2 ^ (lo + len) < 2 ^ l.sum := by
      rw [pow_add, ← Nat.div_div_eq_div_mul]
      rw [List.sum_cons, pow_add] at h
      exact Nat.div_lt_of_lt_mul h
    rw [fieldsFrom, List.zip_cons_cons, packFields, ih _ above, fld_eq, pow_add, ← Nat.div_div_eq_div_mul, Nat.mod_add_div]

/-! ### The formats (R321, R330) -/

/-- The row of fields, from bit 0 upwards, that spells an instruction. -/
def AnvOp.layout : AnvOp → List (Nat × Nat)
  | .sys f => [(6, f), (19, 0), (6, 0x00), (1, 0)]
  | .alu f d a b w => [(6, f), (6, 0), (1, b2n w), (4, b), (4, a), (4, d), (6, 0x01), (1, 0)]
  | .imm sub d v => [(16, v), (2, 0), (3, sub), (4, d), (6, 0x02), (1, 0)]
  | .acc f d ad src n => [(6, f), (7, 0), (6, n), (1, src), (1, ad), (4, d), (6, 0x03), (1, 0)]
  | .load sub reg p am m off => [(9, off), (3, m), (1, 0), (2, am), (3, p), (3, sub), (4, reg), (6, 0x04), (1, 0)]
  | .store sub reg p am m off => [(9, off), (3, m), (1, 0), (2, am), (3, p), (3, sub), (4, reg), (6, 0x05), (1, 0)]
  | .norm sub reg p am m off => [(9, off), (3, m), (1, 0), (2, am), (3, p), (3, sub), (4, reg), (6, 0x06), (1, 0)]
  | .addr p sub v => [(14, v), (7, 0), (1, sub), (3, p), (6, 0x07), (1, 0)]
  | .ctl out reg w cr => [(14, 0), (6, cr), (1, b2n w), (4, reg), (6, if out then 0x08 else 0x09), (1, 0)]
  | .br cond kind target => [(11, target), (8, 0), (2, kind), (4, cond), (6, 0x0A), (1, 0)]
  | .loop lc src stop count => [(11, count), (11, stop), (1, b2n src), (2, lc), (6, 0x0B), (1, 0)]
  | .billet f h s ring i p => [(4, 0), (3, p), (4, i), (2, ring), (6, s), (3, h), (3, f), (6, 0x0C), (1, 0)]
  | .handle f h reg sel => [(14, 0), (1, b2n sel), (4, reg), (3, h), (3, f), (6, 0x0D), (1, 0)]
  | .cop op d a b => [(10, 0), (4, b), (4, a), (4, d), (3, op), (6, 0x0E), (1, 0)]
  | .bus wr d a => [(16, 0), (4, a), (4, d), (1, b2n wr), (6, 0x0F), (1, 0)]
  | .lane op ac x y sgn sh lx px mx ly py my width =>
    [(1, 0), (2, width), (3, my), (3, py), (1, b2n ly), (3, mx), (3, px), (1, b2n lx), (1, b2n sh), (2, sgn), (4, y), (4, x), (1, ac),
      (2, op), (1, 1)]

theorem encodeAnvil_eq_packFields (o : AnvOp) : encodeAnvil o = packFields o.layout := by
  cases o <;> simp only [encodeAnvil, AnvOp.layout, packFields, fieldAt] <;> omega

theorem AnvOp.layout_length (o : AnvOp) : (o.layout.map Prod.fst).sum = 32 := by
  cases o <;> rfl


theorem b2n_lt_two (b : Bool) : b2n b < 2 := by
  cases b <;> decide

theorem regOk_iff {r : Nat} : regOk r = true ↔ r < 16 := decide_eq_true_iff

theorem lt_of_pairOk {r : Nat} (h : pairOk r = true) : r < 16 := by
  rw [pairOk, Bool.and_eq_true, decide_eq_true_iff] at h
  exact h.1

theorem lt_of_wideOk {w : Bool} {r : Nat} (h : wideOk w r = true) : r < 16 := by
  cases w with
  | false => exact regOk_iff.1 h
  | true => exact lt_of_pairOk h

theorem noField_iff {v : Nat} : noField v = true ↔ v = 0 := beq_iff_eq

theorem memFieldsOk_bounds {p am m off : Nat} (h : memFieldsOk p am m off = true) : p < 8 ∧ am < 3 ∧ m < 8 ∧ off < 512 := by
  simp only [memFieldsOk, Bool.and_eq_true, decide_eq_true_iff] at h
  tauto

theorem crWide_bound {cr : Nat} {w : Bool} (h : crWide cr = some w) : cr < 64 := by
  unfold crWide at h
  grind

theorem laneOk_bounds {op ac x y sgn px mx py my width : Nat} {sh lx ly : Bool}
    (h : laneOk op ac x y sgn sh lx px mx ly py my width = true) :
    op < 3 ∧ ac < 2 ∧ x < 16 ∧ y < 16 ∧ sgn < 4 ∧ width < 3 ∧ px < 8 ∧ mx < 8 ∧ py < 8 ∧ my < 8 := by
  have pair := @lt_of_pairOk
  simp only [laneOk, Bool.and_eq_true, decide_eq_true_iff] at h
  grind [regOk_iff]

/-- The operands of a legal instruction fit the fields of its format. -/
theorem AnvOp.layout_fits {o : AnvOp} (legal : o.legal = true) : FieldsFit o.layout := by
  have pair := @lt_of_pairOk
  have wide := @lt_of_wideOk
  have mem := @memFieldsOk_bounds
  have bool := b2n_lt_two
  cases o <;> simp only [FieldsFit, AnvOp.layout, AnvOp.legal, List.forall_mem_cons, List.not_mem_nil, false_imp_iff, implies_true, and_true,
    Bool.and_eq_true, decide_eq_true_iff, regOk_iff] at legal ⊢
  case sys | imm | addr | br | billet => grind
  case alu | bus => grind [noField_iff]
  case acc | load | store | norm | handle | cop => grind [regOk_iff, noField_iff]
  case loop => grind [AnvOp.legal.between1]
  case ctl =>
    have bound := crWide_bound (beq_iff_eq.1 legal.1.2)
    grind
  case lane =>
    have bounds := laneOk_bounds legal
    grind

/-- An encoding is a word of 32 bits whose fields are those of the format. -/
theorem encodeAnvil_fields {o : AnvOp} (legal : o.legal = true) :
    encodeAnvil o < 2 ^ 32 ∧ fieldsFrom (encodeAnvil o) 0 (o.layout.map Prod.fst) = o.layout.map Prod.snd := by
  rw [encodeAnvil_eq_packFields]
  refine ⟨?_, fieldsFrom_of_div (AnvOp.layout_fits legal) _ _ (by rw [pow_zero, Nat.div_one])⟩
  rw [← o.layout_length]
  exact packFields_lt (AnvOp.layout_fits legal)

/-- A word whose fields are those of a legal instruction's format decodes to it. -/
theorem decodeAnvil_of_fields {o : AnvOp} {w : Nat} (legal : o.legal = true)
    (h : fieldsFrom w 0 (o.layout.map Prod.fst) = o.layout.map Prod.snd) : decodeAnvil w = some o := by
  cases o <;> simp only [AnvOp.layout, List.map_cons, List.map_nil, fieldsFrom, List.cons.injEq, Nat.reduceAdd] at h
  case ctl out reg wd cr =>
    cases out <;> simp [decodeAnvil, testBit_eq_decide_fld, h, decide_b2n_eq_one, legal]
  all_goals simp [decodeAnvil, testBit_eq_decide_fld, h, decide_b2n_eq_one, legal]

/-- Settles O39: an encoding packs the fields of its format, and the decoder reads them. -/
theorem anvilDecodeOfEncode : Obligations.AnvilDecodeOfEncode := fun _ legal =>
  have ⟨bound, fields⟩ := encodeAnvil_fields legal
  ⟨bound, decodeAnvil_of_fields legal fields⟩

theorem fld_one_of_testBit {w i : Nat} {b : Bool} (h : w.testBit i = b) : fld w i 1 = b2n b := by
  rw [← b2n_testBit_eq_fld, h]

/-- A word that decodes shows, field by field, the format of what it decodes to. -/
theorem fieldsFrom_of_decodeAnvil {o : AnvOp} {w : Nat} (h : decodeAnvil w = some o) :
    fieldsFrom w 0 (o.layout.map Prod.fst) = o.layout.map Prod.snd := by
  unfold decodeAnvil at h
  cases top : w.testBit 31 with
  | true =>
    simp only [top, if_true] at h
    split at h
    case h_1 => cases h
    case h_2 spelled =>
      rw [Option.ite_none_right_eq_some, Option.some.injEq] at h
      obtain ⟨-, rfl⟩ := h
      rw [Option.ite_none_left_eq_some, Option.some.injEq] at spelled
      obtain ⟨low, rfl⟩ := spelled
      have bit0 : fld w 0 1 = 0 := fld_one_of_testBit (Bool.eq_false_iff.2 low)
      have bit31 : fld w 31 1 = 1 := fld_one_of_testBit top
      simp [AnvOp.layout, fieldsFrom, b2n_testBit_eq_fld, bit0, bit31]
  | false =>
    have bit31 : fld w 31 1 = 0 := fld_one_of_testBit top
    simp only [top, Bool.false_eq_true, if_false] at h
    split at h
    case h_1 => cases h
    case h_2 spelled =>
      rw [Option.ite_none_right_eq_some, Option.some.injEq] at h
      obtain ⟨-, rfl⟩ := h
      split at spelled
      case h_17 => cases spelled
      case h_12 =>
        cases spelled
        simp [AnvOp.layout, fieldsFrom, b2n_testBit_eq_fld, *]
      case h_5 | h_6 | h_7 =>
        simp only [Option.ite_none_left_eq_some, Option.some.injEq] at spelled
        obtain ⟨clear, rfl⟩ := spelled
        have bit12 : fld w 12 1 = 0 := fld_one_of_testBit (Bool.eq_false_iff.2 clear)
        simp [AnvOp.layout, fieldsFrom, *]
      all_goals
        rw [Option.ite_none_right_eq_some, Option.some.injEq] at spelled
        obtain ⟨reserved, rfl⟩ := spelled
        simp [AnvOp.layout, fieldsFrom, b2n_testBit_eq_fld, *]

/-- Settles O40: the fields that the decoder reads and requires to be 0 cover the word. -/
theorem anvilWordsSpellOneInstruction : Obligations.AnvilWordsSpellOneInstruction := by
  intro w o small decodes
  have fields := fieldsFrom_of_decodeAnvil decodes
  calc encodeAnvil o = packFields ((o.layout.map Prod.fst).zip (o.layout.map Prod.snd)) := by
        rw [encodeAnvil_eq_packFields, List.zip_map']
        exact congrArg packFields (List.map_id _).symm
    _ = w / 2 ^ 0 := by
        rw [← fields]
        exact packFields_zip_fieldsFrom w _ 0 (by rwa [o.layout_length, pow_zero, Nat.div_one])
    _ = w := Nat.div_one w

end Sys2Proof.Machine
end

section
/-!
PROOFS. The lane, loads, stores and buffers of an anvil (chapters 10 and 11, R283, R326 to R328 and R331).
-/
namespace Sys2Proof.Machine

/-! ### The lane (R331) -/

theorem Anv.reg_lt (a : Anv) (r : Nat) : a.reg r < 65536 := (a.d.get 0 r).isLt

theorem laneOperand_reg (unsigned : Bool) (a : Anv) (r : Nat) :
    laneOperand unsigned (a.reg r) = if unsigned then (a.reg r : Int) else sext 16 (a.reg r) := by
  cases unsigned with
  | false => rfl
  | true =>
    have small : a.reg r % 65536 = a.reg r := Nat.mod_eq_of_lt (a.reg_lt r)
    simp only [laneOperand, if_true]
    omega

/-- st after an accumulation: V on overflow and S when that saturated; Z, N and C are kept. -/
theorem Anv.setCr_st_of_fit (a : Anv) {n : Nat} (hn : 0 < n) (md : Nat) (t : Int) (st : Nat) :
    a.setCr 0x10 (fit n md t st).st =
      a.setCr 0x10 (flagWord (st.testBit 0) (st.testBit 1) (st.testBit 2) (st.testBit 3 || overflows n t)
        (st.testBit 4 || overflows n t && md.testBit 1)) := by
  rw [Anv.setCr_st]
  simp [fit_st hn, -Nat.testBit_zero]

/-- A lane instruction on 16-bit operands without loads is one accumulation. -/
theorem State.anvLane_of_registers {s : State} {n md op acc x y sgn : Nat} {sh : Bool} {c : Calc}
    (hc : laneAcc op md ((s.anv n).accv acc) (laneProduct 0 sgn sh ((s.anv n).reg x) ((s.anv n).reg y)) (s.anv n).st = c) :
    s.anvLane n md op acc x y sgn sh false 0 0 false 0 0 0 =
      .done (s.setAnv n (((s.anv n).setAcc acc c.val).setCr 0x10 c.st)) c.v false .next := by
  subst hc
  simp [State.anvLane, Anv.laneLoad]

/-- Settles O42: the lane accumulates by the overflow rule of 40 bits. -/
theorem anvilLaneAccumulates : Obligations.AnvilLaneAccumulates := by
  intro s n md op acc x y sgn sh hop a xv yv p t ovf res st
  have product : laneProduct 0 sgn sh (a.reg x) (a.reg y) = p := by
    simp only [laneProduct, laneOperand_reg]
    rfl
  have accumulated : laneAcc op md (a.accv acc) (laneProduct 0 sgn sh (a.reg x) (a.reg y)) a.st = fit 40 md t a.st := by
    rw [product]
    obtain rfl | rfl | rfl : op = 0 ∨ op = 1 ∨ op = 2 := by omega
    all_goals rfl
  have value : (fit 40 md t a.st).val = res := fit_val (by decide) md t a.st
  have sets_v : (fit 40 md t a.st).v = ovf := fit_v (by decide) md t a.st
  have flags : (a.setAcc acc res).setCr 0x10 (fit 40 md t a.st).st = (a.setAcc acc res).setCr 0x10 st :=
    Anv.setCr_st_of_fit _ (by decide) md t a.st
  rw [State.anvLane_of_registers accumulated, value, sets_v, flags]

/-! ### Loads and stores (R283, R327, R328) -/

/-- An access that completes is aligned, inside the data memory, and what it does is done at its address. -/
theorem State.access_of_done {s : State} {n p am m off size x v : Nat} {store : Bool} {act : Nat → Nat → Issue} {t : State}
    {vf bf : Bool} {fl : Flow} (address : (s.anv n).address p am m off size = some (x, v))
    (done : s.access n p am m off size store act = .done t vf bf fl) : x % size = 0 ∧ x < 0x4000 ∧ act x v = .done t vf bf fl := by
  simp only [State.access, address, memFault] at done
  by_cases aligned : x % size = 0
  · by_cases inside : 0x4000 ≤ x
    · simp [aligned, inside] at done
    · simp only [aligned, inside, ne_eq, not_true_eq_false, if_false] at done
      split at done
      · cases done
      · exact ⟨aligned, by omega, done⟩
  · simp [aligned] at done

theorem dataKey_ne {n i j : Nat} (h : i ≠ j) : dataKey n i ≠ dataKey n j := by
  unfold dataKey
  omega

theorem State.read16_write16_same (s : State) (n v : Nat) {x : Nat} (even : x % 2 = 0) : (s.write16 n x v).read16 n x = v % 65536 := by
  have fits : 8 * (x % 4) + 16 ≤ 32 := by omega
  exact State.f_setF_same s _ _ _ v fits

theorem State.read16_write16_other (s : State) (n v : Nat) {x y : Nat} (hx : x % 2 = 0) (hy : y % 2 = 0) (h : y ≠ x) :
    (s.write16 n x v).read16 n y = s.read16 n y := by
  by_cases word : y / 4 = x / 4
  · unfold State.read16 State.write16
    rw [word]
    rcases Nat.lt_or_gt_of_ne (show y % 4 ≠ x % 4 by omega) with below | above
    · exact State.f_setF_below s _ _ _ _ _ _ (by omega) (by omega)
    · exact State.f_setF_above s _ _ _ _ _ _ (by omega) (by omega)
  · exact State.f_setF_other s _ _ _ _ _ (dataKey_ne word)

theorem State.read32_write32_same (s : State) (n x v : Nat) : (s.write32 n x v).read32 n x = v % 2 ^ 32 := by
  unfold State.read32 State.write32
  rw [State.w_setW_same]
  exact BitVec.toNat_ofNat v 32

theorem State.read16_write32_other (s : State) (n v : Nat) {x y : Nat} (h : y / 4 ≠ x / 4) : (s.write32 n x v).read16 n y = s.read16 n y := by
  unfold State.read16 State.write32 State.f
  rw [State.w_setW_other s _ (dataKey_ne h)]

/-- What an access does to its anvil and what it writes to memory are apart. -/
theorem State.setW_anvAfter_frame (s : State) (k : Nat) (u : Word) (n st p v : Nat) :
    { (s.setW k u).anvAfter n st p v with words := s.words } = s.anvAfter n st p v := rfl

theorem State.setF_anvAfter_frame (s : State) (k lo len u n st p v : Nat) :
    { (s.setF k lo len u).anvAfter n st p v with words := s.words } = s.anvAfter n st p v := rfl

theorem Anv.pair_lt (a : Anv) (r : Nat) : a.pair r < 2 ^ 32 := by
  have low := a.reg_lt r
  have high := a.reg_lt (r + 1)
  unfold Anv.pair
  omega

/-- Settles O44: a store that completes writes its word at its address, and the access moves its address register. -/
theorem anvilStoresWriteTheirBytesAlone : Obligations.AnvilStoresWriteTheirBytesAlone := by
  intro s n md sub reg p am m off x v t vf bf fl hsub address done
  obtain rfl | rfl : sub = 0 ∨ sub = 1 := by omega
  · obtain ⟨even, inside, stored⟩ := State.access_of_done address done
    cases stored
    refine ⟨inside, rfl, rfl, rfl, fun _ => ?_, by simp, fun y other hy _ => ?_, fun k other => ?_, State.setF_anvAfter_frame ..⟩
    · exact (State.read16_write16_same s n _ even).trans (Nat.mod_eq_of_lt (Anv.reg_lt _ _))
    · exact State.read16_write16_other s n _ even hy other
    · exact State.w_setF_other s _ _ _ other
  · obtain ⟨aligned, inside, stored⟩ := State.access_of_done address done
    cases stored
    refine ⟨inside, rfl, rfl, rfl, by simp, fun _ => ?_, fun y other hy next => ?_, fun k other => ?_, State.setW_anvAfter_frame ..⟩
    · exact (State.read32_write32_same s n x _).trans (Nat.mod_eq_of_lt (Anv.pair_lt _ _))
    · have := next rfl
      exact State.read16_write32_other s n _ (by simp only [Nat.one_ne_zero, if_false] at aligned; omega)
    · exact State.w_setW_other s _ other

/-- Settles O45: a load that completes puts the word at its address into its register, and the access moves its address register. -/
theorem anvilLoadsLeaveMemory : Obligations.AnvilLoadsLeaveMemory := by
  intro s n md sub reg p am m off x v t vf bf fl hnorm hsub address done
  obtain ⟨aligned, inside, loaded⟩ := State.access_of_done address done
  obtain rfl | rfl | rfl : sub = 0 ∨ sub = 1 ∨ sub = 3 := by omega
  all_goals
    cases loaded
    exact ⟨inside, aligned, rfl, rfl, rfl, rfl, rfl⟩

end Sys2Proof.Machine
end

section
/-!
PROOFS. Buffers, exceptions and the coprocessor's roots (chapters 11 and 12, R326, R346, R358 to R360 and R369).
-/
namespace Sys2Proof.Machine

/-! ### Reversed bits -/

theorem revBits_succ (n v : Nat) : revBits (n + 1) v = 2 * revBits n v + b2n (v.testBit n) := by
  rw [revBits, List.range_succ, List.foldl_append, List.foldl_cons, List.foldl_nil, ← revBits, b2n_testBit, Nat.mul_comm]

theorem testBit_revBits (n v i : Nat) : (revBits n v).testBit i = (decide (i < n) && v.testBit (n - 1 - i)) := by
  induction n generalizing i with
  | zero => simp [revBits]
  | succ n ih =>
    have small : b2n (v.testBit n) < 2 ^ 1 := b2n_lt_two _
    rw [revBits_succ, ← pow_one 2, Nat.testBit_two_pow_mul_add _ small]
    cases i with
    | zero => cases bit : v.testBit n <;> simp [b2n, bit]
    | succ i =>
      rw [if_neg (by omega), Nat.add_sub_cancel, ih]
      congr 2
      · simp
      · omega

theorem revBits_lt (n v : Nat) : revBits n v < 2 ^ n :=
  Nat.lt_pow_two_of_testBit _ fun i hi => by simp [testBit_revBits, hi]

/-- Reversed twice, the low bits stand as they did. -/
theorem revBits_revBits (n v : Nat) : revBits n (revBits n v) = v % 2 ^ n := by
  refine Nat.eq_of_testBit_eq fun i => ?_
  rw [testBit_revBits, testBit_revBits, Nat.testBit_mod_two_pow]
  by_cases low : i < n
  · have back : n - 1 - (n - 1 - i) = i := by omega
    have inside : n - 1 - i < n := by omega
    simp [low, back, inside]
  · simp [low]

/-- The top bit of the field is the lowest of the reversed field. -/
theorem revBits_two_pow (n : Nat) : revBits (n + 1) (2 ^ n) = 1 := by
  refine Nat.eq_of_testBit_eq fun i => ?_
  rw [testBit_revBits, Nat.testBit_two_pow]
  cases i with
  | zero => simp
  | succ i =>
    have right : (1 : Nat).testBit (i + 1) = false := by simp [Nat.testBit_succ]
    rw [right, Bool.and_eq_false_iff, decide_eq_false_iff_not, decide_eq_false_iff_not]
    omega

/-! ### Addresses (R326) -/

theorem div_mul_add_of_lt {len r : Nat} (q : Nat) (h : r < len) : (q * len + r) / len = q ∧ (q * len + r) % len = r := by
  rw [Nat.mul_comm, Nat.mul_add_div (by omega), Nat.div_eq_of_lt h, Nat.mul_add_mod, Nat.mod_eq_of_lt h]
  exact ⟨rfl, rfl⟩

/-- A buffer of 2^l bytes that begins inside the address space ends inside it. -/
theorem buffer_lt {p l r : Nat} (hp : p < 65536) (hl : l ≤ 14) (hr : r < 2 ^ l) : p / 2 ^ l * 2 ^ l + r < 65536 := by
  have buffers : 65536 = 2 ^ (16 - l) * 2 ^ l := by
    rw [← pow_add, Nat.sub_add_cancel (by omega)]
    rfl
  have inside : p / 2 ^ l < 2 ^ (16 - l) := Nat.div_lt_of_lt_mul (by rw [Nat.mul_comm]; omega)
  calc p / 2 ^ l * 2 ^ l + r < (p / 2 ^ l + 1) * 2 ^ l := by rw [Nat.succ_mul]; omega
    _ ≤ 2 ^ (16 - l) * 2 ^ l := Nat.mul_le_mul_right _ inside
    _ = 65536 := buffers.symm

/-- A modifier that may be used is linear, or names a buffer of 2^2 to 2^14 bytes. -/
theorem modifier_cases {m : Nat} (h : modifierOk m = true) :
    fld m 30 2 = 0 ∨ (fld m 30 2 = 1 ∨ fld m 30 2 = 2) ∧ 2 ≤ fld m 16 5 ∧ fld m 16 5 ≤ 14 := by
  have four : fld m 30 2 < 4 := Nat.mod_lt _ (by decide)
  unfold modifierOk at h
  split at h
  case h_1 linear => exact .inl linear
  case h_2 => cases h
  case h_3 notLinear notReserved =>
    simp only [Bool.and_eq_true, decide_eq_true_iff] at h
    have kind : fld m 30 2 ≠ 0 ∧ fld m 30 2 ≠ 3 := ⟨notLinear, notReserved⟩
    exact .inr ⟨by omega, h⟩

/-- Settles O43: the three kinds of modifier. -/
theorem anvilBuffersKeepTheirAddresses : Obligations.AnvilBuffersKeepTheirAddresses := by
  intro p m hp ok len q
  have small : p % 65536 = p := Nat.mod_eq_of_lt hp
  rcases modifier_cases ok with linear | ⟨circular | reversed, two, fourteen⟩
  · have moved : q = (p + fld m 0 16) % 65536 := by
      change postModify p m = _
      simp [postModify, linear]
    exact ⟨by omega, fun _ => moved, by simp [linear], by simp [linear]⟩
  · have stays : (p + fld m 0 16) % len < len := Nat.mod_lt _ (Nat.two_pow_pos _)
    have moved : q = p / len * len + (p + fld m 0 16) % len := by
      change postModify p m = _
      simp [postModify, circular, small, len]
    have parts := div_mul_add_of_lt (p / len) stays
    rw [← moved] at parts
    refine ⟨?_, by simp [circular], fun _ => parts, by simp [circular]⟩
    rw [moved]
    exact buffer_lt hp fourteen stays
  · have stays := revBits_lt (fld m 16 5) ((revBits (fld m 16 5) (p % len) + revBits (fld m 16 5) (fld m 0 16 % len)) % len)
    have moved : q = p / len * len +
        revBits (fld m 16 5) ((revBits (fld m 16 5) (p % len) + revBits (fld m 16 5) (fld m 0 16 % len)) % len) := by
      change postModify p m = _
      simp only [postModify, reversed, small]
      rfl
    have parts := div_mul_add_of_lt (p / len) stays
    rw [← moved] at parts
    refine ⟨?_, by simp [reversed], by simp [reversed], fun _ => ⟨parts.1, fun half => ?_⟩⟩
    · rw [moved]
      exact buffer_lt hp fourteen stays
    · obtain ⟨k, hk⟩ : ∃ k, fld m 16 5 = k + 1 := ⟨fld m 16 5 - 1, by omega⟩
      have top : revBits (fld m 16 5) (fld m 0 16 % len) = 1 := by
        have double : len = 2 * 2 ^ k := by simp only [len, hk, pow_succ, Nat.mul_comm]
        have here : fld m 0 16 % len = 2 ^ k := by
          have := Nat.two_pow_pos k
          rw [half, double, Nat.mul_div_cancel_left _ (by decide), Nat.mod_eq_of_lt (by omega)]
        rw [here, hk, revBits_two_pow]
      rw [parts.2, revBits_revBits, top, Nat.mod_mod]

/-! ### Exceptions (R358 to R360, R369) -/

theorem State.anv_setW (s : State) (k : Nat) (v : Word) (i : Nat) : (s.setW k v).anv i = s.anv i := rfl

theorem State.anv_setF (s : State) (k lo len v i : Nat) : (s.setF k lo len v).anv i = s.anv i := rfl

theorem State.anv_setB (s : State) (k j : Nat) (v : Bool) (i : Nat) : (s.setB k j v).anv i = s.anv i := rfl

theorem State.anv_incF (s : State) (k lo len i : Nat) : (s.incF k lo len).anv i = s.anv i := rfl

theorem State.anv_event (s : State) (p j i : Nat) : (s.event p j).anv i = s.anv i := rfl

/-- The words that an exception writes. -/
def State.anvRaise (s : State) (n cause src epc : Nat) : State :=
  let s := (s.setW (Regs.ANV_EXC_LAST n) (excWord cause src epc false)).incF (Regs.ANV_EXC_CNT n) 16 16
  (if cause = 4 then s.incF (Regs.ANV_EXC_CNT n) 8 8 else s).event (anvPage n) 1

theorem State.anv_anvRaise (s : State) (n cause src epc i : Nat) : (s.anvRaise n cause src epc).anv i = s.anv i := by
  unfold State.anvRaise
  rw [State.anv_event]
  split
  · rw [State.anv_incF, State.anv_incF, State.anv_setW]
  · rw [State.anv_incF, State.anv_setW]

theorem State.w_anvRaise_other (s : State) (n cause src epc : Nat) {k : Nat} (last : k ≠ Regs.ANV_EXC_LAST n)
    (count : k ≠ Regs.ANV_EXC_CNT n) (pend : k ≠ Regs.IRQ_PEND (anvPage n)) : (s.anvRaise n cause src epc).w k = s.w k := by
  have counted (s : State) (lo len : Nat) : (s.incF (Regs.ANV_EXC_CNT n) lo len).w k = s.w k := State.w_setF_other s _ _ _ count
  unfold State.anvRaise
  rw [State.event, State.w_setB_other _ _ _ pend]
  split <;> simp only [counted, State.w_setW_other _ _ last]

theorem State.flushCops_of_nil {s : State} {n : Nat} (h : (s.anv n).cops = []) : s.flushCops n = s := by
  simp [State.flushCops, h]

theorem State.anvExcept_of_taken {s : State} {n cause src : Nat} {p : Place} (idle : (s.anv n).cops = [])
    (h : (s.anv n).exl = false ∨ cause = 4) :
    s.anvExcept n cause src p =
      (s.setAnv n { ((s.anv n).setCr 0x20 p.epc).setCr 0x21 (p.estat cause) with
        slot := none, shadow := none,
        pc := (((s.anv n).setCr 0x20 p.epc).setCr 0x21 (p.estat cause)).crv 0x22 + 2 * cause }).anvRaise n cause src p.epc := by
  have taken : ((s.anv n).exl && cause != 4) = false := by rcases h with h | h <;> simp [h]
  simp only [State.anvExcept, State.flushCops_of_nil idle, idle, List.find?_nil, Option.isSome_none, Bool.false_eq_true, if_false, taken]
  rfl

theorem State.anvExcept_of_nested {s : State} {n cause src : Nat} {p : Place} (idle : (s.anv n).cops = []) (exl : (s.anv n).exl = true)
    (h : cause ≠ 4) :
    s.anvExcept n cause src p =
      (((s.setW (Regs.ANV_EXC_LAST n) (excWord cause src (s.anv n).pc true)).incF (Regs.ANV_EXC_CNT n) 0 8).event (anvPage n) 1).anvHalt n
        true := by
  have nested : ((s.anv n).exl && cause != 4) = true := by simp [exl, h]
  simp only [State.anvExcept, State.flushCops_of_nil idle, idle, List.find?_nil, Option.isSome_none, Bool.false_eq_true, if_false, nested,
    if_true]

theorem State.anv_anvHalt (s : State) (n : Nat) (inprog : Bool) :
    (s.anvHalt n inprog).anv n = { s.anv n with haltReq := false, stepReq := false, passed := false } := by
  rw [State.anvHalt, State.anv_event, State.anv_setW, State.anv_setB, State.setAnvState, State.anv_setF, State.anv_setAnv_same]

theorem State.f_setW_other (s : State) {j k : Nat} (v : Word) (lo len : Nat) (h : j ≠ k) : (s.setW k v).f j lo len = s.f j lo len := by
  rw [State.f, State.w_setW_other _ _ h, State.f]

theorem State.f_event_other (s : State) {k p : Nat} (n lo len : Nat) (h : k ≠ Regs.IRQ_PEND p) : (s.event p n).f k lo len = s.f k lo len :=
  State.f_setF_other s _ _ _ _ _ h

/-- A bit above a field is written without it. -/
theorem State.f_setB_above (s : State) (k lo len : Nat) {i : Nat} (v : Bool) (hi : i < 32) (h : lo + len ≤ i) :
    (s.setB k i v).f k lo len = s.f k lo len :=
  State.f_setF_below s k i 1 (b2n v) lo len hi h

/-- Registers at different offsets of one page have different keys. -/
theorem Regs.at_ne (p : Nat) {i j : Nat} (h : i / 4 ≠ j / 4) : Regs.at_ p i ≠ Regs.at_ p j := by
  unfold Regs.at_
  omega

theorem State.anvState_anvHalt (s : State) (n : Nat) (inprog : Bool) : (s.anvHalt n inprog).anvState n = anHalted := by
  have pend : Regs.ANV_STAT n ≠ Regs.IRQ_PEND (anvPage n) := Regs.at_ne _ (by decide)
  have pc : Regs.ANV_STAT n ≠ Regs.ANV_PC n := Regs.at_ne _ (by decide)
  rw [State.anvHalt, State.anvState, State.f_event_other _ _ _ _ pend, State.f_setW_other _ _ _ _ pc,
    State.f_setB_above _ _ _ _ _ (by decide) (by decide), State.setAnvState, State.f_setF_same _ _ _ _ _ (by decide)]
  decide

/-- Settles O46: with no coprocessor operation open, an exception outside a handler saves its place, and one inside halts. -/
theorem exceptionsSaveTheirPlace : Obligations.ExceptionsSaveTheirPlace := by
  intro s n cause src p idle a b t
  refine ⟨fun outside => ?_, fun inside notOverrun => ?_⟩
  · have taken : t = _ := State.anvExcept_of_taken (src := src) (p := p) idle outside
    rw [taken]
    refine ⟨?_, fun i other => ?_, fun k last count pend => ?_⟩
    · rw [State.anv_anvRaise, State.anv_setAnv_same]
    · rw [State.anv_anvRaise, State.anv_setAnv_other _ _ other]
    · rw [State.w_anvRaise_other _ _ _ _ _ last count pend, State.setAnv_w]
  · have nested : t = _ := State.anvExcept_of_nested (src := src) (p := p) idle inside notOverrun
    rw [nested]
    refine ⟨State.anvState_anvHalt _ _ _, ?_⟩
    rw [State.anv_anvHalt, State.anv_event, State.anv_incF, State.anv_setW]
    rfl

/-! ### Square roots (R346) -/

/-- The bits of the root are found from the top: what stands after `k` of them is the root's part in units of 2^(34 - k). -/
theorem sqrt_bits (x : Nat) (hx : x < 2 ^ 68) (k : Nat) (hk : k ≤ 34) :
    let r := (List.range k).foldl (fun r i => let t := r + 2 ^ (33 - i); if t * t ≤ x then t else r) 0
    r * r ≤ x ∧ x < (r + 2 ^ (34 - k)) * (r + 2 ^ (34 - k)) := by
  induction k with
  | zero => exact ⟨Nat.zero_le _, by simpa using hx⟩
  | succ k ih =>
    obtain ⟨floor, ceiling⟩ := ih (by omega)
    have double : 2 ^ (34 - k) = 2 ^ (34 - (k + 1)) + 2 ^ (34 - (k + 1)) := by
      rw [← Nat.two_mul, ← pow_succ']
      congr 1
      omega
    have unit_ : 33 - k = 34 - (k + 1) := by omega
    rw [List.range_succ, List.foldl_append]
    simp only [List.foldl_cons, List.foldl_nil, unit_] at floor ceiling ⊢
    rw [double, ← Nat.add_assoc] at ceiling
    split
    · next larger => exact ⟨larger, ceiling⟩
    · next smaller => exact ⟨floor, Nat.lt_of_not_le smaller⟩

theorem sqrtFloor_eq_sqrt {x : Nat} (hx : x < 2 ^ 68) : sqrtFloor x = Nat.sqrt x := by
  obtain ⟨floor, ceiling⟩ := sqrt_bits x hx 34 (Nat.le_refl _)
  exact Nat.eq_sqrt.2 ⟨floor, ceiling⟩

/-- Rounding down gives the floor of the root. -/
theorem sqrtMd_of_rnd {md x : Nat} (hx : x < 2 ^ 68) (h : md.testBit 0 = true) : sqrtMd md x = Nat.sqrt x := by
  rw [sqrtMd, mdRnd, h, if_pos rfl, sqrtFloor_eq_sqrt hx]

/-- Rounding to nearest: the root lies within half a unit. -/
theorem sqrtMd_nearest {md x : Nat} (hx : x < 2 ^ 68) (h : md.testBit 0 = false) :
    (0 < sqrtMd md x → (2 * sqrtMd md x - 1) * (2 * sqrtMd md x - 1) < 4 * x) ∧
      4 * x < (2 * sqrtMd md x + 1) * (2 * sqrtMd md x + 1) := by
  have floor := Nat.sqrt_le x
  have ceiling := Nat.lt_succ_sqrt x
  have which : sqrtMd md x = if Nat.sqrt x * Nat.sqrt x + Nat.sqrt x < x then Nat.sqrt x + 1 else Nat.sqrt x := by
    simp only [sqrtMd, mdRnd, h, Bool.false_eq_true, if_false, sqrtFloor_eq_sqrt hx]
  rw [which]
  generalize Nat.sqrt x = r at *
  split
  · refine ⟨fun _ => ?_, by nlinarith⟩
    rw [show 2 * (r + 1) - 1 = 2 * r + 1 by omega]
    nlinarith
  · refine ⟨fun pos => ?_, by nlinarith⟩
    obtain ⟨k, rfl⟩ : ∃ k, r = k + 1 := ⟨r - 1, by omega⟩
    rw [show 2 * (k + 1) - 1 = 2 * k + 1 by omega]
    nlinarith

/-- A result in range is given as it is. -/
theorem q31Res_of_lt {r : Nat} (h : r < 2 ^ 31) : (q31Res r).val.toNat = r ∧ (q31Res r).sat = false ∧ (q31Res r).err = false := by
  have high : ¬ ((r : Int) > 2 ^ (32 - 1) - 1) := by omega
  have low : ¬ ((r : Int) < -(2 ^ (32 - 1))) := by omega
  have inside : fitsS 32 (r : Int) = true := by
    simp only [fitsS, Bool.and_eq_true, decide_eq_true_iff]
    norm_num
    omega
  have value : satS 32 (r : Int) = r := by rw [satS, if_neg high, if_neg low]
  refine ⟨?_, by simp [q31Res, inside], rfl⟩
  simp only [q31Res, value, unsign, Word.of, BitVec.toNat_ofNat]
  omega

theorem sext_of_lt {a : Nat} (h : a < 2 ^ 31) : sext 32 a = a := by
  unfold sext
  norm_num
  omega

theorem sext_of_ge {a : Nat} (low : 2 ^ 31 ≤ a) (high : a < 2 ^ 32) : sext 32 a < 0 := by
  unfold sext
  norm_num
  omega

/-- The root of a number below 2^31 in Q1.31 is below 2^31, rounded or not. -/
theorem sqrtMd_lt {md a : Nat} (h : a < 2 ^ 31) : sqrtMd md (a * 2 ^ 31) < 2 ^ 31 := by
  have small : a * 2 ^ 31 < 2 ^ 68 := by omega
  cases rnd : md.testBit 0 with
  | true =>
    rw [sqrtMd_of_rnd small rnd, Nat.sqrt_lt]
    omega
  | false =>
    by_contra big
    have bound := (sqrtMd_nearest small rnd).1 (by omega)
    generalize sqrtMd md (a * 2 ^ 31) = r at *
    have : 2 * 2 ^ 31 - 1 ≤ 2 * r - 1 := by omega
    have := Nat.mul_le_mul this this
    omega

/-- Settles O48. -/
theorem coprocessorRootsAreCorrectlyRounded : Obligations.CoprocessorRootsAreCorrectlyRounded := by
  intro md a b ha r
  refine ⟨fun positive => ?_, fun negative => ?_, ?_⟩
  · have small : a * 2 ^ 31 < 2 ^ 68 := by omega
    have root : copResult 1 md a b = q31Res (sqrtMd md (a * 2 ^ 31)) := by
      simp [copResult, sext_of_lt positive]
    obtain ⟨value, sat, err⟩ := q31Res_of_lt (sqrtMd_lt (md := md) positive)
    have hr : r = sqrtMd md (a * 2 ^ 31) := by
      simp only [r, root, value]
    refine ⟨by rw [root, err], ?_⟩
    cases rnd : md.testBit 0 with
    | true =>
      rw [if_pos rfl, hr, sqrtMd_of_rnd small rnd]
      exact ⟨Nat.sqrt_le _, Nat.lt_succ_sqrt _⟩
    | false =>
      rw [if_neg Bool.false_ne_true, hr]
      exact ⟨(sqrtMd_nearest small rnd).1, fun _ => (sqrtMd_nearest small rnd).2⟩
  · have error : copResult 1 md a b = { val := 0, err := true } := by
      simp [copResult, sext_of_ge negative ha]
    simp only [r, error]
    decide
  · have error : copResult 0 md a 0 = { val := if 0 ≤ sext 32 a then 0x7FFFFFFF else 0x80000000, err := true } := by
      simp [copResult, sext]
    rw [error]
    refine ⟨rfl, ?_⟩
    by_cases positive : a < 2 ^ 31
    · rw [if_pos positive, if_pos (by rw [sext_of_lt positive]; omega)]
    · have := sext_of_ge (by omega) ha
      rw [if_neg positive, if_neg (by omega)]

end Sys2Proof.Machine
end

section
/-!
PROOFS. The bound of the gain factors (chapter 09, R258).
-/
namespace Sys2Proof.Machine

/-! ### The root by bisection -/

/-- Bisection keeps the root between what is found and the next number. -/
theorem rootBelow_spec {e up dn : Nat} (fuel n : Nat) (floor : n ^ e * dn ≤ up * 2 ^ (60 * e))
    (ceiling : up * 2 ^ (60 * e) < (n + 2 ^ fuel) ^ e * dn) :
    rootBelow e up dn fuel n ^ e * dn ≤ up * 2 ^ (60 * e) ∧ up * 2 ^ (60 * e) < (rootBelow e up dn fuel n + 1) ^ e * dn := by
  induction fuel generalizing n with
  | zero => exact ⟨floor, ceiling⟩
  | succ fuel ih =>
    rw [rootBelow]
    split
    · next below =>
      refine ih _ below ?_
      rwa [Nat.add_assoc, ← Nat.two_mul, ← pow_succ']
    · next above => exact ih _ floor (Nat.lt_of_not_le above)

/-- R258 in exact arithmetic for the factor 2^-60 n of the gain whose e-th power is up / dn. -/
def FactorBound (e up dn n : Nat) : Prop :=
  up * (2 ^ 28 - 1) ^ e * 2 ^ (32 * e) < n ^ e * dn ∧ n ^ e * dn < up * (2 ^ 28 + 1) ^ e * 2 ^ (32 * e)

/-- A number that the root exceeds by less than 1 is within 2^-28 of it where it is itself at least 2^28 - 1. -/
theorem factorBound_of_root {e up dn n : Nat} (he : e ≠ 0) (hup : 0 < up) (big : 2 ^ 28 - 1 ≤ n)
    (floor : n ^ e * dn ≤ up * 2 ^ (60 * e)) (ceiling : up * 2 ^ (60 * e) < (n + 1) ^ e * dn) : FactorBound e up dn n := by
  have split_ : 2 ^ (60 * e) = (2 ^ 28) ^ e * 2 ^ (32 * e) := by
    rw [← pow_mul, ← pow_add]
    congr 1
    omega
  constructor
  · have near : ((n + 1) * (2 ^ 28 - 1)) ^ e ≤ (n * 2 ^ 28) ^ e := Nat.pow_le_pow_left (by omega) e
    have pos : 0 < (2 ^ 28 - 1) ^ e := Nat.pow_pos (by norm_num)
    rw [mul_pow, mul_pow] at near
    refine Nat.lt_of_mul_lt_mul_right (a := (2 ^ 28) ^ e) ?_
    calc up * (2 ^ 28 - 1) ^ e * 2 ^ (32 * e) * (2 ^ 28) ^ e = up * 2 ^ (60 * e) * (2 ^ 28 - 1) ^ e := by rw [split_]; ac_rfl
      _ < (n + 1) ^ e * dn * (2 ^ 28 - 1) ^ e := Nat.mul_lt_mul_of_pos_right ceiling pos
      _ = (n + 1) ^ e * (2 ^ 28 - 1) ^ e * dn := by ac_rfl
      _ ≤ n ^ e * (2 ^ 28) ^ e * dn := Nat.mul_le_mul_right dn near
      _ = n ^ e * dn * (2 ^ 28) ^ e := by ac_rfl
  · have more : (2 ^ 28) ^ e < (2 ^ 28 + 1) ^ e := Nat.pow_lt_pow_left (by norm_num) he
    calc n ^ e * dn ≤ up * 2 ^ (60 * e) := floor
      _ = up * (2 ^ 28) ^ e * 2 ^ (32 * e) := by rw [split_]; ac_rfl
      _ < up * (2 ^ 28 + 1) ^ e * 2 ^ (32 * e) :=
        Nat.mul_lt_mul_of_pos_right (Nat.mul_lt_mul_of_pos_left more hup) (Nat.two_pow_pos _)

/-- The bisection's root is within the bound where the gain is neither too great for 90 bits nor too small for 28. -/
theorem factorBound_rootBelow {e up dn : Nat} (he : e ≠ 0) (hup : 0 < up) (hdn : 0 < dn) (loud : up < 2 ^ (30 * e))
    (quiet : dn ≤ 2 ^ (32 * e)) : FactorBound e up dn (rootBelow e up dn 90 0) := by
  have least : 0 ^ e * dn ≤ up * 2 ^ (60 * e) := by simp [he]
  have greatest : up * 2 ^ (60 * e) < (0 + 2 ^ 90) ^ e * dn := by
    calc up * 2 ^ (60 * e) < 2 ^ (30 * e) * 2 ^ (60 * e) := Nat.mul_lt_mul_of_pos_right loud (Nat.two_pow_pos _)
      _ = (0 + 2 ^ 90) ^ e := by
        rw [Nat.zero_add, ← pow_add, ← pow_mul]
        congr 1
        omega
      _ ≤ (0 + 2 ^ 90) ^ e * dn := Nat.le_mul_of_pos_right _ hdn
  obtain ⟨floor, ceiling⟩ := rootBelow_spec 90 0 least greatest
  refine factorBound_of_root he hup ?_ floor ceiling
  have enough : (2 ^ 28) ^ e * dn < (rootBelow e up dn 90 0 + 1) ^ e * dn := by
    calc (2 ^ 28) ^ e * dn ≤ (2 ^ 28) ^ e * 2 ^ (32 * e) := Nat.mul_le_mul_left _ quiet
      _ = 2 ^ (60 * e) := by
        rw [← pow_mul, ← pow_add]
        congr 1
        omega
      _ ≤ up * 2 ^ (60 * e) := Nat.le_mul_of_pos_left _ hup
      _ < _ := ceiling
  have := lt_of_pow_lt_pow_left₀ e (Nat.zero_le _) (Nat.lt_of_mul_lt_mul_right enough)
  omega

/-! ### The fields' gains -/

/-- A power of ten against a power of two. -/
theorem ten_pow_lt {k m b : Nat} (h : k < 4 * m) (hb : 18 * m ≤ b) : 10 ^ k < 2 ^ b := by
  calc 10 ^ k < 10 ^ (4 * m) := Nat.pow_lt_pow_right (by decide) h
    _ = (10 ^ 4) ^ m := pow_mul _ _ _
    _ ≤ (2 ^ 18) ^ m := Nat.pow_le_pow_left (by decide) _
    _ = 2 ^ (18 * m) := (pow_mul _ _ _).symm
    _ ≤ 2 ^ b := Nat.pow_le_pow_right (by decide) hb

/-- The bound for the gain `num`, whose 5,120th power is a power of ten. -/
def GainBound (num : Int) (e n : Nat) : Prop :=
  FactorBound e (if num ≥ 0 then 10 ^ num.toNat else 1) (if num ≥ 0 then 1 else 10 ^ (-num).toNat) n

theorem gainBound_of_factorOk {num : Int} {den n : Nat} (h : factorOk num den n = true) : GainBound num (5120 * den) n := by
  rw [factorOk, Bool.and_eq_true, decide_eq_true_iff, decide_eq_true_iff] at h
  exact h

/-- The bisection meets the bound where 2^(18 e / 30) covers the gain. -/
theorem gainBound_rootBelow {num : Int} {e m : Nat} (he : 18 * m ≤ 30 * e) (hm : num.natAbs < 4 * m) :
    GainBound num e (rootBelow e (if num ≥ 0 then 10 ^ num.toNat else 1) (if num ≥ 0 then 1 else 10 ^ (-num).toNat) 90 0) := by
  have pos : e ≠ 0 := by omega
  unfold GainBound
  by_cases gain : num ≥ 0
  · rw [if_pos gain, if_pos gain]
    exact factorBound_rootBelow pos (Nat.pow_pos (by decide)) Nat.one_pos (ten_pow_lt (m := m) (by omega) he) Nat.one_le_two_pow
  · rw [if_neg gain, if_neg gain]
    exact factorBound_rootBelow pos Nat.one_pos (Nat.pow_pos (by decide)) (Nat.one_lt_two_pow (by omega))
      (ten_pow_lt (m := m) (by omega) (by omega)).le

/-- The factor of a gain, whatever the free value. -/
theorem gainBound_gainFactor {num : Int} {den m : Nat} (he : 18 * m ≤ 30 * (5120 * den)) (hm : num.natAbs < 4 * m) :
    GainBound num (5120 * den) (gainFactor num den) := by
  rw [gainFactor, boundFactor, id_eq, id_eq]
  split
  · next ok => exact gainBound_of_factorOk ok
  · exact gainBound_rootBelow he hm

/-- Settles O49: the factor is the free value where that is in the bound, else the root by bisection, which is. -/
theorem gainFactorsKeepTheirBound : Obligations.GainFactorsKeepTheirBound := by
  refine ⟨if_pos rfl, fun g low high => ?_⟩
  have audible : fieldFactor g = gainFactor g 1 := if_neg (by unfold gMute; omega)
  rw [audible]
  have bound : GainBound g (5120 * 1) (gainFactor g 1) := gainBound_gainFactor (m := 8192) (by decide) (by omega)
  rwa [GainBound, FactorBound, Nat.mul_one] at bound

end Sys2Proof.Machine
end

section
/-!
PROOFS. Arming, credits and the order of stream queues (chapters 04 and 05, R117, R118, R136, R137 and R143).
-/
namespace Sys2Proof.Machine

/-! ### Arming (R117, R118) -/

/-- The search stops at an index that no entry holds, or when its fuel is spent; every index before is held. -/
theorem freeIndex_spec (l : List SchedEntry) (fuel i : Nat) :
    i ≤ freeIndex l fuel i ∧ (∀ k, i ≤ k → k < freeIndex l fuel i → k ∈ l.map SchedEntry.idx) ∧
      (freeIndex l fuel i < i + fuel → freeIndex l fuel i ∉ l.map SchedEntry.idx) := by
  induction fuel generalizing i with
  | zero => exact ⟨Nat.le_refl _, fun k low high => absurd high (Nat.not_lt.2 low), fun h => absurd h (Nat.lt_irrefl _)⟩
  | succ fuel ih =>
    have held : (l.any fun e => e.idx == i) = true ↔ i ∈ l.map SchedEntry.idx := by
      simp only [List.any_eq_true, beq_iff_eq, List.mem_map]
    rw [freeIndex]
    split
    · next taken =>
      obtain ⟨low, before, stop⟩ := ih (i + 1)
      refine ⟨by omega, fun k hk below => ?_, fun h => stop (by omega)⟩
      rcases Nat.eq_or_lt_of_le hk with rfl | above
      · exact held.1 taken
      · exact before k above below
    · next free => exact ⟨Nat.le_refl _, fun k low high => absurd high (Nat.not_lt.2 low), fun _ holds => free (held.2 holds)⟩

/-- As many tries as there are entries find a free index: more indices than entries cannot all be held. -/
theorem freeIndex_free (l : List SchedEntry) : freeIndex l l.length 0 ∉ l.map SchedEntry.idx := by
  obtain ⟨-, before, stop⟩ := freeIndex_spec l l.length 0
  intro holds
  have all : List.range (freeIndex l l.length 0 + 1) ⊆ l.map SchedEntry.idx := fun k hk => by
    rcases Nat.eq_or_lt_of_le (Nat.le_of_lt_succ (List.mem_range.1 hk)) with rfl | below
    · exact holds
    · exact before k (Nat.zero_le _) below
  have few := (List.subperm_of_subset List.nodup_range all).length_le
  rw [List.length_range, List.length_map] at few
  exact stop (by omega) holds

theorem freeIndex_le (l : List SchedEntry) (fuel i : Nat) : freeIndex l fuel i ≤ i + fuel := by
  induction fuel generalizing i with
  | zero => exact Nat.le_refl _
  | succ fuel ih =>
    rw [freeIndex]
    split
    · exact (ih _).trans (by omega)
    · omega

@[simp] theorem State.sched_level (s : State) (p n : Nat) (v : Bool) : (s.level p n v).sched = s.sched := by
  cases v <;> rfl

@[simp] theorem State.sched_schedLevel (s : State) : s.schedLevel.sched = s.sched := by
  unfold State.schedLevel
  dsimp only
  split
  · rfl
  · exact State.sched_level ..

/-- A refusal for want of an entry comes last: what arms finds fewer than 4,096. -/
theorem State.room_of_armReason {s : State} {d : Domain} {boundary lateOk : Bool} {time kind : Nat} {payload : Word}
    (h : s.armReason d boundary lateOk time kind payload = 0) : s.sched.length < 4096 := by
  by_contra full
  have full : schedSize ≤ s.sched.length := Nat.not_lt.1 full
  simp only [State.armReason, full, if_true] at h
  grind

/-- Settles O32: arming appends one entry at the lowest free index. -/
theorem armingTakesAFreeEntry : Obligations.ArmingTakesAFreeEntry := by
  intro s m d ctrl payload time r
  refine ⟨fun refused => if_pos refused, fun accepted => ?_⟩
  have armed : s.schedArm m d = _ := if_neg (not_not_intro accepted)
  have room := State.room_of_armReason accepted
  have index := freeIndex_le s.sched s.sched.length 0
  have new := freeIndex_free s.sched
  rw [armed]
  refine ⟨_, rfl, State.sched_schedLevel _, by dsimp only; omega, fun x hx same => new (List.mem_map.2 ⟨x, hx, same⟩), rfl,
    rfl, rfl, rfl, rfl, rfl⟩

/-! ### Credits (R136, R137) -/

theorem gapFrom_ge (l : List (Nat × Own)) (b : Nat) : b ≤ gapFrom l b := by
  induction l generalizing b with
  | nil => exact Nat.le_refl b
  | cons x l ih =>
    rw [gapFrom]
    split
    · exact ih b
    · split
      · exact (Nat.le_succ b).trans (ih (b + 1))
      · exact Nat.le_refl b

/-- R139: what a queue may draw is FREE, and lies in its slab where it is pinned to one. -/
theorem State.of_freeFor {s : State} {x : Queue} {b : Nat} (h : s.freeFor x = some b) :
    s.isFree b = true ∧ (x.pin = true → slabOf b = x.slab) := by
  have found := List.find?_some h
  have listed := List.mem_of_find?_eq_some h
  simp only [Bool.and_eq_true, decide_eq_true_iff] at found
  obtain ⟨inside, free⟩ := found
  refine ⟨free, fun pinned => ?_⟩
  obtain ⟨j, -, rfl⟩ := List.mem_map.1 listed
  rw [if_pos pinned, if_pos pinned] at inside
  have low := gapFrom_ge s.stock.own (if x.pin = true then x.slab * 4096 else 0)
  rw [if_pos pinned] at low ⊢
  unfold slabOf
  omega

/-- A billet with a location record is not FREE. -/
theorem State.isFree_of_own {s : State} {b : Nat} {o : Own} (h : s.own b = some o) : s.isFree b = false := by
  have record : (s.stock.own.any fun x => x.1 == b) = true := by
    obtain ⟨x, found, -⟩ := Option.map_eq_some_iff.1 h
    exact List.any_eq_true.2 ⟨x, List.mem_of_find?_eq_some found, List.find?_some (p := fun (x : Nat × Own) => x.1 == b) found⟩
  simp [State.isFree, record]

theorem State.grant_of_full {s : State} {q : Nat} (l : Loc) (h : (s.queue q).depth ≤ (s.queue q).outstanding) :
    s.grant q l = (none, s) := by
  simp [State.grant, h]

theorem State.grant_of_room {s : State} {q b : Nat} (l : Loc) (ready : s.stock.rebuilding = false) (stream : (s.queue q).isRing = false)
    (room : (s.queue q).outstanding < (s.queue q).depth) (free : s.freeFor (s.queue q) = some b) :
    s.grant q l = (some b, (s.setOwn b { queue := q, loc := l, gen := (s.queue q).gen }).setQueue q
      { s.queue q with issued := (s.queue q).issued + 1 }) := by
  have drawn : s.grant q l = s.draw q l := by simp [State.grant, ready, stream, room]
  simp only [drawn, State.draw, free]

/-- Settles O33: a grant on a STREAM queue below DEPTH draws the FREE billet found for it. -/
theorem creditsAreFreeBillets : Obligations.CreditsAreFreeBillets := by
  intro s q l ready stream
  refine ⟨State.grant_of_full l, fun b room free => ?_⟩
  obtain ⟨isFree, slab⟩ := State.of_freeFor free
  have granted := State.grant_of_room l ready stream room free
  have own := State.own_of_grant granted
  rw [granted]
  exact ⟨isFree, slab, rfl, own, State.isFree_of_own own⟩

/-! ### Puts, takes and releases (R137, R143) -/

@[simp] theorem State.queue_setQueue_same (s : State) (q : Nat) (x : Queue) : (s.setQueue q x).queue q = x :=
  Sparse.get_set_same s.stock.queues {} q x

@[simp] theorem State.queue_setOwn (s : State) (b : Nat) (o : Own) (q : Nat) : (s.setOwn b o).queue q = s.queue q := rfl

@[simp] theorem State.billet_setBillet_same (s : State) (b : Nat) (x : Billet) : (s.setBillet b x).billet b = x :=
  Sparse.get_set_same s.stock.mem {} b x

@[simp] theorem State.billet_setQueue (s : State) (q : Nat) (x : Queue) (b : Nat) : (s.setQueue q x).billet b = s.billet b := rfl

@[simp] theorem State.billet_setOwn (s : State) (c : Nat) (o : Own) (b : Nat) : (s.setOwn c o).billet b = s.billet b := rfl

/-- R142: a put under a grant that stands, of the queue's generation, is accepted by an enabled queue. -/
theorem State.put_of_accepted {s : State} {q b : Nat} {o : Own} (t : Tag) (data : List Word) (held : s.own b = some o) (queue : o.queue = q)
    (gen : o.gen = (s.queue q).gen) (on : (s.queue q).on = true) :
    let x := s.queue q
    let tag := { t with domain := x.domain, packed := x.packed, flags := t.flags &&& 0x0F, stamp := t.stamp % 2 ^ 32 }
    s.put q b o.gen t data =
      ((s.setBillet b { tag := tag, data := clipData tag data }).setOwn b { o with loc := .waiting }).setQueue q
        { x with waiting := x.waiting ++ [.billet b], lastTag := some tag, fresh := x.fresh + (if x.gap && !x.isInput then 1 else 0) } := by
  subst queue
  have accepted : s.putRefused o.queue b o.gen = false := by
    have stands := State.grantStands_of_own held
    rw [gen] at stands
    simp [State.putRefused, stands, gen, on]
  intro x tag
  simp only [State.put, held]
  rw [if_neg (by rw [accepted]; exact Bool.false_ne_true)]

/-- What the consumer of a queue may take where nothing of the running stroke waits. -/
theorem Queue.ready_of_stream {x : Queue} (input : x.isInput = false) (fresh : x.fresh = 0) : x.ready = x.waiting := by
  simp [Queue.ready, input, fresh]

theorem State.injectRead_of_none {s : State} (b : Nat) (ce : s.tst.injCe = false) (ue : s.tst.injUe = false) : s.injectRead b = s := by
  simp [State.injectRead, ce, ue]

/-- A take of a queue whose front is `i` answers it and leaves the rest. -/
theorem State.take_of_front {s : State} {q : Nat} (l : Loc) {i : QItem} {rest : List QItem} (input : (s.queue q).isInput = false)
    (fresh : (s.queue q).fresh = 0) (waiting : (s.queue q).waiting = i :: rest) (ce : s.tst.injCe = false) (ue : s.tst.injUe = false) :
    (s.take q l).1 = some i ∧ ((s.take q l).2.queue q).waiting = rest := by
  have ready : (s.queue q).ready = i :: rest := (Queue.ready_of_stream input fresh).trans waiting
  cases i with
  | made t d => simp [State.take, ready, input, waiting]
  | billet b =>
    simp only [State.take, ready, State.injectRead_of_none b ce ue, input]
    split <;> simp [waiting]

/-- A release drops the location records of its billet alone. -/
theorem State.ownRecords_release {s : State} {b : Nat} {o : Own} (held : s.own b = some o) :
    (s.release b).stock.own = s.stock.own.filter fun x => x.1 != b := by
  simp only [State.release, held]
  exact State.creditBack_own _ _

theorem State.own_release_same (s : State) (b : Nat) : (s.release b).own b = none := by
  cases held : s.own b with
  | none => simp [State.release, held]
  | some o =>
    rw [State.own, State.ownRecords_release held, Option.map_eq_none_iff, List.find?_eq_none]
    intro x hx
    simpa using (List.mem_filter.1 hx).2

theorem State.own_release_other (s : State) {b c : Nat} (h : c ≠ b) : (s.release b).own c = s.own c := by
  cases held : s.own b with
  | none => simp [State.release, held]
  | some o =>
    have kept : ∀ x : Nat × Own, decide ((x.1 != b) = true ∧ (x.1 == c) = true) = (x.1 == c) := fun x => by
      by_cases same : x.1 = c
      · simp [same, h]
      · simp [same]
    rw [State.own, State.ownRecords_release held, List.find?_filter, State.own]
    simp only [kept]

/-- Settles O35: puts append, takes remove the front, and a release ends the location record. -/
theorem streamQueuesAreFirstInFirstOut : Obligations.StreamQueuesAreFirstInFirstOut := by
  refine ⟨fun s q b gen t data o held queue granted gen_ on => ?_, fun s q l i rest input fresh _ waiting ce ue => ?_,
    fun s b o held => ⟨s.own_release_same b, fun c => s.own_release_other, s.release_words b, fun quar hb => ?_⟩⟩
  · subst granted
    rw [State.put_of_accepted t data held queue gen_ on]
    refine ⟨?_, ?_, _, State.own_setOwn_same _ b _, rfl, queue⟩
    · rw [State.queue_setQueue_same]
    · rw [State.billet_setQueue, State.billet_setOwn, State.billet_setBillet_same]
  · exact State.take_of_front l input fresh waiting ce ue
  · exact State.isFree_release hb held quar

end Sys2Proof.Machine
end

section
/-!
PROOFS. Opening, aborting and the end of a session's welds and actions (chapters 06 and 21, R157, R170 and R570).
-/
namespace Sys2Proof.Machine

/-! ### Opening (R157) -/

theorem State.mem_freeIds {s : State} {i : Nat} : i ∈ s.freeIds ↔ (1 ≤ i ∧ i ≤ 15) ∧ s.weldOf i = none := by
  rw [State.freeIds, List.mem_filter, Option.isNone_iff_eq_none]
  refine and_congr_left fun _ => ?_
  constructor
  · rintro h
    obtain ⟨j, hj, rfl⟩ := List.mem_map.1 h
    have := List.mem_range.1 hj
    omega
  · rintro ⟨low, high⟩
    exact List.mem_map.2 ⟨i - 1, List.mem_range.2 (by omega), by omega⟩

/-- The FREE identifiers rise. -/
theorem State.freeIds_rising (s : State) : s.freeIds.Pairwise (· < ·) := by
  refine List.Pairwise.filter _ (List.Pairwise.map _ (fun a b h => ?_) List.pairwise_lt_range)
  exact Nat.succ_lt_succ h

theorem State.weldOpen_of_nil {s : State} (m : Master) (d : Domain) (h : s.freeIds = []) : s.weldOpen m d = (0, s) := by
  simp [State.weldOpen, h]

/-- An identifier that no live weld has is found at the end of the list, where its new weld stands. -/
theorem find_weld_append {l : List Weld} {id : Nat} {w : Weld} (p : Weld → Bool) (free : (l.find? fun w => w.live && w.id == id) = none)
    (live : w.live = true) (named : w.id = id) : ((l.filter p ++ [w]).find? fun w => w.live && w.id == id) = some w := by
  have absent : ((l.filter p).find? fun w => w.live && w.id == id) = none := by
    rw [List.find?_eq_none] at free ⊢
    exact fun x hx => free x (List.mem_filter.1 hx).1
  rw [List.find?_append, absent, Option.none_or]
  simp [live, named]

/-- Settles O37. -/
theorem openingTakesTheLowestFreeIdentifier : Obligations.OpeningTakesTheLowestFreeIdentifier := by
  intro s m d
  refine ⟨State.weldOpen_of_nil m d, fun id rest front => ?_⟩
  have free : id ∈ s.freeIds := front ▸ List.mem_cons_self
  obtain ⟨⟨low, high⟩, unused⟩ := State.mem_freeIds.1 free
  refine ⟨low, high, unused, fun j hj below unused' => ?_, ?_⟩
  · have also : j ∈ s.freeIds := State.mem_freeIds.2 ⟨⟨hj, by omega⟩, unused'⟩
    have rising := s.freeIds_rising
    rw [front] at also rising
    rcases List.mem_cons.1 also with rfl | later
    · exact Nat.lt_irrefl _ below
    · exact Nat.lt_asymm below ((List.pairwise_cons.1 rising).1 j later)
  · simp only [State.weldOpen, front]
    exact ⟨trivial, _, find_weld_append _ unused rfl rfl, rfl, rfl, rfl, rfl⟩

/-! ### Aborts (R170) -/

theorem bits_of_small {n len : Nat} (h : n < 2 ^ len) (hl : len ≤ 32) : bits (Word.of n) 0 len = n := by
  have word : n < 2 ^ 32 := h.trans_le (Nat.pow_le_pow_right (by decide) hl)
  rw [bits_eq, pow_zero, Nat.div_one, Word.of, BitVec.toNat_ofNat, Nat.mod_eq_of_lt word, Nat.mod_eq_of_lt h]

theorem State.id_of_weldOf {s : State} {id : Nat} {w : Weld} (h : s.weldOf id = some w) : w ∈ s.weld.welds ∧ w.id = id := by
  have found := List.find?_some h
  rw [Bool.and_eq_true, beq_iff_eq] at found
  exact ⟨List.mem_of_find?_eq_some h, found.2⟩

/-! #### What a cold shut leaves -/

@[simp] theorem State.sched_setSelector (s : State) (m : Master) (id : Nat) : (s.setSelector m id).sched = s.sched := by
  unfold State.setSelector
  split <;> rfl

theorem State.w_setSelector_other (s : State) {m : Master} (id : Nat) {k : Nat} (h : selReg m ≠ some k) :
    (s.setSelector m id).w k = s.w k := by
  unfold State.setSelector
  split
  · next j reg => exact State.w_setF_other s _ _ _ (by rintro rfl; exact h reg)
  · rfl

theorem State.selector_setSelector_zero (s : State) (m : Master) : (s.setSelector m 0).selector m = 0 := by
  unfold State.selector State.setSelector
  cases selReg m with
  | some k => exact State.f_setF_same s k 0 4 0 (by decide)
  | none => exact Sparse.get_set_same s.weld.sel 0 (masterNum m) 0

@[simp] theorem State.words_putWeld (s : State) (w : Weld) : (s.putWeld w).words = s.words := rfl

@[simp] theorem State.sched_putWeld (s : State) (w : Weld) : (s.putWeld w).sched = s.sched := rfl

@[simp] theorem State.words_pairOutcome (s : State) (w : Weld) (o : Nat) : (s.pairOutcome w o).words = s.words := by
  unfold State.pairOutcome
  split <;> rfl

@[simp] theorem State.sched_pairOutcome (s : State) (w : Weld) (o : Nat) : (s.pairOutcome w o).sched = s.sched := by
  unfold State.pairOutcome
  split <;> rfl

@[simp] theorem State.sched_deselect (s : State) (w : Weld) : (s.deselect w).sched = s.sched := by
  unfold State.deselect
  split
  · exact s.sched_setSelector _ _
  · rfl

theorem State.w_deselect_other (s : State) {w : Weld} {k : Nat} (h : selReg w.opener ≠ some k) : (s.deselect w).w k = s.w k := by
  unfold State.deselect
  split
  · exact s.w_setSelector_other 0 h
  · rfl

@[simp] theorem State.sched_shutWeld (s : State) (w : Weld) (r : ShutReason) (index : Nat) : (s.shutWeld w r index).sched = s.sched := by
  rw [State.shutWeld, State.event_sched, State.incF, State.addF, State.setF_sched, State.sched_pairOutcome, State.sched_putWeld,
    State.sched_deselect]

/-- A weld in its cold shut. -/
def Weld.shut (w : Weld) (r : ShutReason) (index : Nat) : Weld :=
  { w with st := .coldShut, entries := [], undo := [], reason := r.code, index := index % 2048 }

/-- The words of a cold shut before it counts. -/
theorem State.w_shut_before (s : State) (w w' : Weld) (k : Nat) :
    (((s.deselect w).putWeld w').pairOutcome w' 2).w k = (s.deselect w).w k := by
  rw [State.w, State.words_pairOutcome, State.words_putWeld, State.w]

/-- Besides its selector, a cold shut writes its count and its cause. -/
theorem State.w_shutWeld (s : State) (w : Weld) (r : ShutReason) (index : Nat) {k : Nat} (count : k ≠ Regs.WELD_SHUTS)
    (pend : k ≠ Regs.IRQ_PEND pgWeld) : (s.shutWeld w r index).w k = (s.deselect w).w k := by
  rw [State.shutWeld, State.event, State.w_setB_other _ _ _ pend, State.incF, State.addF, State.w_setF_other _ _ _ _ count,
    State.w_shut_before]

/-- The three selectors of WELD's page have the keys 1,297 to 1,299; any other stands on an anvil's page, from 0x8000. -/
theorem selReg_ne {m : Master} {k : Nat} (h : k < 0x8000 ∧ (k < 1297 ∨ 1299 < k)) : selReg m ≠ some k := by
  intro reg
  have place : k = Regs.at_ 0x05 0x044 ∨ k = Regs.at_ 0x05 0x048 ∨ k = Regs.at_ 0x05 0x04C ∨ ∃ n, k = Regs.at_ (0x80 + n) 0x04C := by
    cases m <;> simp only [selReg, Option.some.injEq, reduceCtorEq] at reg <;> subst reg <;> simp
  unfold Regs.at_ at place
  omega

/-- R170: a cold shut counts. -/
theorem State.f_shutWeld_count (s : State) (w : Weld) (r : ShutReason) (index : Nat) :
    (s.shutWeld w r index).f Regs.WELD_SHUTS 0 16 = min 65535 (s.f Regs.WELD_SHUTS 0 16 + 1) := by
  rw [State.shutWeld, State.f_event_other _ _ _ _ (by decide), State.f_incF_same _ _ _ _ (by decide), State.f,
    State.w_shut_before, s.w_deselect_other (selReg_ne (by decide)), State.f]
  rfl

theorem State.welds_deselect (s : State) (w : Weld) : (s.deselect w).weld.welds = s.weld.welds := by
  unfold State.deselect State.setSelector
  split
  · split <;> rfl
  · rfl

theorem State.welds_pairOutcome (s : State) (w : Weld) (o : Nat) : (s.pairOutcome w o).weld.welds = s.weld.welds := by
  unfold State.pairOutcome
  split <;> rfl

theorem State.sel_pairOutcome (s : State) (w : Weld) (o : Nat) : (s.pairOutcome w o).weld.sel = s.weld.sel := by
  unfold State.pairOutcome
  split <;> rfl

/-- A cold shut replaces the weld of its serial. -/
theorem State.welds_shutWeld (s : State) (w : Weld) (r : ShutReason) (index : Nat) :
    (s.shutWeld w r index).weld.welds = s.weld.welds.map fun x => if x.serial = w.serial then w.shut r index else x := by
  rw [State.shutWeld, State.event_weld, State.incF, State.addF, State.setF_weld, State.welds_pairOutcome, State.putWeld,
    State.welds_deselect]
  rfl

theorem State.sel_shutWeld (s : State) (w : Weld) (r : ShutReason) (index : Nat) :
    (s.shutWeld w r index).weld.sel = (s.deselect w).weld.sel := by
  rw [State.shutWeld, State.event_weld, State.incF, State.addF, State.setF_weld, State.sel_pairOutcome]
  rfl

/-- The weld that replaces those of a serial is the one found by it. -/
theorem find_serial_map {l : List Weld} {w w' : Weld} (listed : w ∈ l) (same : w'.serial = w.serial) :
    ((l.map fun x => if x.serial = w.serial then w' else x).find? fun x => x.serial == w.serial) = some w' := by
  induction l with
  | nil => cases listed
  | cons x l ih =>
    rw [List.map_cons]
    by_cases here : x.serial = w.serial
    · rw [if_pos here, List.find?_cons_of_pos (by simp [same])]
    · have later : w ∈ l := (List.mem_cons.1 listed).resolve_left (by rintro rfl; exact here rfl)
      rw [if_neg here, List.find?_cons_of_neg (by simp [here]), ih later]

theorem State.weldBySerial_shutWeld {s : State} {w : Weld} (r : ShutReason) (index : Nat) (listed : w ∈ s.weld.welds) :
    (s.shutWeld w r index).weldBySerial w.serial = some (w.shut r index) := by
  rw [State.weldBySerial, State.welds_shutWeld]
  exact find_serial_map listed rfl

/-- A selector is one word, or kept with the welds. -/
theorem State.selector_congr {s t : State} {m : Master} (word : ∀ k, selReg m = some k → t.w k = s.w k) (sel : t.weld.sel = s.weld.sel) :
    t.selector m = s.selector m := by
  unfold State.selector
  cases reg : selReg m with
  | some k => simp only [State.f, word k reg]
  | none => simp only [sel]

/-- After a cold shut its opener's selector no longer names it. -/
theorem State.selector_shutWeld {s : State} {w : Weld} (r : ShutReason) (index : Nat) (selected : s.selector w.opener = w.id) :
    (s.shutWeld w r index).selector w.opener = 0 := by
  have deselected : s.deselect w = s.setSelector w.opener 0 := if_pos selected
  have same : (s.shutWeld w r index).selector w.opener = (s.deselect w).selector w.opener := by
    refine State.selector_congr (fun k reg => s.w_shutWeld w r index ?_ ?_) (s.sel_shutWeld w r index)
    · rintro rfl
      exact selReg_ne (by decide) reg
    · rintro rfl
      exact selReg_ne (by decide) reg
  rw [same, deselected, State.selector_setSelector_zero]

/-- R170: an abort by the opener of an OPEN weld that is no pair half. -/
theorem State.weldAbort_of_open {s : State} {m : Master} {id : Nat} {w : Weld} (hid : id < 16) (named : s.weldOf id = some w)
    (opener : w.opener = m) (st : w.st = .open_) (half : w.pairHalf = none) :
    s.weldAbort m (Word.of id) = s.shutWeld w .aborted 0 := by
  have field : bits (Word.of id) 0 4 = id := bits_of_small hid (by decide)
  have takes : s.abortTakes m id = true := by simp [State.abortTakes, State.abortLate, named, opener, st, half]
  simp [State.weldAbort, field, named, takes, half]

theorem State.weldAbort_of_ignored {s : State} {m : Master} {id : Nat} (hid : id < 16) (h : s.abortTakes m id = false) :
    s.weldAbort m (Word.of id) = s.range pgWeld 0x058 := by
  have field : bits (Word.of id) 0 4 = id := bits_of_small hid (by decide)
  simp only [State.weldAbort, field, h]
  split <;> rfl

/-- Settles O38. -/
theorem abortColdShutsAnOpenWeld : Obligations.AbortColdShutsAnOpenWeld := by
  intro s m id hid
  refine ⟨fun free => ?_, fun w named other => ?_, fun w named opener st half => ?_⟩
  · exact State.weldAbort_of_ignored hid (by simp [State.abortTakes, free])
  · refine State.weldAbort_of_ignored hid ?_
    rcases other with other | committed
    · simp [State.abortTakes, named, other]
    · simp [State.abortTakes, named, committed]
  · obtain ⟨listed, rfl⟩ := State.id_of_weldOf named
    subst opener
    rw [State.weldAbort_of_open hid named rfl st half]
    exact ⟨⟨_, State.weldBySerial_shutWeld .aborted 0 listed, rfl, rfl, rfl⟩, s.f_shutWeld_count w .aborted 0,
      State.selector_shutWeld .aborted 0⟩

/-! ### The end of an owner session (R570) -/

theorem PG_ERR_ne_SEC_LC (p : Nat) : Regs.SEC_LC ≠ Regs.PG_ERR p := by
  unfold Regs.SEC_LC Regs.PG_ERR Regs.at_
  omega

/-- A step of the session's end keeps the life cycle's word and the scheduler's entries. -/
def State.SameSession (s t : State) : Prop := t.w Regs.SEC_LC = s.w Regs.SEC_LC ∧ t.sched = s.sched

theorem State.sameSession_foldl {β : Type} {f : State → β → State} (keeps : ∀ (s : State) x, s.SameSession (f s x)) (l : List β)
    (s : State) : s.SameSession (l.foldl f s) := by
  induction l generalizing s with
  | nil => exact ⟨rfl, rfl⟩
  | cons x l ih =>
    obtain ⟨word, sched⟩ := keeps s x
    obtain ⟨word', sched'⟩ := ih (f s x)
    exact ⟨word'.trans word, sched'.trans sched⟩

theorem State.sameSession_shutWeld (s : State) (w : Weld) : s.SameSession (s.shutWeld w .access 0) :=
  ⟨(s.w_shutWeld w _ _ (by decide) (by decide)).trans (s.w_deselect_other (selReg_ne (by decide))), s.sched_shutWeld ..⟩

theorem State.sameSession_cmdqDrop (s : State) (e : CmdqEntry) (code : Nat) : s.SameSession (s.cmdqDrop e code) := by
  constructor
  · rw [State.cmdqDrop, State.event, State.w_setB_other _ _ _ (by decide), State.incF, State.addF, State.w_setF_other _ _ _ _ (by decide),
      State.w_err_other _ _ _ _ (PG_ERR_ne_SEC_LC _)]
  · rw [State.cmdqDrop, State.event_sched, State.incF, State.addF, State.setF_sched, State.err, State.errOn, State.setW_sched]

theorem State.sameSession_cmdqDropIf (s : State) (p : CmdqEntry → Bool) (code : Nat) : s.SameSession (s.cmdqDropIf p code) :=
  State.sameSession_foldl (fun s e => s.sameSession_cmdqDrop e code) _ { s with weld := _ }

theorem State.w_schedLevel_SEC_LC (s : State) : s.schedLevel.w Regs.SEC_LC = s.w Regs.SEC_LC := by
  have raw : Regs.SEC_LC ≠ Regs.IRQ_RAW pgSched := by decide
  have pend : Regs.SEC_LC ≠ Regs.IRQ_PEND pgSched := by decide
  rw [State.schedLevel]
  split
  · rfl
  · rw [State.level]
    split
    · rw [State.event, State.w_setB_other _ _ _ pend, State.w_setB_other _ _ _ raw]
    · rw [State.w_setB_other _ _ _ raw]

theorem State.w_foldl_freeEntry_SEC_LC (l : List SchedEntry) (s : State) :
    (l.foldl (fun (s : State) (e : SchedEntry) => s.freeEntry e.idx) s).w Regs.SEC_LC = s.w Regs.SEC_LC := by
  induction l generalizing s with
  | nil => rfl
  | cons e l ih => rw [List.foldl_cons, ih, State.freeEntry, State.w_schedLevel_SEC_LC, State.w, State.w]

/-- What stays armed when entries are cancelled is none of them. -/
theorem State.sched_foldl_freeEntry (l : List SchedEntry) (s : State) {e : SchedEntry}
    (h : e ∈ (l.foldl (fun (s : State) (e : SchedEntry) => s.freeEntry e.idx) s).sched) : e ∈ s.sched ∧ e ∉ l := by
  induction l generalizing s with
  | nil => exact ⟨h, List.not_mem_nil⟩
  | cons x l ih =>
    obtain ⟨kept, later⟩ := ih _ h
    have remains : e ∈ (s.freeEntry x.idx).sched := kept
    rw [State.freeEntry, State.sched_schedLevel] at remains
    obtain ⟨was, other⟩ := List.mem_filter.1 remains
    refine ⟨was, fun listed => ?_⟩
    rcases List.mem_cons.1 listed with rfl | rest
    · simp at other
    · exact later rest

theorem State.inSession_eq_bit {m : Master} (port : m = .twt ∨ m = .spit) (s : State) : s.inSession m = s.b Regs.SEC_LC (sessBit m) := by
  rcases port with rfl | rfl <;> rfl

theorem sessBit_lt (m : Master) : sessBit m < 32 := by
  unfold sessBit
  split <;> decide

/-- The end of an open session: its bit is clear in the state whose entries are then cancelled. -/
theorem State.endSession_of_open {s : State} {m : Master} (h : s.inSession m = true) :
    ∃ t : State, t.w Regs.SEC_LC = (s.setB Regs.SEC_LC (sessBit m) false).w Regs.SEC_LC ∧ t.sched = s.sched ∧
      s.endSession m =
        (t.sched.filter fun e => e.master == m && e.session && !e.fired).foldl (fun (s : State) (e : SchedEntry) => s.freeEntry e.idx) t := by
  obtain ⟨word, sched⟩ := State.sameSession_foldl (fun s w => s.sameSession_shutWeld w)
    (s.weld.welds.filter fun w => w.opener == m && w.session && (w.st == .open_ || w.st == .pending))
    (s.setB Regs.SEC_LC (sessBit m) false)
  obtain ⟨word', sched'⟩ := State.sameSession_cmdqDropIf _ (fun e => e.master == m && e.session) errAccess
  exact ⟨_, word'.trans word, sched'.trans sched, if_pos h⟩

/-- Settles O56: the session's bit clears before the entries that the port armed in it are cancelled. -/
theorem sessionEndTakesBackItsActions : Obligations.SessionEndTakesBackItsActions := by
  intro s m port
  cases open_ : s.inSession m with
  | false =>
    have same : s.endSession m = s := if_neg (by simp [open_])
    exact ⟨by rw [same, open_], by simp⟩
  | true =>
    obtain ⟨closing, before, sched, ends⟩ := State.endSession_of_open open_
    rw [ends]
    refine ⟨?_, fun _ e armed => ?_⟩
    · rw [State.inSession_eq_bit port, State.b, State.w_foldl_freeEntry_SEC_LC, before, ← State.b,
        State.b_setB_same _ _ _ _ (sessBit_lt m)]
    · obtain ⟨was, notMine⟩ := State.sched_foldl_freeEntry _ _ armed
      rw [Bool.eq_false_iff]
      exact fun mine => notMine (List.mem_filter.2 ⟨was, mine⟩)

end Sys2Proof.Machine
end

section
/-!
PROOFS. Protected fallback, and channels when EXTEST or HIGHZ ends (chapters 14 and 23, R426 and R611).
-/
namespace Sys2Proof.Machine

/-! ### Protected fallback (R426) -/

/-- A state whose record of ring tests names channel 18: no stage, but CH_STAT of 18 has the key of TONGS.SAFE0. -/
def strayRing : State := { words := [(Regs.TONGS_SAFE 0, 1)], ring := [(18, { auto := false })] }

theorem w_tongsFallback_strayRing : (strayRing.tongsFallback 0).w (Regs.TONGS_SAFE 0) = 0 := by
  decide +kernel

/-- Refutes O59: fallback aborts every recorded ring test, and the abort of one on channel 18, which is no stage, writes the state field
that would be its CH_STAT; that key is TONGS.SAFE0's, so a SAFE code changes. -/
theorem not_fallbackHoldsLevelsAtSafeCodes : ¬ Obligations.FallbackHoldsLevelsAtSafeCodes := by
  intro h
  obtain ⟨-, -, -, -, levels⟩ := h strayRing 0 (by decide)
  obtain ⟨-, kept⟩ := levels 0 (by decide)
  have before : strayRing.w (Regs.TONGS_SAFE 0) = 1 := by decide
  rw [Nat.zero_div, w_tongsFallback_strayRing, before] at kept
  exact absurd kept (by decide)

/-! ### Leaving EXTEST or HIGHZ (R611) -/

theorem State.w_setWs_other (l : List (Nat × Word)) (s : State) {k : Nat} (h : ∀ x ∈ l, k ≠ x.1) : (s.setWs l).w k = s.w k := by
  unfold State.setWs
  induction l generalizing s with
  | nil => rfl
  | cons x l ih =>
    rw [List.foldl_cons, ih _ fun y hy => h y (List.mem_cons_of_mem _ hy), State.w_setW_other s _ (h x List.mem_cons_self)]

/-- The end of a ring test writes the channel's results and the words of DIAG's page. -/
theorem State.w_testEnd (s : State) (c code cls : Nat) {k : Nat} (h : k < 0x7300) : (s.testEnd c code cls).w k = s.w k := by
  have stat : k ≠ Regs.DIAG_STAT := by unfold Regs.DIAG_STAT Regs.at_; omega
  have pend : k ≠ Regs.IRQ_PEND 0x73 := by unfold Regs.IRQ_PEND Regs.at_; omega
  have results (off : Nat) : k ≠ diagKey c off := by unfold diagKey; omega
  unfold State.testEnd
  split
  · rfl
  · rw [State.event, State.event, State.w_setB_other _ _ _ pend, State.w_setB_other _ _ _ pend, State.w_setB_other _ _ _ stat,
      State.w_setB_other _ _ _ stat, State.w_setWs_other _ _ (by simp [results])]
    rfl

theorem CH_STAT_ne {c d : Nat} (h : d ≠ c) : Regs.CH_STAT d ≠ Regs.CH_STAT c := by
  unfold Regs.CH_STAT Regs.at_
  omega

theorem CH_STAT_ne_IRQ_PEND (c d : Nat) : Regs.CH_STAT d ≠ Regs.IRQ_PEND (chPage c) := by
  unfold Regs.CH_STAT Regs.IRQ_PEND Regs.at_
  omega

theorem State.chState_setChState_other (s : State) {c d : Nat} (st : Nat) (h : d ≠ c) : (s.setChState c st).chState d = s.chState d := by
  unfold State.setChState
  split
  · rfl
  · exact (State.f_event_other _ _ _ _ (CH_STAT_ne_IRQ_PEND c d)).trans (State.f_setF_other s _ _ _ _ _ (CH_STAT_ne h))

theorem State.chState_setChState_same (s : State) (c : Nat) {st : Nat} (h : st < 16) : (s.setChState c st).chState c = st := by
  unfold State.setChState
  split
  · assumption
  · exact (State.f_event_other _ _ _ _ (CH_STAT_ne_IRQ_PEND c c)).trans
      ((State.f_setF_same s _ _ _ _ (by decide)).trans (Nat.mod_eq_of_lt h))

/-- The channel is not driven (R611). -/
def State.undriven (s : State) (c : Nat) : Prop := s.chState c = chStopped ∨ s.chState c = chLatched ∨ s.chState c = chSlave

theorem State.undriven_safeChan_same (s : State) (c : Nat) : (s.safeChan c).undriven c := by
  unfold State.safeChan
  split
  · next stays => exact .inr stays
  · exact .inl (State.chState_setChState_same _ c (by decide))

theorem State.chState_safeChan_other (s : State) {c d : Nat} (hd : d < 16) (h : d ≠ c) : (s.safeChan c).chState d = s.chState d := by
  have low : Regs.CH_STAT d < 0x7300 := by
    unfold Regs.CH_STAT Regs.at_
    omega
  unfold State.safeChan
  split
  · rfl
  · rw [State.chState_setChState_other _ _ h]
    change (s.testEnd c 3 0).f (Regs.CH_STAT d) 0 4 = _
    rw [State.f, State.w_testEnd s c 3 0 low]
    rfl

theorem State.undriven_safeChan {s : State} {d : Nat} (c : Nat) (hd : d < 16) (h : s.undriven d) : (s.safeChan c).undriven d := by
  by_cases same : d = c
  · exact same ▸ s.undriven_safeChan_same d
  · rwa [State.undriven, State.chState_safeChan_other s hd same]

/-- Every channel made safe in turn: those before stay so. -/
theorem State.undriven_foldl_safeChan {d : Nat} (hd : d < 16) (l : List Nat) (s : State) (h : d ∈ l ∨ s.undriven d) :
    (l.foldl (fun (s : State) c => s.safeChan c) s).undriven d := by
  induction l generalizing s with
  | nil => exact h.resolve_left List.not_mem_nil
  | cons c l ih =>
    refine ih _ ?_
    rcases h with listed | already
    · rcases List.mem_cons.1 listed with rfl | later
      · exact .inr (s.undriven_safeChan_same d)
      · exact .inl later
    · exact .inr (State.undriven_safeChan c hd already)

theorem State.undriven_jtagIr {s : State} {d : Nat} (ir : Nat) (hd : d < 16) (h : s.undriven d) : (s.jtagIr ir).undriven d := by
  unfold State.jtagIr
  dsimp only
  split
  · exact State.undriven_foldl_safeChan hd _ _ (.inr h)
  · exact h

/-- Settles O50: what the two instructions leave is made safe channel by channel before the next instruction acts. -/
theorem leavingExtestStopsEveryChannel : Obligations.LeavingExtestStopsEveryChannel := by
  intro s ir c driven hc
  have left : (s.tst.ir == 0 || s.tst.ir == 3) = true := by rcases driven with h | h <;> simp [h]
  have safe := State.undriven_foldl_safeChan hc allChans s (.inl (List.mem_range.2 hc))
  have next := State.undriven_jtagIr ir hc safe
  change (s.jtagSelect ir).undriven c
  simp only [State.jtagSelect, left, if_true]
  split
  · exact next
  · exact next

end Sys2Proof.Machine
end

section
/-!
PROOFS. The privacy mute (chapter 16, R460 and R461): nothing that a wake or a discarded detection does touches MIC.PRIV.
-/
namespace Sys2Proof.Machine

theorem Sparse.find_filter {α : Type} (m : Sparse α) (p : Nat → Bool) {k : Nat} (h : p k = true) :
    Sparse.find (m.filter fun kv => p kv.1) k = Sparse.find m k := by
  induction m with
  | nil => rfl
  | cons x m ih =>
    by_cases here : x.1 = k
    · simp [Sparse.find, here, h]
    · rw [List.filter_cons]
      split <;> simp [Sparse.find, here, ih]

/-- Words that a reset leaves out read as before. -/
theorem State.w_resetKeys (s : State) (p : Nat → Bool) {k : Nat} (h : p k = false) : (s.resetKeys p).w k = s.w k := by
  have kept := Sparse.find_filter s.words (fun j => !p j) (k := k) (by simp [h])
  simp only [State.w, State.resetKeys, Sparse.get, kept]

/-- A step that leaves MIC.PRIV. -/
def State.SamePriv (s t : State) : Prop := t.w Regs.MIC_PRIV = s.w Regs.MIC_PRIV

theorem State.SamePriv.trans {s t u : State} (h : s.SamePriv t) (h' : t.SamePriv u) : s.SamePriv u :=
  Eq.trans h' h

theorem State.samePriv_setF (s : State) {k : Nat} (lo len v : Nat) (h : Regs.MIC_PRIV ≠ k) : s.SamePriv (s.setF k lo len v) :=
  State.w_setF_other s lo len v h

theorem State.samePriv_setB (s : State) {k : Nat} (i : Nat) (v : Bool) (h : Regs.MIC_PRIV ≠ k) : s.SamePriv (s.setB k i v) :=
  State.w_setB_other s i v h

theorem State.samePriv_setW (s : State) {k : Nat} (v : Word) (h : Regs.MIC_PRIV ≠ k) : s.SamePriv (s.setW k v) :=
  State.w_setW_other s v h

/-- The wake unit's own record holds no word. -/
theorem State.samePriv_wake (s : State) (x : WakeEng) : s.SamePriv { s with wake := x } := rfl

theorem State.samePriv_power (s : State) (x : Power) : s.SamePriv { s with power := x } := rfl

theorem State.samePriv_beginTrans (s : State) (r : Nat) : s.SamePriv (s.beginTrans r) :=
  State.samePriv_setB _ 3 true (by decide)

theorem State.samePriv_endTrans (s : State) : s.SamePriv s.endTrans :=
  State.samePriv_setB _ 3 false (by decide)

theorem State.samePriv_stopListening (s : State) : s.SamePriv s.stopListening := by
  unfold State.stopListening
  split
  · exact ((s.samePriv_setB 6 true (by decide)).trans (State.samePriv_setF _ 0 4 0 (by decide))).trans (State.samePriv_wake _ _)
  · rfl

theorem State.samePriv_wakeTo (s : State) (r : Nat) : s.SamePriv (s.wakeTo r) := by
  have reset : s.SamePriv (s.resetKeys (lostAtWake (s.pst == stEmber))) := s.w_resetKeys _ (by simp [lostAtWake])
  exact reset.trans (State.samePriv_beginTrans _ r)

/-- In WARM a request begins a transition at most. -/
theorem State.samePriv_actRequest {s : State} (r : Nat) (notForging : s.forging = false) : s.SamePriv (s.actRequest r) := by
  unfold State.actRequest
  split
  · rfl
  · split
    · exact s.samePriv_stopListening.trans (State.samePriv_wakeTo _ r)
    · rw [notForging, if_neg Bool.false_ne_true]
      exact s.samePriv_beginTrans r

theorem State.samePriv_heldRequest {s : State} (notForging : s.forging = false) : s.SamePriv s.heldRequest := by
  unfold State.heldRequest
  split
  · rfl
  · dsimp only
    split
    · exact State.samePriv_setW _ _ (by decide)
    · exact State.samePriv_actRequest (s := { s with power := { s.power with heldReq := none } }) _ notForging

theorem State.pst_endTrans (s : State) : s.endTrans.pst = s.pst := by
  have field : s.endTrans.f Regs.PWR_STAT 0 3 = s.f Regs.PWR_STAT 0 3 := State.f_setB_above _ _ _ _ _ (by decide) (by decide)
  rw [State.pst, field]
  rfl

theorem State.samePriv_wakeSource (s : State) (i : Nat) : s.SamePriv (s.wakeSource i) := by
  unfold State.wakeSource
  split
  · rfl
  · extract_lets t
    have recorded : s.SamePriv t := by
      unfold t
      split
      · exact s.samePriv_setB i true (by decide)
      · rfl
    refine recorded.trans ?_
    split
    · rfl
    · split
      · split
        · exact State.samePriv_wakeTo _ _
        · exact (State.samePriv_stopListening _).trans (State.samePriv_wakeTo _ _)
      · split
        · exact State.samePriv_wake _ _
        · split
          · next falling =>
            refine (State.samePriv_endTrans _).trans (State.samePriv_heldRequest ?_)
            simp only [State.fallingAsleep, Bool.and_eq_true, beq_iff_eq] at falling
            obtain ⟨⟨warm, -⟩, -⟩ := falling
            rw [State.forging, State.pst_endTrans, warm]
            decide
          · rfl

theorem State.samePriv_discardDetection (s : State) : s.SamePriv s.discardDetection := by
  unfold State.discardDetection
  split
  · rfl
  · next f fired =>
    split
    · extract_lets t was _ u
      have restored : s.SamePriv u :=
        (((s.samePriv_setW (k := Regs.WAKE_EVT_LO) f.lo (by decide)).trans
          (State.samePriv_setW _ (k := Regs.WAKE_EVT_HI) f.hi (by decide))).trans
          (State.samePriv_setB _ (k := Regs.PWR_WAKE_CAUSE) 4 f.cause (by decide))).trans (State.samePriv_wake _ _)
      refine restored.trans ?_
      split
      · rfl
      · split
        · exact ((State.samePriv_setB _ 6 true (by decide)).trans (State.samePriv_setF _ 0 4 0 (by decide))).trans
            (State.samePriv_beginTrans _ _)
        · exact (State.samePriv_power _ _).trans (State.samePriv_endTrans _)
    · rfl

theorem State.SamePriv.b {s t : State} (h : s.SamePriv t) (i : Nat) : t.b Regs.MIC_PRIV i = s.b Regs.MIC_PRIV i := by
  rw [State.b, h, State.b]

theorem State.SamePriv.f {s t : State} (h : s.SamePriv t) (lo len : Nat) : t.f Regs.MIC_PRIV lo len = s.f Regs.MIC_PRIV lo len := by
  rw [State.f, h, State.f]

/-- The mute's flag set and counted. -/
def State.muteCounted (s : State) : State := ((s.setB Regs.MIC_PRIV 31 true).incF Regs.MIC_PRIV 0 16).event pgMic 0

theorem State.b_muteCounted (s : State) : s.muteCounted.b Regs.MIC_PRIV 31 = true := by
  rw [State.muteCounted, State.event, State.b_setB_other _ _ _ _ (by decide), State.b_eq_f, State.incF, State.addF,
    State.f_setF_above _ _ _ _ _ _ _ (by decide) (by decide), ← State.b_eq_f, State.b_setB_same _ _ _ _ (by decide)]

theorem State.f_muteCounted (s : State) : s.muteCounted.f Regs.MIC_PRIV 0 16 = min 65535 (s.f Regs.MIC_PRIV 0 16 + 1) := by
  rw [State.muteCounted, State.f_event_other _ _ _ _ (by decide), State.f_incF_same _ _ _ _ (by decide),
    State.f_setB_above _ _ _ _ _ (by decide) (by decide)]
  rfl

/-- What an assertion leaves in MIC.PRIV is what counting it leaves: the wake and WAKE.STAT are other words. -/
theorem State.samePriv_muteAssert {s : State} (up : s.power.cold = false) (open_ : s.privacy = false) :
    s.discardDetection.muteCounted.SamePriv s.muteAssert := by
  unfold State.muteAssert
  rw [if_neg (by simp [up, open_])]
  refine State.SamePriv.trans ?_ (State.samePriv_wakeSource _ 6)
  split
  · exact State.samePriv_setB _ 7 true (by decide)
  · rfl

/-- Settles O53: the flag and the count are MIC.PRIV's, which nothing else in the assertion writes. -/
theorem privacyMuteSetsItsFlag : Obligations.PrivacyMuteSetsItsFlag := by
  intro s up
  refine ⟨fun open_ => ?_, fun muted => if_pos (.inr muted)⟩
  have asserted := State.samePriv_muteAssert up open_
  have discarded := s.samePriv_discardDetection
  rw [asserted.b, asserted.f, State.b_muteCounted, State.f_muteCounted, discarded.f]
  exact ⟨rfl, rfl⟩

end Sys2Proof.Machine
end
